-- ==== Sys2Proof/Word.lean ====
section
/-! DEFINITION. The words that pass on a station link: one byte, and the two and four byte quantities of rule R191. -/

namespace Sys2Proof

/-- One character of a station link (R173): eight data bits. -/
abbrev Byte := BitVec 8

/-- A quantity that R192 gives two bytes. -/
abbrev Half := BitVec 16

/-- A quantity that R192 gives four bytes. -/
abbrev Long := BitVec 32

end Sys2Proof
end

