-- ==== Sys2Proof/Syntax.lean ====
section
/-! DEFINITION. The names by which the manual speaks of the parts of the booth, and `Instr`: the commands of the block, one
constructor for each row of spec/opcode_table.json. A station request carries the sending station, the target byte and the
fields of its data exactly as R191 and R192 give them widths; a field event names the unit whose line it comes from. -/

namespace Sys2Proof

/-- The three stations (00_scope.md section 3). -/
inductive Station where
  | console | house | program
  deriving DecidableEq, Repr

/-- Projector sides of a screen (00_scope.md Table 4). -/
inductive Side where
  | a | b
  deriving DecidableEq, Repr

/-- Screens 1 to 4. -/
inductive ScreenNo where
  | s1 | s2 | s3 | s4
  deriving DecidableEq, Repr

/-- A projector: projector 2s − 1 is side A of screen s and projector 2s is side B (00_scope.md section 7). -/
structure ProjNo where
  screen : ScreenNo
  side : Side
  deriving DecidableEq, Repr

/-- Shutters 1 to 8 are the projection ports, shutters 9 to 12 the observation ports (R105). -/
inductive ShutterNo where
  | port (p : ProjNo)
  | observation (s : ScreenNo)
  deriving DecidableEq, Repr

/-- The four dimmer channels of a screen, in the order of Table 40. -/
inductive ChannelPos where
  | main | wall | step | wash
  deriving DecidableEq, Repr

/-- A dimmer channel: channels 4s − 3 to 4s belong to screen s (Table 40). -/
structure ChannelNo where
  screen : ScreenNo
  pos : ChannelPos
  deriving DecidableEq, Repr

/-- The two contacts of a crater sensor (R94). -/
inductive CraterContact where
  | long | short
  deriving DecidableEq, Repr

/-- The two limit switches of a curtain (R135). -/
inductive CurtainLimit where
  | openLimit | closedLimit
  deriving DecidableEq, Repr

/-- The level of a receive line (R173): mark or space. -/
inductive LineLevel where
  | mark | space
  deriving DecidableEq, Repr

/-- A request frame less its lead, length and check bytes (Table 60). -/
structure Request where
  code : Byte
  target : Byte
  data : List Byte
  deriving DecidableEq, Repr

/-- The commands of the block: one constructor for each row of spec/opcode_table.json, in the table's order. -/
inductive Instr where
  | powerOnReset
  | readBanks (st : Station) (target : Byte)
  | readBankItem (st : Station) (target selector index : Byte)
  | writeHeader (st : Station) (target : Byte) (title : List Byte) (firstSide reelCount : Byte)
  | writeReel (st : Station) (target index : Byte) (leadIn motorCue changeoverCue pictureEnd : Half) (noMarks : Byte)
      (label : List Byte)
  | writeCue (st : Station) (target anchor reel : Byte) (frame : Half) (scene : Byte) (fade : Half) (curtain : Byte)
  | deleteCue (st : Station) (target index : Byte)
  | commitBank (st : Station) (target : Byte)
  | reopenBank (st : Station) (target : Byte)
  | rotate (st : Station) (target : Byte)
  | clearComplete
  | readProjector (st : Station) (target : Byte)
  | clearProjector (st : Station) (target : Byte)
  | stopProjector (st : Station) (target : Byte)
  | threadedSwitchClose (p : ProjNo)
  | loopLost (p : ProjNo)
  | douserOpenSwitchClose (p : ProjNo)
  | douserClosedSwitchClose (p : ProjNo)
  /-- A sprocket pulse, with the time since the projector's previous pulse in units of 0.1 ms (R42, log entry 7). -/
  | sprocketPulse (p : ProjNo) (interval : Nat)
  | cueMarkPulse (p : ProjNo)
  | startFailureTimerExpiry (p : ProjNo)
  | stallTimerExpiry (p : ProjNo)
  | readTracker (st : Station) (target : Byte)
  | setCuePolicy (st : Station) (target policy window : Byte)
  | confirmationTimerExpiry (screen : ScreenNo)
  | closeWatchExpiry (screen : ScreenNo)
  | readScreen (st : Station) (target : Byte)
  | changeNow (st : Station) (target : Byte)
  | setMonitor (st : Station) (target selection : Byte)
  | silence (st : Station) (target : Byte)
  | bellCadence
  | readArc (st : Station) (target : Byte)
  | strike (st : Station) (target : Byte)
  | touchTimerExpiry (p : ProjNo)
  | proofTimerExpiry (p : ProjNo)
  | pauseTimerExpiry (p : ProjNo)
  | arcPresentReport (p : ProjNo)
  | arcReportCeases (p : ProjNo)
  | lossTimerExpiry (p : ProjNo)
  | extinguish (st : Station) (target : Byte)
  | craterContactChange (p : ProjNo) (contact : CraterContact) (closed : Bool)
  | feedHighPhaseEnd (p : ProjNo)
  | feedLowPhaseEnd (p : ProjNo)
  | retrimDone (st : Station) (target : Byte) (trimLength : Half)
  | setArc (st : Station) (target : Byte) (reserve defaultRate : Half) (highWidth lowWidth : Byte)
  | readShutter (st : Station) (target : Byte)
  | readDropMap (st : Station) (target : Byte)
  | setDropMap (st : Station) (target : Byte) (shutters : Half)
  | fireLoopActive
  | fireLoopInactive
  | dropButtonClose
  | dropButtonOpen
  | dropAll (st : Station) (target : Byte)
  | releaseManual (st : Station) (target : Byte)
  | gateHeatChange (p : ProjNo) (active : Bool)
  | homeSwitchChange (shutter : ShutterNo) (closed : Bool)
  | clearLink (st : Station) (target : Byte)
  | rearm (st : Station) (target : Byte)
  | armingTimerExpiry (shutter : ShutterNo)
  | setLevel (st : Station) (target level : Byte) (fade : Half)
  | fadeAdvance (channel : ChannelNo)
  | setScene (st : Station) (target scene main wall step wash : Byte)
  | recallScene (st : Station) (target scene : Byte) (fade : Half)
  | curtain (st : Station) (target action : Byte)
  | limitSwitchChange (screen : ScreenNo) (limit : CurtainLimit) (closed : Bool)
  | travelTimerExpiry (screen : ScreenNo)
  | setCurtainTime (st : Station) (target seconds : Byte)
  | setStanding (st : Station) (target main wall step wash : Byte) (fade : Half) (hold : Byte)
  | deleteStanding (st : Station) (target : Byte)
  | releaseHold (st : Station) (target : Byte)
  | readHouse (st : Station) (target : Byte)
  | readScene (st : Station) (target scene : Byte)
  | readStanding (st : Station) (target : Byte)
  | mainsPulse
  | oneSecondEvent
  | setClock (st : Station) (target : Byte) (timeOfDay : Long)
  | setStarts (st : Station) (target : Byte) (times : List Half)
  | callInstant (screen : ScreenNo)
  | startInstant (screen : ScreenNo)
  | holdLimit (screen : ScreenNo)
  | startShow (st : Station) (target : Byte)
  | stopShow (st : Station) (target : Byte)
  | readShow (st : Station) (target : Byte)
  | readDuty (st : Station) (target : Byte)
  /-- A character on a link's RXD as its stop bit is sampled: the data bits, the parity bit (looked at only when the link's
  mode has one) and the level of the stop bit (R173). -/
  | receiveCharacter (st : Station) (data : Byte) (parityBit : Bool) (stopBit : LineLevel)
  | gapTimerExpiry (st : Station)
  | replyComplete (st : Station)
  | lineBreakReset (st : Station)
  | setLine (st : Station) (target mode : Byte)
  | readStatus (st : Station) (target : Byte)
  | armAttention (st : Station) (target : Byte) (classes : Half)
  | readAttention (st : Station) (target : Byte)
  | rxdLevelChange (st : Station) (level : LineLevel)
  | mainPowerLoss
  | standbySupplyLoss
  deriving DecidableEq, Repr

end Sys2Proof
end

