-- ==== Sys2Proof/Decode.lean ====
section
/-! DEFINITION. The words that spell a command. No row of spec/opcode_table.json gives bits, so no word spells one. Below it
stand the request frames of rule R191: the code, target and data bytes of every station request, written and read. -/

namespace Sys2Proof

/-- The command that a word of `nbits` bits spells by the table's bits: none, since the table gives no row any. -/
def decodeTableWord (_nbits _w : Nat) : Option Instr := none

/-- The two bytes of a quantity, most significant first (R191). -/
def Half.bytes (h : Half) : List Byte := [h.extractLsb' 8 8, h.extractLsb' 0 8]

def Half.ofBytes (hi lo : Byte) : Half := hi ++ lo

/-- The four bytes of a quantity, most significant first (R191). -/
def Long.bytes (l : Long) : List Byte := [l.extractLsb' 24 8, l.extractLsb' 16 8, l.extractLsb' 8 8, l.extractLsb' 0 8]

def Long.ofBytes (b3 b2 b1 b0 : Byte) : Long := b3 ++ b2 ++ b1 ++ b0

/-- A list of two-byte quantities from its bytes; `none` for an odd count. -/
def halvesOf : List Byte → Option (List Half)
  | [] => some []
  | [_] => none
  | a :: b :: rest => (halvesOf rest).map (Half.ofBytes a b :: ·)

/-- The station and the request of a request command (Table 62); none for an event. -/
def encodeRequest : Instr → Option (Station × Request)
  | .readBanks st t => some (st, ⟨0x10#8, t, []⟩)
  | .readBankItem st t sel i => some (st, ⟨0x11#8, t, [sel, i]⟩)
  | .writeHeader st t title side count => some (st, ⟨0x12#8, t, title ++ [side, count]⟩)
  | .writeReel st t i lead m x e marks label =>
    some (st, ⟨0x13#8, t, i :: (lead.bytes ++ m.bytes ++ x.bytes ++ e.bytes ++ marks :: label)⟩)
  | .writeCue st t anchor reel frame scene fade curtain =>
    some (st, ⟨0x14#8, t, anchor :: reel :: (frame.bytes ++ scene :: (fade.bytes ++ [curtain]))⟩)
  | .deleteCue st t i => some (st, ⟨0x15#8, t, [i]⟩)
  | .commitBank st t => some (st, ⟨0x16#8, t, []⟩)
  | .reopenBank st t => some (st, ⟨0x17#8, t, []⟩)
  | .rotate st t => some (st, ⟨0x18#8, t, []⟩)
  | .readProjector st t => some (st, ⟨0x20#8, t, []⟩)
  | .clearProjector st t => some (st, ⟨0x21#8, t, []⟩)
  | .stopProjector st t => some (st, ⟨0x22#8, t, []⟩)
  | .readTracker st t => some (st, ⟨0x28#8, t, []⟩)
  | .setCuePolicy st t policy window => some (st, ⟨0x29#8, t, [policy, window]⟩)
  | .readScreen st t => some (st, ⟨0x30#8, t, []⟩)
  | .changeNow st t => some (st, ⟨0x31#8, t, []⟩)
  | .setMonitor st t sel => some (st, ⟨0x32#8, t, [sel]⟩)
  | .silence st t => some (st, ⟨0x33#8, t, []⟩)
  | .readArc st t => some (st, ⟨0x40#8, t, []⟩)
  | .strike st t => some (st, ⟨0x41#8, t, []⟩)
  | .extinguish st t => some (st, ⟨0x42#8, t, []⟩)
  | .retrimDone st t trim => some (st, ⟨0x43#8, t, trim.bytes⟩)
  | .setArc st t reserve rate high low => some (st, ⟨0x44#8, t, reserve.bytes ++ rate.bytes ++ [high, low]⟩)
  | .readShutter st t => some (st, ⟨0x50#8, t, []⟩)
  | .readDropMap st t => some (st, ⟨0x51#8, t, []⟩)
  | .dropAll st t => some (st, ⟨0x52#8, t, []⟩)
  | .releaseManual st t => some (st, ⟨0x53#8, t, []⟩)
  | .clearLink st t => some (st, ⟨0x54#8, t, []⟩)
  | .rearm st t => some (st, ⟨0x55#8, t, []⟩)
  | .setDropMap st t set => some (st, ⟨0x56#8, t, set.bytes⟩)
  | .readHouse st t => some (st, ⟨0x60#8, t, []⟩)
  | .readScene st t scene => some (st, ⟨0x61#8, t, [scene]⟩)
  | .readStanding st t => some (st, ⟨0x62#8, t, []⟩)
  | .setLevel st t level fade => some (st, ⟨0x63#8, t, level :: fade.bytes⟩)
  | .recallScene st t scene fade => some (st, ⟨0x64#8, t, scene :: fade.bytes⟩)
  | .curtain st t action => some (st, ⟨0x65#8, t, [action]⟩)
  | .releaseHold st t => some (st, ⟨0x66#8, t, []⟩)
  | .setScene st t scene a b c d => some (st, ⟨0x67#8, t, [scene, a, b, c, d]⟩)
  | .setStanding st t a b c d fade hold => some (st, ⟨0x68#8, t, a :: b :: c :: d :: (fade.bytes ++ [hold])⟩)
  | .deleteStanding st t => some (st, ⟨0x69#8, t, []⟩)
  | .setCurtainTime st t seconds => some (st, ⟨0x6A#8, t, [seconds]⟩)
  | .readShow st t => some (st, ⟨0x70#8, t, []⟩)
  | .setClock st t time => some (st, ⟨0x71#8, t, time.bytes⟩)
  | .setStarts st t times => some (st, ⟨0x72#8, t, times.flatMap Half.bytes⟩)
  | .startShow st t => some (st, ⟨0x73#8, t, []⟩)
  | .stopShow st t => some (st, ⟨0x74#8, t, []⟩)
  | .readDuty st t => some (st, ⟨0x78#8, t, []⟩)
  | .readStatus st t => some (st, ⟨0x7C#8, t, []⟩)
  | .setLine st t mode => some (st, ⟨0x7D#8, t, [mode]⟩)
  | .armAttention st t classes => some (st, ⟨0x7E#8, t, classes.bytes⟩)
  | .readAttention st t => some (st, ⟨0x7F#8, t, []⟩)
  | _ => none

/-- The requests of the bank store, codes 10h to 18h. -/
def decodeBanks (st : Station) (r : Request) : Option Instr :=
  match r.code.toNat, r.data with
  | 0x10, [] => some (.readBanks st r.target)
  | 0x11, [sel, i] => some (.readBankItem st r.target sel i)
  | 0x12, d =>
    match d.drop 16 with
    | [side, count] => some (.writeHeader st r.target (d.take 16) side count)
    | _ => none
  | 0x13, i :: l1 :: l0 :: m1 :: m0 :: x1 :: x0 :: e1 :: e0 :: marks :: label =>
    if label.length = 10 then
      some (.writeReel st r.target i (.ofBytes l1 l0) (.ofBytes m1 m0) (.ofBytes x1 x0) (.ofBytes e1 e0) marks label)
    else none
  | 0x14, [anchor, reel, f1, f0, scene, t1, t0, curtain] =>
    some (.writeCue st r.target anchor reel (.ofBytes f1 f0) scene (.ofBytes t1 t0) curtain)
  | 0x15, [i] => some (.deleteCue st r.target i)
  | 0x16, [] => some (.commitBank st r.target)
  | 0x17, [] => some (.reopenBank st r.target)
  | 0x18, [] => some (.rotate st r.target)
  | _, _ => none

/-- The requests of the projection side, codes 20h to 44h. -/
def decodeProjection (st : Station) (r : Request) : Option Instr :=
  match r.code.toNat, r.data with
  | 0x20, [] => some (.readProjector st r.target)
  | 0x21, [] => some (.clearProjector st r.target)
  | 0x22, [] => some (.stopProjector st r.target)
  | 0x28, [] => some (.readTracker st r.target)
  | 0x29, [policy, window] => some (.setCuePolicy st r.target policy window)
  | 0x30, [] => some (.readScreen st r.target)
  | 0x31, [] => some (.changeNow st r.target)
  | 0x32, [sel] => some (.setMonitor st r.target sel)
  | 0x33, [] => some (.silence st r.target)
  | 0x40, [] => some (.readArc st r.target)
  | 0x41, [] => some (.strike st r.target)
  | 0x42, [] => some (.extinguish st r.target)
  | 0x43, [t1, t0] => some (.retrimDone st r.target (.ofBytes t1 t0))
  | 0x44, [r1, r0, d1, d0, high, low] =>
    some (.setArc st r.target (.ofBytes r1 r0) (.ofBytes d1 d0) high low)
  | _, _ => none

/-- The requests of the shutter unit and the house unit, codes 50h to 6Ah. -/
def decodeHouse (st : Station) (r : Request) : Option Instr :=
  match r.code.toNat, r.data with
  | 0x50, [] => some (.readShutter st r.target)
  | 0x51, [] => some (.readDropMap st r.target)
  | 0x52, [] => some (.dropAll st r.target)
  | 0x53, [] => some (.releaseManual st r.target)
  | 0x54, [] => some (.clearLink st r.target)
  | 0x55, [] => some (.rearm st r.target)
  | 0x56, [s1, s0] => some (.setDropMap st r.target (.ofBytes s1 s0))
  | 0x60, [] => some (.readHouse st r.target)
  | 0x61, [scene] => some (.readScene st r.target scene)
  | 0x62, [] => some (.readStanding st r.target)
  | 0x63, [level, f1, f0] => some (.setLevel st r.target level (.ofBytes f1 f0))
  | 0x64, [scene, f1, f0] => some (.recallScene st r.target scene (.ofBytes f1 f0))
  | 0x65, [action] => some (.curtain st r.target action)
  | 0x66, [] => some (.releaseHold st r.target)
  | 0x67, [scene, a, b, c, d] => some (.setScene st r.target scene a b c d)
  | 0x68, [a, b, c, d, f1, f0, hold] => some (.setStanding st r.target a b c d (.ofBytes f1 f0) hold)
  | 0x69, [] => some (.deleteStanding st r.target)
  | 0x6A, [seconds] => some (.setCurtainTime st r.target seconds)
  | _, _ => none

/-- The requests of the scheduler, the duty unit, the links and the attention unit, codes 70h to 7Fh. -/
def decodeBooth (st : Station) (r : Request) : Option Instr :=
  match r.code.toNat, r.data with
  | 0x70, [] => some (.readShow st r.target)
  | 0x71, [a, b, c, d] => some (.setClock st r.target (.ofBytes a b c d))
  | 0x72, d => (halvesOf d).map fun times => .setStarts st r.target times
  | 0x73, [] => some (.startShow st r.target)
  | 0x74, [] => some (.stopShow st r.target)
  | 0x78, [] => some (.readDuty st r.target)
  | 0x7C, [] => some (.readStatus st r.target)
  | 0x7D, [mode] => some (.setLine st r.target mode)
  | 0x7E, [c1, c0] => some (.armAttention st r.target (.ofBytes c1 c0))
  | 0x7F, [] => some (.readAttention st r.target)
  | _, _ => none

/-- The request command of a request frame from a station (Table 62): none when the code names no request, or the data
count is not one its layout allows. -/
def decodeRequest (st : Station) (r : Request) : Option Instr :=
  if r.code.toNat < 0x20 then decodeBanks st r
  else if r.code.toNat < 0x50 then decodeProjection st r
  else if r.code.toNat < 0x70 then decodeHouse st r
  else decodeBooth st r

end Sys2Proof
end

