-- ==== Sys2Proof/Config.lean ====
section
/-! DEFINITION. The free values of the model: what the manual leaves open. Each is a constant with no body, so
no proof can see its value, and a statement that holds is true whatever it is. -/

namespace Sys2Proof.Config

/-- The outcome of a choice between two orders that the manual says may both occur (R77, R134, R157, R167). The machine
applies it to `State.free`, which rises at every use, so that each choice is a fresh one. Log entry 3. -/
opaque freeBit : Nat → Bool

/-- Which of several blocks' attention causes of one class reaches the attention unit first (R186). Applied to
`State.free`, like `freeBit`. Log entry 4. -/
opaque freePick : Nat → Nat

/-- What a signed four-byte field holds for seconds that it cannot hold. The manual states no such value (R192, log
entry 27). -/
opaque freeSigned : Int → BitVec 32

end Sys2Proof.Config
end

