-- ==== Sys2Proof/Machine/State.lean ====
section
/-! DEFINITION. The state of the booth controller as plain data, block by block (00_scope.md Table 1), and its value after a
power-on reset that finds the retained store invalid. -/

namespace Sys2Proof.Machine

/-! ## Tables indexed by the names of the booth -/

/-- One value for each screen. -/
structure ByScreen (α : Type) where
  s1 : α
  s2 : α
  s3 : α
  s4 : α
  deriving DecidableEq, Repr

/-- One value for each projector, in the order of the codes 1 to 8. -/
structure ByProj (α : Type) where
  p1a : α
  p1b : α
  p2a : α
  p2b : α
  p3a : α
  p3b : α
  p4a : α
  p4b : α
  deriving DecidableEq, Repr

/-- One value for each shutter: ports 1 to 8, observation ports 9 to 12 (R105). -/
structure ByShutter (α : Type) where
  ports : ByProj α
  observation : ByScreen α
  deriving DecidableEq, Repr

/-- One value for each of MAIN, WALL, STEP and WASH. -/
structure ByPos (α : Type) where
  main : α
  wall : α
  step : α
  wash : α
  deriving DecidableEq, Repr

/-- One value for each station. -/
structure ByStation (α : Type) where
  console : α
  house : α
  program : α
  deriving DecidableEq, Repr

/-- Banks of a screen are numbered 0, 1 and 2. -/
inductive BankNo where
  | b0 | b1 | b2
  deriving DecidableEq, Repr

/-- One value for each bank of a screen. -/
structure ByBank (α : Type) where
  b0 : α
  b1 : α
  b2 : α
  deriving DecidableEq, Repr

/-- The attention classes of Table 57, in its order. -/
inductive AttnClass where
  | fire | filmBreak | shutter | arc | change | shows | house | duty | link
  deriving DecidableEq, Repr

/-- One value for each attention class. -/
structure ByClass (α : Type) where
  fire : α
  filmBreak : α
  shutter : α
  arc : α
  change : α
  shows : α
  house : α
  duty : α
  link : α
  deriving DecidableEq, Repr

/-! ## Bank store (R1, R2, R7, R8) -/

/-- The three roles of R1. -/
inductive Role where
  | current | next | spare
  deriving DecidableEq, Repr

/-- Table 6. -/
inductive BankState where
  | empty | draft | complete | clearing
  deriving DecidableEq, Repr

/-- The header of a bank (R2): title, first side, reel count. -/
structure Header where
  title : List Byte
  firstSide : Side
  reelCount : Nat
  deriving DecidableEq, Repr

/-- A reel record (R7). An absent lead-in is read as 192. -/
structure Reel where
  leadIn : Option Nat
  motorCue : Nat
  changeoverCue : Nat
  pictureEnd : Nat
  noMarks : Bool
  label : Option (List Byte)
  deriving DecidableEq, Repr

/-- The anchor of a house cue (R8). -/
inductive Anchor where
  | showStart
  | reelFrame (reel frame : Nat)
  | showEnd
  deriving DecidableEq, Repr

/-- A curtain action of a cue (R8) or of CURTAIN (R136). -/
inductive CurtainAction where
  | opn | close | stop
  deriving DecidableEq, Repr

/-- A scene action (R8): scene 1 to 8 and fade time in steps of 0.1 s. -/
structure SceneAction where
  scene : Nat
  fade : Nat
  deriving DecidableEq, Repr

/-- A house cue entry (R8). -/
structure Cue where
  anchor : Anchor
  scene : Option SceneAction
  curtain : Option CurtainAction
  deriving DecidableEq, Repr

/-- A program bank (R1, R2). -/
structure Bank where
  role : Role
  state : BankState
  header : Option Header
  reels : Vector (Option Reel) 12
  cues : List Cue
  starts : List Nat
  deriving DecidableEq, Repr

/-! ## Other retained items -/

/-- A cue policy (R58). -/
inductive Policy where
  | mark | count | either
  deriving DecidableEq, Repr

/-- The cue policy and window of a screen (R58). -/
structure CuePolicy where
  policy : Policy
  window : Nat
  deriving DecidableEq, Repr

/-- The monitor selection (R81). -/
inductive Monitor where
  | follow
  | screen (s : ScreenNo)
  deriving DecidableEq, Repr

/-- The retained part of an arc record (R84): carbon account, settings and burn history. -/
structure ArcStore where
  remaining : Nat
  stepsSinceTrim : Nat
  trimLength : Nat
  reserve : Nat
  defaultRate : Nat
  highWidth : Nat
  lowWidth : Nat
  history : List Nat
  deriving DecidableEq, Repr

/-- A set of shutters. -/
abbrev ShutterSet := ByShutter Bool

/-- The changeable entries of the drop map (R108). The FIRE and MANUAL entries always hold all twelve shutters. -/
structure DropMap where
  breaks : ByProj ShutterSet
  heats : ByProj ShutterSet
  links : ByShutter ShutterSet
  deriving DecidableEq, Repr

/-- A scene (R128): four optional levels. -/
abbrev Levels := ByPos (Option Nat)

/-- An entry of the standing table (R139). -/
structure StandingEntry where
  levels : Levels
  fade : Nat
  hold : Bool
  deriving DecidableEq, Repr

/-- The ten keys of the standing table (Table 42). -/
inductive StandingKey where
  | fire
  | filmBreak (s : ScreenNo)
  | arcFault (s : ScreenNo)
  | power
  deriving DecidableEq, Repr

/-- The standing table (R139): at most one entry for each key. -/
structure StandingTable where
  fire : Option StandingEntry
  breaks : ByScreen (Option StandingEntry)
  arcFaults : ByScreen (Option StandingEntry)
  power : Option StandingEntry
  deriving DecidableEq, Repr

/-- The retained run marks of a projector (R39). -/
structure RunMarks where
  filmOn : Bool
  reel : Option Nat
  counter : Nat
  deriving DecidableEq, Repr

/-- The retained store (00_scope.md section 5): what the standby supply keeps through a loss of main power. The
rotation-pending flags are among it (R19). -/
structure Retained where
  markerValid : Bool
  banks : ByScreen (ByBank Bank)
  rotationPending : ByScreen Bool
  cuePolicy : ByScreen CuePolicy
  monitor : Monitor
  arcs : ByProj ArcStore
  dropMap : DropMap
  scenes : ByScreen (Vector Levels 8)
  standing : StandingTable
  travelTime : ByScreen Nat
  runMarks : ByProj RunMarks
  dayOffset : Nat
  deriving DecidableEq, Repr

/-! ## Clear engine (R17, R18) -/

/-- A bank named by screen and bank number (R17). -/
structure BankRef where
  screen : ScreenNo
  bank : BankNo
  deriving DecidableEq, Repr

/-- The clear queue, head first, and the time left in ms of the clear of its head. -/
structure BankUnit where
  queue : List BankRef
  clearLeft : Option Nat
  deriving DecidableEq, Repr

/-! ## Projector units (R21) -/

/-- Table 11. -/
inductive RunState where
  | empty | threaded | starting | running | showing | runout | halted
  deriving DecidableEq, Repr

/-- Halt causes, in the order of Table 12. -/
inductive HaltCause where
  | filmBreak | stall | startFail | shutter | fire | stop | douser | power
  deriving DecidableEq, Repr

/-- The level of the douser drive (R21). -/
inductive DouserCommand where
  | opened | closed
  deriving DecidableEq, Repr

/-- The projector record (R21) less its code and less the counter, which the tracker keeps (R40). -/
structure Projector where
  runState : RunState
  loaded : Option Nat
  assigned : Option Nat
  haltCause : Option HaltCause
  midReel : Bool
  douser : DouserCommand
  deriving DecidableEq, Repr

/-! ## Trackers (R40, R49) -/

/-- How a cue was taken (R49). -/
inductive CueSource where
  | mark | count
  deriving DecidableEq, Repr

/-- The status of a cue (R49). -/
inductive CueStatus where
  | pending
  | taken (frame : Nat) (source : CueSource)
  | missed
  deriving DecidableEq, Repr

/-- The two cues of a reel (section 3.5). -/
inductive CueKind where
  | motor | changeover
  deriving DecidableEq, Repr

/-- A cue context (R49). -/
structure CueContext where
  policy : Policy
  window : Nat
  motor : CueStatus
  changeover : CueStatus
  strays : Nat
  fallenBack : Bool
  deriving DecidableEq, Repr

/-- The tracker record (R40). Timers hold their time left in ms. `timing` says that a counted pulse has started the
interval capture since the motor came on (R42). -/
structure Tracker where
  counter : Nat
  lastInterval : Nat
  inBand : Nat
  outBand : Nat
  atSpeed : Bool
  startTimer : Option Nat
  stallTimer : Option Nat
  timing : Bool
  context : Option CueContext
  deriving DecidableEq, Repr

/-! ## Changeover sequencers, monitor and bell (R60, R81, R82) -/

/-- Table 21. -/
inductive ScreenState where
  | dark | starting | single | armed | rolling | swapping | final
  deriving DecidableEq, Repr

/-- The reason codes of Table 64. -/
inductive Reason where
  | standbyState | standbyReel | arc | shutter | carbon | fire | bank | screen | projectorState | projectorReel
  deriving DecidableEq, Repr

/-- The result of an arming check or a readiness test (R60, R148). -/
inductive TestResult where
  | none
  | pass
  | fail (r : Reason)
  deriving DecidableEq, Repr

/-- A timer that runs for one named projector (R60): the projector and the time left in ms. -/
structure NamedTimer where
  projector : ProjNo
  left : Nat
  deriving DecidableEq, Repr

/-- The screen changeover record (R60). -/
structure Screen where
  state : ScreenState
  opening : Option ProjNo
  showingSide : Option Side
  currentReel : Option Nat
  lateMotor : Bool
  swapPending : Bool
  swapFailed : Bool
  immediate : Bool
  sound : Side
  confirmTimer : Option NamedTimer
  closeWatch : Option NamedTimer
  arming : TestResult
  deriving DecidableEq, Repr

/-- The changeover bell (R82, R83). A present requester holds its silenced mark; an absent one is `none`. -/
structure Bell where
  late : ByScreen (Option Bool)
  held : ByScreen (Option Bool)
  output : Bool
  cadenceLeft : Option Nat
  deriving DecidableEq, Repr

/-- What the four sequencers share: the followed screen (R81) and the bell. -/
structure Booth where
  followed : ScreenNo
  bell : Bell
  deriving DecidableEq, Repr

/-! ## Arc units (R84) -/

/-- Table 26. -/
inductive ArcState where
  | off | striking | burning | fault | spent
  deriving DecidableEq, Repr

/-- The phases of a strike attempt (R88, R89). -/
inductive StrikePhase where
  | touch | proof | pause
  deriving DecidableEq, Repr

/-- A strike phase with the time left of its timer in ms. -/
structure PhaseTimer where
  phase : StrikePhase
  left : Nat
  deriving DecidableEq, Repr

/-- The feed train (R95): the held widths and the time left of the present phase in ms. -/
inductive FeedTrain where
  | idle
  | high (highWidth lowWidth left : Nat)
  | low (highWidth lowWidth left : Nat)
  deriving DecidableEq, Repr

/-- The part of the arc record that is not retained (R84). -/
structure Arc where
  state : ArcState
  phase : Option PhaseTimer
  attempts : Nat
  lossTimer : Option Nat
  low : Bool
  sensorReported : Bool
  train : FeedTrain
  showing : Bool
  frames : Nat
  steps : Nat
  mark : Option Nat
  deriving DecidableEq, Repr

/-! ## Shutter unit (R105, R106) -/

/-- Table 33. -/
inductive ShutterState where
  | up | dropped | arming
  deriving DecidableEq, Repr

/-- A cause that holds a shutter down: a pair of Table 34. -/
inductive DropCause where
  | power
  | fire
  | manual
  | filmBreak (p : ProjNo)
  | heat (p : ProjNo)
  | link (s : ShutterNo)
  deriving DecidableEq, Repr

/-- A cause set (R106): for each of the 31 pairs of Table 34, whether it is held. -/
structure CauseSet where
  power : Bool
  fire : Bool
  manual : Bool
  breaks : ByProj Bool
  heats : ByProj Bool
  links : ByShutter Bool
  deriving DecidableEq, Repr

/-- The shutter record (R105). `energised` is the hold solenoid, `homeClosed` the home switch level last reported. -/
structure Shutter where
  state : ShutterState
  causes : CauseSet
  lastDrop : DropCause
  energised : Bool
  armingTimer : Option Nat
  homeClosed : Bool
  deriving DecidableEq, Repr

/-- The shutter unit's records (R105). -/
structure ShutterUnit where
  shutters : ByShutter Shutter
  fireActive : Bool
  buttonClosed : Bool
  deriving DecidableEq, Repr

/-- The thirty trigger keys of the drop map (R108). -/
inductive TriggerKey where
  | fire
  | manual
  | filmBreak (p : ProjNo)
  | heat (p : ProjNo)
  | link (s : ShutterNo)
  deriving DecidableEq, Repr

/-! ## House unit (R125, R130, R135) -/

/-- A fade (R125): `advanceLeft` is the time in ms to its next advance (R126). -/
structure Fade where
  start : Nat
  target : Nat
  total : Nat
  elapsed : Nat
  advanceLeft : Nat
  deriving DecidableEq, Repr

/-- A channel record (R125). -/
structure Channel where
  level : Nat
  fade : Option Fade
  holder : Option StandingKey
  deriving DecidableEq, Repr

/-- Table 41. -/
inductive CurtainState where
  | closed | opening | opened | closing | halfway | stalled
  deriving DecidableEq, Repr

/-- A curtain record (R135) less its retained travel time. The limits are true when the switch is CLOSED. -/
structure Curtain where
  state : CurtainState
  timer : Option Nat
  openLimit : Bool
  closedLimit : Bool
  deriving DecidableEq, Repr

/-- The house unit's records that are not retained. Bit i − 1 of `marks` is the firing mark of place i (R130). -/
structure House where
  channels : ByScreen (ByPos Channel)
  curtains : ByScreen Curtain
  marks : ByScreen Half
  deriving DecidableEq, Repr

/-! ## Booth clock and show scheduler (R145, R146, R148) -/

/-- The booth clock (R145, R146). `pulses` counts the mains pulses of the present group. -/
structure Clock where
  boothSeconds : Nat
  pulses : Nat
  unset : Bool
  deriving DecidableEq, Repr

/-- Table 45. -/
inductive ShowState where
  | waiting | called | held | playing
  deriving DecidableEq, Repr

/-- The next start of a show (R148): start minute, and the start, call and hold limit instants in booth seconds. -/
structure NextStart where
  minute : Nat
  start : Nat
  call : Nat
  hold : Option Nat
  deriving DecidableEq, Repr

/-- The show record (R148). -/
structure ShowRec where
  state : ShowState
  next : Option NextStart
  readiness : TestResult
  deriving DecidableEq, Repr

/-! ## Duty unit (R160) -/

/-- The key of a duty entry (R160): its kind with its target. -/
inductive DutyKey where
  | thread (p : ProjNo)
  | strike (p : ProjNo)
  | retrim (p : ProjNo)
  | rearm (s : ShutterNo)
  deriving DecidableEq, Repr

/-- An entry of the duty list (R160). -/
structure DutyEntry where
  key : DutyKey
  reel : Option Nat
  due : Nat
  overdue : Bool
  deriving DecidableEq, Repr

/-! ## Link units (R172) -/

/-- Table 52. -/
inductive ReceiveState where
  | idle | inFrame | pending | replying
  deriving DecidableEq, Repr

/-- Parity modes, in the order of R172. -/
inductive Parity where
  | none | even | odd | mark | space
  deriving DecidableEq, Repr

/-- Baud rates (R172). -/
inductive Baud where
  | b1200 | b2400 | b4800 | b9600
  deriving DecidableEq, Repr

/-- The characters of a frame received so far, the lead byte first, with the bad mark and the time left of the gap timer
in ms (R172). The data count of R172 is the second character. -/
structure Collection where
  chars : List Byte
  bad : Bool
  gapLeft : Nat
  deriving DecidableEq, Repr

/-- The link record (R172). `awaitMark` says that a framing error has been seen and the line has not returned to mark
(R173). -/
structure Link where
  state : ReceiveState
  collection : Option Collection
  outstanding : Option Request
  reply : Option (List Byte)
  parity : Parity
  parityToApply : Option Parity
  baud : Baud
  breakTimer : Option Nat
  breakTaken : Bool
  awaitMark : Bool
  deriving DecidableEq, Repr

/-! ## Attention unit (R184) -/

/-- An attention cause with its origin and arguments (Table 58). -/
inductive AttnCause where
  | fireActive
  | fireClear
  | filmBreak (p : ProjNo)
  | drop (key : TriggerKey)
  | up (s : ShutterNo)
  | armTimeout (s : ShutterNo)
  | lit (p : ProjNo)
  | arcFail (p : ProjNo)
  | lost (p : ProjNo)
  | sensor (p : ProjNo)
  | low (p : ProjNo)
  | spent (p : ProjNo)
  | arcOut (p : ProjNo) (s : ShutterNo)
  | missed (p : ProjNo) (cue : CueKind)
  | stray (p : ProjNo)
  | halt (p : ProjNo) (cause : HaltCause)
  | unarmed (s : ScreenNo) (reason : TestResult)
  | late (s : ScreenNo)
  | revert (s : ScreenNo)
  | rescue (s : ScreenNo)
  | dark (s : ScreenNo)
  | done (s : ScreenNo) (reel : Nat)
  | stuck (p : ProjNo)
  | rotated (s : ScreenNo)
  | cleared (s : ScreenNo)
  | stopped (s : ScreenNo)
  | showEnded (s : ScreenNo)
  | called (s : ScreenNo) (minute : Nat)
  | started (s : ScreenNo) (minute : Option Nat)
  | startMissed (s : ScreenNo) (minute : Nat)
  | held (s : ScreenNo) (reason : TestResult)
  | resume (s : ScreenNo) (reel : Nat)
  | stall (s : ScreenNo)
  | standing (key : StandingKey)
  | overflow (key : DutyKey)
  | overdue (key : DutyKey)
  | gap (st : Station)
  | overrun (st : Station)
  deriving DecidableEq, Repr

/-- A pending entry (R184): occurrence count and last origin. -/
structure AttnEntry where
  count : Nat
  last : AttnCause
  deriving DecidableEq, Repr

/-- An attention record (R184): pending set and armed set. -/
structure Attention where
  pending : ByClass (Option AttnEntry)
  armed : ByClass Bool
  deriving DecidableEq, Repr

/-! ## Pins -/

/-- The levels of a link's two rate straps (R172), true for high. -/
structure RateStraps where
  rate1 : Bool
  rate0 : Bool
  deriving DecidableEq, Repr

/-- The input levels that a rule reads after the event that changed them (00_scope.md Tables 2 and 5): the fire loop
(active), the drop button, heat lines, home switches, arc sensors, crater contacts and curtain limits (closed or active
when true), the straps, and RXD. -/
structure Pins where
  fireLoop : Bool
  dropButton : Bool
  gateHeat : ByProj Bool
  home : ByShutter Bool
  arcPresent : ByProj Bool
  craterLong : ByProj Bool
  craterShort : ByProj Bool
  openLimit : ByScreen Bool
  closedLimit : ByScreen Bool
  msel : Bool
  rates : ByStation RateStraps
  rxd : ByStation LineLevel
  deriving DecidableEq, Repr

/-! ## The step in progress -/

/-- The notices that the duty unit has yet to take in the present step (section 9). -/
inductive DutyNotice where
  | projector (p : ProjNo)
  | screen (s : ScreenNo)
  | retrim (p : ProjNo)
  | low (p : ProjNo)
  | lowCleared (p : ProjNo)
  | carbonShort (p : ProjNo)
  | dropped (s : ShutterNo)
  | up (s : ShutterNo)
  deriving DecidableEq, Repr

/-- The block that posts an attention cause (R186). -/
inductive Block where
  | bankStore
  | clearEngine
  | projector (p : ProjNo)
  | tracker (p : ProjNo)
  | sequencer (s : ScreenNo)
  | arc (p : ProjNo)
  | shutterUnit
  | houseUnit
  | scheduler
  | dutyUnit
  | link (st : Station)
  deriving DecidableEq, Repr

/-- What has been sent in the present step and not yet taken: arming checks and readiness tests due, notices to the duty
unit in the order sent, and causes posted. It is empty between steps (log entry 5). -/
structure Work where
  arm : ByScreen Bool
  retest : ByScreen Bool
  duty : List DutyNotice
  posts : List (Block × AttnCause)
  deriving DecidableEq, Repr

/-! ## The state -/

/-- The whole part, its pins, and the queue of commands that wait. -/
structure State where
  retained : Retained
  powered : Bool
  bankUnit : BankUnit
  projectors : ByProj Projector
  trackers : ByProj Tracker
  screens : ByScreen Screen
  booth : Booth
  arcs : ByProj Arc
  shutterUnit : ShutterUnit
  house : House
  clock : Clock
  shows : ByScreen ShowRec
  duty : List DutyEntry
  links : ByStation Link
  powerRestored : Bool
  attention : ByStation Attention
  pins : Pins
  work : Work
  free : Nat
  pending : List Instr
  deriving DecidableEq, Repr

/-- No command of the table stops the part, so there is no fault. -/
inductive Fault where
  deriving DecidableEq, Repr

/-- Why a step answers no state. -/
inductive Refusal where
  /-- Raised by exec's arm of a command that has no meaning yet; safe. No arm raises it. -/
  | notModelled (mnemonic : String)
  deriving DecidableEq, Repr

/-- What a step answers. -/
abbrev Result := Host.Outcome State Fault Refusal

/-! ## Reading and writing the tables -/

def ByScreen.const {α : Type} (x : α) : ByScreen α := ⟨x, x, x, x⟩

def ByScreen.get {α : Type} (v : ByScreen α) : ScreenNo → α
  | .s1 => v.s1
  | .s2 => v.s2
  | .s3 => v.s3
  | .s4 => v.s4

def ByScreen.set {α : Type} (v : ByScreen α) (i : ScreenNo) (x : α) : ByScreen α :=
  match i with
  | .s1 => { v with s1 := x }
  | .s2 => { v with s2 := x }
  | .s3 => { v with s3 := x }
  | .s4 => { v with s4 := x }

def ByScreen.map {α β : Type} (f : α → β) (v : ByScreen α) : ByScreen β := ⟨f v.s1, f v.s2, f v.s3, f v.s4⟩

def ByScreen.ofFn {α : Type} (f : ScreenNo → α) : ByScreen α := ⟨f .s1, f .s2, f .s3, f .s4⟩

def ByProj.const {α : Type} (x : α) : ByProj α := ⟨x, x, x, x, x, x, x, x⟩

def ByProj.get {α : Type} (v : ByProj α) : ProjNo → α
  | ⟨.s1, .a⟩ => v.p1a
  | ⟨.s1, .b⟩ => v.p1b
  | ⟨.s2, .a⟩ => v.p2a
  | ⟨.s2, .b⟩ => v.p2b
  | ⟨.s3, .a⟩ => v.p3a
  | ⟨.s3, .b⟩ => v.p3b
  | ⟨.s4, .a⟩ => v.p4a
  | ⟨.s4, .b⟩ => v.p4b

def ByProj.set {α : Type} (v : ByProj α) (p : ProjNo) (x : α) : ByProj α :=
  match p with
  | ⟨.s1, .a⟩ => { v with p1a := x }
  | ⟨.s1, .b⟩ => { v with p1b := x }
  | ⟨.s2, .a⟩ => { v with p2a := x }
  | ⟨.s2, .b⟩ => { v with p2b := x }
  | ⟨.s3, .a⟩ => { v with p3a := x }
  | ⟨.s3, .b⟩ => { v with p3b := x }
  | ⟨.s4, .a⟩ => { v with p4a := x }
  | ⟨.s4, .b⟩ => { v with p4b := x }

def ByProj.ofFn {α : Type} (f : ProjNo → α) : ByProj α :=
  ⟨f ⟨.s1, .a⟩, f ⟨.s1, .b⟩, f ⟨.s2, .a⟩, f ⟨.s2, .b⟩, f ⟨.s3, .a⟩, f ⟨.s3, .b⟩, f ⟨.s4, .a⟩, f ⟨.s4, .b⟩⟩

def ByProj.map {α β : Type} (f : α → β) (v : ByProj α) : ByProj β := .ofFn fun p => f (v.get p)

def ByShutter.const {α : Type} (x : α) : ByShutter α := ⟨.const x, .const x⟩

def ByShutter.get {α : Type} (v : ByShutter α) : ShutterNo → α
  | .port p => v.ports.get p
  | .observation s => v.observation.get s

def ByShutter.set {α : Type} (v : ByShutter α) (i : ShutterNo) (x : α) : ByShutter α :=
  match i with
  | .port p => { v with ports := v.ports.set p x }
  | .observation s => { v with observation := v.observation.set s x }

def ByShutter.ofFn {α : Type} (f : ShutterNo → α) : ByShutter α :=
  ⟨.ofFn fun p => f (.port p), .ofFn fun s => f (.observation s)⟩

def ByShutter.map {α β : Type} (f : α → β) (v : ByShutter α) : ByShutter β := ⟨v.ports.map f, v.observation.map f⟩

def ByPos.const {α : Type} (x : α) : ByPos α := ⟨x, x, x, x⟩

def ByPos.get {α : Type} (v : ByPos α) : ChannelPos → α
  | .main => v.main
  | .wall => v.wall
  | .step => v.step
  | .wash => v.wash

def ByPos.set {α : Type} (v : ByPos α) (i : ChannelPos) (x : α) : ByPos α :=
  match i with
  | .main => { v with main := x }
  | .wall => { v with wall := x }
  | .step => { v with step := x }
  | .wash => { v with wash := x }

def ByPos.map {α β : Type} (f : α → β) (v : ByPos α) : ByPos β := ⟨f v.main, f v.wall, f v.step, f v.wash⟩

def ByStation.const {α : Type} (x : α) : ByStation α := ⟨x, x, x⟩

def ByStation.get {α : Type} (v : ByStation α) : Station → α
  | .console => v.console
  | .house => v.house
  | .program => v.program

def ByStation.set {α : Type} (v : ByStation α) (i : Station) (x : α) : ByStation α :=
  match i with
  | .console => { v with console := x }
  | .house => { v with house := x }
  | .program => { v with program := x }

def ByStation.map {α β : Type} (f : α → β) (v : ByStation α) : ByStation β := ⟨f v.console, f v.house, f v.program⟩

def ByStation.ofFn {α : Type} (f : Station → α) : ByStation α := ⟨f .console, f .house, f .program⟩

def ByBank.const {α : Type} (x : α) : ByBank α := ⟨x, x, x⟩

def ByBank.get {α : Type} (v : ByBank α) : BankNo → α
  | .b0 => v.b0
  | .b1 => v.b1
  | .b2 => v.b2

def ByBank.set {α : Type} (v : ByBank α) (i : BankNo) (x : α) : ByBank α :=
  match i with
  | .b0 => { v with b0 := x }
  | .b1 => { v with b1 := x }
  | .b2 => { v with b2 := x }

def ByClass.const {α : Type} (x : α) : ByClass α := ⟨x, x, x, x, x, x, x, x, x⟩

def ByClass.get {α : Type} (v : ByClass α) : AttnClass → α
  | .fire => v.fire
  | .filmBreak => v.filmBreak
  | .shutter => v.shutter
  | .arc => v.arc
  | .change => v.change
  | .shows => v.shows
  | .house => v.house
  | .duty => v.duty
  | .link => v.link

def ByClass.set {α : Type} (v : ByClass α) (i : AttnClass) (x : α) : ByClass α :=
  match i with
  | .fire => { v with fire := x }
  | .filmBreak => { v with filmBreak := x }
  | .shutter => { v with shutter := x }
  | .arc => { v with arc := x }
  | .change => { v with change := x }
  | .shows => { v with shows := x }
  | .house => { v with house := x }
  | .duty => { v with duty := x }
  | .link => { v with link := x }

/-! ## The names in order -/

def allScreens : List ScreenNo := [.s1, .s2, .s3, .s4]

/-- The two projectors of a screen, side A first. -/
def projectorsOf (s : ScreenNo) : List ProjNo := [⟨s, .a⟩, ⟨s, .b⟩]

def allProjectors : List ProjNo := allScreens.flatMap projectorsOf

def allShutters : List ShutterNo := allProjectors.map .port ++ allScreens.map .observation

def allStations : List Station := [.console, .house, .program]

def allPositions : List ChannelPos := [.main, .wall, .step, .wash]

def allClasses : List AttnClass := [.fire, .filmBreak, .shutter, .arc, .change, .shows, .house, .duty, .link]

/-! ## Initial values -/

/-- A bank with all content absent (R2). -/
def Bank.blank (role : Role) (state : BankState) : Bank :=
  { role := role, state := state, header := none, reels := Vector.replicate 12 none, cues := [], starts := [] }

/-- The default shutter set of an entry: both ports and the observation port of a screen (Table 35). -/
def ShutterSet.ofScreen (s : ScreenNo) : ShutterSet :=
  ((((ByShutter.const false).set (.port ⟨s, .a⟩) true).set (.port ⟨s, .b⟩) true).set (.observation s) true)

/-- Table 35. -/
def DropMap.default : DropMap where
  breaks := .ofFn fun p => (ByShutter.const false).set (.port p) true
  heats := .ofFn fun p => ((ByShutter.const false).set (.port p) true).set (.observation p.screen) true
  links := .ofFn fun
    | .port p => ShutterSet.ofScreen p.screen
    | .observation s => ShutterSet.ofScreen s

/-- R84: the arc settings and account of an invalid store. -/
def ArcStore.default : ArcStore where
  remaining := 0
  stepsSinceTrim := 0
  trimLength := 0
  reserve := 600
  defaultRate := 30
  highWidth := 20
  lowWidth := 80
  history := []

/-- R139: the standing table of an invalid store. -/
def StandingTable.default : StandingTable where
  fire := some { levels := .const (some 100), fade := 0, hold := true }
  breaks := .const none
  arcFaults := .const none
  power := none

/-- The retained store after a power-on reset that found it invalid: every item at the default of its rule (R20, R39, R58,
R81, R84, R108, R128, R135, R139, R146), and the marker written valid. -/
def Retained.default : Retained where
  markerValid := true
  banks := .const ⟨.blank .current .empty, .blank .next .empty, .blank .spare .empty⟩
  rotationPending := .const false
  cuePolicy := .const ⟨.either, 48⟩
  monitor := .follow
  arcs := .const .default
  dropMap := .default
  scenes := .const (Vector.replicate 8 (.const none))
  standing := .default
  travelTime := .const 20
  runMarks := .const ⟨false, none, 0⟩
  dayOffset := 0

/-- R39: a projector that comes up without film and without a header in CURRENT. -/
def Projector.blank : Projector where
  runState := .empty
  loaded := none
  assigned := none
  haltCause := none
  midReel := false
  douser := .closed

/-- R59: the tracker of a projector that comes up EMPTY. -/
def Tracker.blank : Tracker where
  counter := 0
  lastInterval := 0
  inBand := 0
  outBand := 0
  atSpeed := false
  startTimer := none
  stallTimer := none
  timing := false
  context := none

/-- R60: a changeover record with no film found and no header in CURRENT. -/
def Screen.blank : Screen where
  state := .dark
  opening := none
  showingSide := none
  currentReel := none
  lateMotor := false
  swapPending := false
  swapFailed := false
  immediate := false
  sound := .a
  confirmTimer := none
  closeWatch := none
  arming := .none

/-- R82: no requester present, so the bell is quiet (R83). -/
def Bell.blank : Bell where
  late := .const none
  held := .const none
  output := false
  cadenceLeft := none

/-- R104: an arc record set up from an account, OFF or SPENT. -/
def Arc.ofStore (a : ArcStore) : Arc where
  state := if a.remaining = 0 then .spent else .off
  phase := none
  attempts := 0
  lossTimer := none
  low := decide (a.remaining ≤ a.reserve)
  sensorReported := false
  train := .idle
  showing := false
  frames := 0
  steps := 0
  mark := none

/-- The empty cause set. -/
def CauseSet.empty : CauseSet where
  power := false
  fire := false
  manual := false
  breaks := .const false
  heats := .const false
  links := .const false

/-- R124: a shutter right after a power-on reset, with the level its home switch has. -/
def Shutter.powerOn (home : Bool) : Shutter where
  state := .dropped
  causes := { CauseSet.empty with power := true }
  lastDrop := .power
  energised := false
  armingTimer := none
  homeClosed := home

/-- R144: a channel at 100 with no fade and no holder. -/
def Channel.full : Channel := ⟨100, none, none⟩

/-- R171: REARM entries for shutters 1 to 12, each with due 0 and not overdue. -/
def powerOnDuties : List DutyEntry := allShutters.map fun s => ⟨.rearm s, none, 0, false⟩

/-- R172: the baud rate a link's straps name. -/
def RateStraps.baud : RateStraps → Baud
  | ⟨false, false⟩ => .b1200
  | ⟨false, true⟩ => .b2400
  | ⟨true, false⟩ => .b4800
  | ⟨true, true⟩ => .b9600

/-- R172: a link record after a reset. -/
def Link.blank (rates : RateStraps) : Link where
  state := .idle
  collection := none
  outstanding := none
  reply := none
  parity := .none
  parityToApply := none
  baud := rates.baud
  breakTimer := none
  breakTaken := false
  awaitMark := false

/-- R190: both collections empty. -/
def Attention.blank : Attention := ⟨.const none, .const false⟩

/-- Nothing in progress. -/
def Work.empty : Work := ⟨.const false, .const false, [], []⟩

/-- The pin levels at reset: every input inactive or open, straps low, RXD at mark. DESIGN CHOICE, log entry 9. -/
def Pins.quiet : Pins where
  fireLoop := false
  dropButton := false
  gateHeat := .const false
  home := .const false
  arcPresent := .const false
  craterLong := .const false
  craterShort := .const false
  openLimit := .const false
  closedLimit := .const false
  msel := false
  rates := .const ⟨false, false⟩
  rxd := .const .mark

/-- The machine right after a power-on reset that found the retained store invalid, with the pins of `Pins.quiet`
(R20, R39, R59, R60, R104, R124, R144, R148, R171, R172, R190; log entry 9). -/
def State.reset : State where
  retained := .default
  powered := true
  bankUnit := ⟨[], none⟩
  projectors := .const .blank
  trackers := .const .blank
  screens := .const .blank
  booth := ⟨.s1, .blank⟩
  arcs := .const (.ofStore .default)
  shutterUnit := ⟨.const (.powerOn false), false, false⟩
  house := ⟨.const (.const .full), .const ⟨.halfway, none, false, false⟩, .const 0#16⟩
  clock := ⟨0, 0, true⟩
  shows := .const ⟨.waiting, none, .none⟩
  duty := powerOnDuties
  links := .const (.blank ⟨false, false⟩)
  powerRestored := true
  attention := .const .blank
  pins := .quiet
  work := .empty
  free := 0
  pending := []

end Sys2Proof.Machine
end

