-- ==== Sys2Proof/Machine/Operands.lean ====
section
/-! DEFINITION. The codes of R192 and Tables 61 to 64: what each operand byte of a request names, and the code of each
enumerated value in a reply. A value's code is its place in its list, counted from 1 (R192). -/

namespace Sys2Proof

/-! ## Codes -/

def ScreenNo.code : ScreenNo → Nat
  | .s1 => 1
  | .s2 => 2
  | .s3 => 3
  | .s4 => 4

def Side.code : Side → Nat
  | .a => 1
  | .b => 2

/-- Projector codes 1 to 8 (00_scope.md section 7). -/
def ProjNo.code (p : ProjNo) : Nat := 2 * p.screen.code - 2 + p.side.code

/-- Shutter codes 1 to 12 (R105). -/
def ShutterNo.code : ShutterNo → Nat
  | .port p => p.code
  | .observation s => 8 + s.code

def ChannelPos.code : ChannelPos → Nat
  | .main => 1
  | .wall => 2
  | .step => 3
  | .wash => 4

/-- Channel numbers 1 to 16 (Table 40). -/
def ChannelNo.code (c : ChannelNo) : Nat := 4 * c.screen.code - 4 + c.pos.code

/-- Stations in the order of 00_scope.md section 3. -/
def Station.code : Station → Nat
  | .console => 1
  | .house => 2
  | .program => 3

end Sys2Proof

namespace Sys2Proof.Machine

/-- The sixteen channels in order. -/
def allChannels : List ChannelNo := allScreens.flatMap fun n => allPositions.map fun k => ⟨n, k⟩

def allRoles : List Role := [.current, .next, .spare]

/-- The thirty trigger keys in the order of R108. -/
def allTriggers : List TriggerKey :=
  [.fire, .manual] ++ allProjectors.map .filmBreak ++ allProjectors.map .heat ++ allShutters.map .link

/-- The ten standing keys in the order of Table 42. -/
def allStandingKeys : List StandingKey :=
  [.fire] ++ allScreens.map .filmBreak ++ allScreens.map .arcFault ++ [.power]

def Role.code : Role → Nat
  | .current => 1
  | .next => 2
  | .spare => 3

def BankState.code : BankState → Nat
  | .empty => 1
  | .draft => 2
  | .complete => 3
  | .clearing => 4

def BankNo.code : BankNo → Nat
  | .b0 => 0
  | .b1 => 1
  | .b2 => 2

/-- Table 61, drop map keys. -/
def TriggerKey.code : TriggerKey → Nat
  | .fire => 1
  | .manual => 2
  | .filmBreak p => 16 + p.code
  | .heat p => 32 + p.code
  | .link s => 48 + s.code

/-- Table 61, standing keys. -/
def StandingKey.code : StandingKey → Nat
  | .fire => 1
  | .power => 2
  | .filmBreak s => 16 + s.code
  | .arcFault s => 32 + s.code

def RunState.code : RunState → Nat
  | .empty => 1
  | .threaded => 2
  | .starting => 3
  | .running => 4
  | .showing => 5
  | .runout => 6
  | .halted => 7

def HaltCause.code : HaltCause → Nat
  | .filmBreak => 1
  | .stall => 2
  | .startFail => 3
  | .shutter => 4
  | .fire => 5
  | .stop => 6
  | .douser => 7
  | .power => 8

def DouserCommand.code : DouserCommand → Nat
  | .opened => 1
  | .closed => 2

def Policy.code : Policy → Nat
  | .mark => 1
  | .count => 2
  | .either => 3

def CueKind.code : CueKind → Nat
  | .motor => 1
  | .changeover => 2

def CueSource.code : CueSource → Nat
  | .mark => 1
  | .count => 2

def ScreenState.code : ScreenState → Nat
  | .dark => 1
  | .starting => 2
  | .single => 3
  | .armed => 4
  | .rolling => 5
  | .swapping => 6
  | .final => 7

/-- Table 64, reasons. -/
def Reason.code : Reason → Nat
  | .standbyState => 1
  | .standbyReel => 2
  | .arc => 3
  | .shutter => 4
  | .carbon => 5
  | .fire => 6
  | .bank => 7
  | .screen => 8
  | .projectorState => 9
  | .projectorReel => 10

/-- Table 64, results. -/
def TestResult.code : TestResult → Nat
  | .none => 255
  | .pass => 0
  | .fail r => r.code

def ArcState.code : ArcState → Nat
  | .off => 1
  | .striking => 2
  | .burning => 3
  | .fault => 4
  | .spent => 5

def StrikePhase.code : StrikePhase → Nat
  | .touch => 1
  | .proof => 2
  | .pause => 3

def FeedTrain.code : FeedTrain → Nat
  | .idle => 1
  | .high .. => 2
  | .low .. => 3

def ShutterState.code : ShutterState → Nat
  | .up => 1
  | .dropped => 2
  | .arming => 3

def CurtainState.code : CurtainState → Nat
  | .closed => 1
  | .opening => 2
  | .opened => 3
  | .closing => 4
  | .halfway => 5
  | .stalled => 6

def CurtainAction.code : CurtainAction → Nat
  | .opn => 1
  | .close => 2
  | .stop => 3

def ShowState.code : ShowState → Nat
  | .waiting => 1
  | .called => 2
  | .held => 3
  | .playing => 4

/-- The order of Table 57. -/
def AttnClass.code : AttnClass → Nat
  | .fire => 1
  | .filmBreak => 2
  | .shutter => 3
  | .arc => 4
  | .change => 5
  | .shows => 6
  | .house => 7
  | .duty => 8
  | .link => 9

/-- A cause of a shutter: its kind, as its place in Table 34, and its origin, 0 for booth (R192). -/
def DropCause.code : DropCause → Nat × Nat
  | .power => (1, 0)
  | .fire => (2, 0)
  | .manual => (3, 0)
  | .filmBreak p => (4, p.code)
  | .heat p => (5, p.code)
  | .link s => (6, s.code)

/-- Kind and target of a duty entry (R160, Table 48). -/
def DutyKey.code : DutyKey → Nat × Nat
  | .thread p => (1, p.code)
  | .strike p => (2, p.code)
  | .retrim p => (3, p.code)
  | .rearm s => (4, s.code)

/-! ## What an operand byte names (R192) -/

/-- The member of a list whose code a byte is. -/
def named {α : Type} (l : List α) (code : α → Nat) (b : Byte) : Option α := l.find? fun x => code x = b.toNat

def screenOf : Byte → Option ScreenNo := named allScreens ScreenNo.code

def projOf : Byte → Option ProjNo := named allProjectors ProjNo.code

def shutterOf : Byte → Option ShutterNo := named allShutters ShutterNo.code

def channelOf : Byte → Option ChannelNo := named allChannels ChannelNo.code

def triggerOf : Byte → Option TriggerKey := named allTriggers TriggerKey.code

def standingOf : Byte → Option StandingKey := named allStandingKeys StandingKey.code

def sideOf : Byte → Option Side := named [.a, .b] Side.code

/-- A bank target: 16 × role + screen (Table 61). -/
def bankOf (b : Byte) : Option (ScreenNo × Role) :=
  (allRoles.flatMap fun r => allScreens.map fun n => (n, r)).find? fun x => 16 * x.2.code + x.1.code = b.toNat

def flagOf (b : Byte) : Option Bool := if b = 0 then some false else if b = 1 then some true else none

/-- A number in a range. -/
def inRange (lo hi n : Nat) : Option Nat := if lo ≤ n ∧ n ≤ hi then some n else none

/-- An optional value: all ones when absent, else a number in a range; `none` when it does not decode. -/
def optRange (ones lo hi n : Nat) : Option (Option Nat) := if n = ones then some none else (inRange lo hi n).map some

def printable (c : Byte) : Bool := decide (0x20 ≤ c.toNat) && decide (c.toNat ≤ 0x7E)

/-- A text that may not be absent (R2). -/
def titleOf (t : List Byte) : Option (List Byte) := if t.all printable then some t else none

/-- An optional text: absent when 00h throughout (R192). -/
def labelOf (t : List Byte) : Option (Option (List Byte)) :=
  if t.all (· == 0) then some none else if t.all printable then some (some t) else none

/-- Bit `k` − 1 of a mask: member `k` of a set (R192). -/
def member (m : Half) (k : Nat) : Bool := m.getLsbD (k - 1)

/-- A mask that names no member above `n`. -/
def maskFits (n : Nat) (m : Half) : Bool := decide (m.toNat < 2 ^ n)

/-- A set of shutters (R192). -/
def shutterSetOf (m : Half) : Option ShutterSet :=
  if maskFits 12 m then some (.ofFn fun i => member m i.code) else none

/-- A set of attention classes (R188). -/
def classSetOf (m : Half) : Option (AttnClass → Bool) := if maskFits 9 m then some fun c => member m c.code else none

/-- The mask of the members of a list whose flag is set. -/
def maskOf {α : Type} (l : List α) (code : α → Nat) (f : α → Bool) : Half :=
  BitVec.ofNat 16 ((l.filter f).foldl (fun acc x => acc + 2 ^ (code x - 1)) 0)

end Sys2Proof.Machine
end

