-- ==== Sys2Proof/Machine/Replies.lean ====
section
/-! DEFINITION. What a block answers to a request: a status of Table 54 with its data, and the widths in which reply fields
are laid out (R191, R192). -/

namespace Sys2Proof.Machine

/-- The reply statuses, in the order of Table 54. -/
inductive Status where
  | ok | badFrame | unknown | denied | badTarget | range | state | notReady | bankInUse | bankClearing | incomplete
  | notDark | causeActive | fire | carbonShort | held | full
  deriving DecidableEq, Repr

/-- A status's code is its place in Table 54 less one (R192). -/
def Status.code : Status → Nat
  | .ok => 0x00
  | .badFrame => 0x01
  | .unknown => 0x02
  | .denied => 0x03
  | .badTarget => 0x04
  | .range => 0x05
  | .state => 0x06
  | .notReady => 0x07
  | .bankInUse => 0x08
  | .bankClearing => 0x09
  | .incomplete => 0x0A
  | .notDark => 0x0B
  | .causeActive => 0x0C
  | .fire => 0x0D
  | .carbonShort => 0x0E
  | .held => 0x0F
  | .full => 0x10

/-- A block's answer: the status and the data that follow it. -/
structure Answer where
  status : Status
  data : List Byte
  deriving DecidableEq, Repr

/-- The item codes of an INCOMPLETE reply (Table 64). -/
inductive Item where
  | header
  | reelMissing (reel : Nat)
  | leadIn (reel : Nat)
  | cueOrder (reel : Nat)
  | cueGap (reel : Nat)
  | anchorReel (cue : Nat)
  | anchorFrame (cue : Nat)
  | nextState (st : BankState)
  deriving DecidableEq, Repr

/-! ## Widths (R192) -/

def byte1 (n : Nat) : List Byte := [BitVec.ofNat 8 n]

def byte2 (n : Nat) : List Byte := [BitVec.ofNat 8 (n / 2 ^ 8), BitVec.ofNat 8 n]

def byte4 (n : Nat) : List Byte := byte2 (n / 2 ^ 16) ++ byte2 n

/-- A signed four-byte field in two's complement (R192). The seconds to a due or an instant can lie outside its range, and
what the field then holds is a free value (DESIGN CHOICE, log entry 27). -/
def signed4 (i : Int) : List Byte :=
  byte4 (if -2147483648 ≤ i ∧ i ≤ 2147483647 then BitVec.ofInt 32 i else Config.freeSigned i).toNat

def opt1 : Option Nat → List Byte
  | none => [0xFF]
  | some n => byte1 n

def opt2 : Option Nat → List Byte
  | none => [0xFF, 0xFF]
  | some n => byte2 n

/-- A signed field that is absent is 80000000h. -/
def optSigned4 : Option Int → List Byte
  | none => [0x80, 0, 0, 0]
  | some i => signed4 i

def flag1 (b : Bool) : List Byte := byte1 b.toNat

def mask2 (m : Half) : List Byte := byte2 m.toNat

/-- An absent text is 00h throughout. -/
def text (width : Nat) : Option (List Byte) → List Byte
  | none => List.replicate width 0
  | some t => t

/-! ## Answers -/

def Answer.ok (data : List Byte) : Answer := ⟨.ok, data⟩

/-- NOT_READY with its reason code (R179). -/
def Answer.notReady (r : TestResult) : Answer := ⟨.notReady, byte1 r.code⟩

/-- INCOMPLETE with its item code and argument (R191, Table 64). -/
def Answer.incomplete : Item → Answer
  | .header => ⟨.incomplete, [0x01, 0xFF]⟩
  | .reelMissing r => ⟨.incomplete, [0x02] ++ byte1 r⟩
  | .leadIn r => ⟨.incomplete, [0x03] ++ byte1 r⟩
  | .cueOrder r => ⟨.incomplete, [0x04] ++ byte1 r⟩
  | .cueGap r => ⟨.incomplete, [0x05] ++ byte1 r⟩
  | .anchorReel c => ⟨.incomplete, [0x06] ++ byte1 c⟩
  | .anchorFrame c => ⟨.incomplete, [0x07] ++ byte1 c⟩
  | .nextState st => ⟨.incomplete, [0x08] ++ byte1 st.code⟩

/-- A refusal: the records are left as they were (R179). -/
def refuse (st : Status) (s : State) : State × Answer := (s, ⟨st, []⟩)

end Sys2Proof.Machine
end

