-- ==== Sys2Proof/Machine/Ops.lean ====
section
/-! DEFINITION. The named operations over the records of the state: reading and replacing one record, the records of
CURRENT that many blocks read (R1), the notices and causes of a step in progress, and the two ways a block answers a
question of another (sufficiency, R103, and the douser permit, R112). -/

namespace Sys2Proof

/-- The other side. -/
def Side.other : Side → Side
  | .a => .b
  | .b => .a

/-- The other projector of the screen. -/
def ProjNo.other (p : ProjNo) : ProjNo := ⟨p.screen, p.side.other⟩

end Sys2Proof

namespace Sys2Proof.Machine

/-! ## One record -/

def State.projector (s : State) (p : ProjNo) : Projector := s.projectors.get p

def State.setProjector (s : State) (p : ProjNo) (r : Projector) : State := { s with projectors := s.projectors.set p r }

def State.tracker (s : State) (p : ProjNo) : Tracker := s.trackers.get p

def State.setTracker (s : State) (p : ProjNo) (r : Tracker) : State := { s with trackers := s.trackers.set p r }

def State.screen (s : State) (n : ScreenNo) : Screen := s.screens.get n

def State.setScreen (s : State) (n : ScreenNo) (r : Screen) : State := { s with screens := s.screens.set n r }

def State.setBell (s : State) (b : Bell) : State := { s with booth := { s.booth with bell := b } }

def State.arc (s : State) (p : ProjNo) : Arc := s.arcs.get p

def State.setArc (s : State) (p : ProjNo) (r : Arc) : State := { s with arcs := s.arcs.set p r }

def State.arcStore (s : State) (p : ProjNo) : ArcStore := s.retained.arcs.get p

def State.setArcStore (s : State) (p : ProjNo) (r : ArcStore) : State :=
  { s with retained := { s.retained with arcs := s.retained.arcs.set p r } }

def State.runMarks (s : State) (p : ProjNo) : RunMarks := s.retained.runMarks.get p

def State.setRunMarks (s : State) (p : ProjNo) (r : RunMarks) : State :=
  { s with retained := { s.retained with runMarks := s.retained.runMarks.set p r } }

def State.setRotationPending (s : State) (n : ScreenNo) (v : Bool) : State :=
  { s with retained := { s.retained with rotationPending := s.retained.rotationPending.set n v } }

def State.shutter (s : State) (i : ShutterNo) : Shutter := s.shutterUnit.shutters.get i

def State.setShutter (s : State) (i : ShutterNo) (r : Shutter) : State :=
  { s with shutterUnit := { s.shutterUnit with shutters := s.shutterUnit.shutters.set i r } }

def State.channel (s : State) (c : ChannelNo) : Channel := (s.house.channels.get c.screen).get c.pos

def State.setChannel (s : State) (c : ChannelNo) (r : Channel) : State :=
  { s with house := { s.house with
      channels := s.house.channels.set c.screen ((s.house.channels.get c.screen).set c.pos r) } }

def State.curtain (s : State) (n : ScreenNo) : Curtain := s.house.curtains.get n

def State.setCurtain (s : State) (n : ScreenNo) (r : Curtain) : State :=
  { s with house := { s.house with curtains := s.house.curtains.set n r } }

def State.setMarks (s : State) (n : ScreenNo) (m : Half) : State :=
  { s with house := { s.house with marks := s.house.marks.set n m } }

def State.showRec (s : State) (n : ScreenNo) : ShowRec := s.shows.get n

def State.setShow (s : State) (n : ScreenNo) (r : ShowRec) : State := { s with shows := s.shows.set n r }

def State.link (s : State) (st : Station) : Link := s.links.get st

def State.setLink (s : State) (st : Station) (r : Link) : State := { s with links := s.links.set st r }

def State.attn (s : State) (st : Station) : Attention := s.attention.get st

def State.setAttn (s : State) (st : Station) (r : Attention) : State := { s with attention := s.attention.set st r }

def State.setPins (s : State) (p : Pins) : State := { s with pins := p }

def State.setDuty (s : State) (l : List DutyEntry) : State := { s with duty := l }

/-! ## Banks (R1, R2) -/

def State.bank (s : State) (n : ScreenNo) (b : BankNo) : Bank := (s.retained.banks.get n).get b

def State.setBank (s : State) (n : ScreenNo) (b : BankNo) (r : Bank) : State :=
  { s with retained := { s.retained with banks := s.retained.banks.set n ((s.retained.banks.get n).set b r) } }

/-- The number of the bank of screen `n` that holds a role (R1). -/
def State.bankNo (s : State) (n : ScreenNo) (role : Role) : BankNo :=
  if (s.bank n .b0).role = role then .b0 else if (s.bank n .b1).role = role then .b1 else .b2

/-- The bank of screen `n` that holds a role (R1). -/
def State.bankIn (s : State) (n : ScreenNo) (role : Role) : Bank := s.bank n (s.bankNo n role)

/-- The header of CURRENT. -/
def State.header (s : State) (n : ScreenNo) : Option Header := (s.bankIn n .current).header

/-- The reel count of CURRENT, absent without a header. -/
def State.reelCount (s : State) (n : ScreenNo) : Option Nat := (s.header n).map (·.reelCount)

/-- The slot `r` of a bank, counted from 1 (R2). -/
def Bank.slot (b : Bank) (r : Nat) : Option Reel := if r = 0 then none else (b.reels[r - 1]?).join

/-- The record of reel `r` in CURRENT: only slots 1 to the reel count take part (R2). -/
def State.reelRecord (s : State) (n : ScreenNo) (r : Nat) : Option Reel :=
  match s.header n with
  | none => none
  | some h => if r ≤ h.reelCount then (s.bankIn n .current).slot r else none

/-- The record of a projector's loaded reel (R49: the context is bound exactly when there is one). -/
def State.loadedRecord (s : State) (p : ProjNo) : Option Reel :=
  (s.projector p).loaded.bind (s.reelRecord p.screen)

/-- The lead-in in use: 192 when the field is absent (R7), or when there is no record (log entry 13). -/
def State.leadIn (s : State) (p : ProjNo) : Nat :=
  match s.loadedRecord p with
  | none => 192
  | some r => r.leadIn.getD 192

/-- Whether a projector's counter stands at or above E of its loaded reel. A reel without a record has no E (R33, log
entry 13). -/
def State.atPictureEnd (s : State) (p : ProjNo) : Bool :=
  match s.loadedRecord p with
  | none => false
  | some r => decide (r.pictureEnd ≤ (s.tracker p).counter)

/-- The opening reel of a projector's side (R35). -/
def State.openingReel (s : State) (p : ProjNo) : Option Nat :=
  match s.header p.screen with
  | none => none
  | some h => if p.side = h.firstSide then some 1 else if 2 ≤ h.reelCount then some 2 else none

/-- The showing projector of a screen (R60). -/
def State.showingProj (s : State) (n : ScreenNo) : Option ProjNo := (s.screen n).showingSide.map fun d => ⟨n, d⟩

/-- The standby of a screen (R60). -/
def State.standby (s : State) (n : ScreenNo) : Option ProjNo := (s.showingProj n).map (·.other)

/-- The projector of a screen that holds reel `r` as loaded reel, side A before side B. -/
def State.holderOf (s : State) (n : ScreenNo) (r : Nat) : Option ProjNo :=
  (projectorsOf n).find? fun p => (s.projector p).loaded = some r

/-! ## Notices and causes of the step in progress (R86, R112, R186; log entry 5) -/

/-- The sequencer of screen `n` is to run its arming check. -/
def State.noteArm (s : State) (n : ScreenNo) : State := { s with work := { s.work with arm := s.work.arm.set n true } }

/-- The scheduler is to make its readiness test for screen `n`. -/
def State.noteRetest (s : State) (n : ScreenNo) : State :=
  { s with work := { s.work with retest := s.work.retest.set n true } }

/-- A notice for the duty unit. -/
def State.tellDuty (s : State) (d : DutyNotice) : State := { s with work := { s.work with duty := s.work.duty ++ [d] } }

/-- A cause posted by a block (R186). -/
def State.post (s : State) (b : Block) (c : AttnCause) : State :=
  { s with work := { s.work with posts := s.work.posts ++ [(b, c)] } }

/-- The arming check is due when `p` is the standby of its screen (R68). -/
def State.noteArmIfStandby (s : State) (p : ProjNo) : State :=
  if s.standby p.screen = some p then s.noteArm p.screen else s

/-- The notices of a projector unit that the sequencer and the scheduler both take (threaded, emptied, halt). -/
def State.noteRunState (s : State) (n : ScreenNo) : State := (s.noteArm n).noteRetest n

/-- A step begins with nothing in progress. -/
def State.begin (s : State) : State := { s with work := .empty }

/-- One free choice between two orders (log entry 3). -/
def State.takeBit (s : State) : Bool × State := (Config.freeBit s.free, { s with free := s.free + 1 })

/-! ## Arithmetic and questions between blocks -/

/-- A quotient rounded up (00_scope.md section 7). -/
def ceilDiv (a b : Nat) : Nat := (a + b - 1) / b

/-- The rate R of the sufficiency test: the largest rate of the history, or the default rate (R103). -/
def ArcStore.rate (a : ArcStore) : Nat := match a.history with
  | [] => a.defaultRate
  | h :: t => t.foldl max h

/-- The need of R103 for picture end `e` from counter `c`. -/
def ArcStore.need (a : ArcStore) (e c : Nat) : Nat := ceilDiv (a.rate * (e - c)) 1000 + a.reserve

/-- The sufficiency test (R103). -/
def ArcStore.sufficient (a : ArcStore) (e c : Nat) : Bool := decide (a.need e c ≤ a.remaining)

/-- The douser permit of a projector (R112). -/
def State.permit (s : State) (p : ProjNo) : Bool := decide ((s.shutter (.port p)).state = .up)

/-- The time of day (R146). -/
def State.timeOfDay (s : State) : Nat := (s.retained.dayOffset + s.clock.boothSeconds) % 86400

/-- The highest booth second and due (R145, R160). -/
def maxSeconds : Nat := 4294967295

end Sys2Proof.Machine
end

