-- ==== Sys2Proof/Machine/HouseUnit.lean ====
section
/-! DEFINITION. The house unit: fades (R126), scene recalls (R129), house cues (R130 to R134), curtains (R136) and the
standing table (R139 to R142). -/

namespace Sys2Proof.Machine

/-! ## Fades -/

/-- Starting a fade (R126): with a time of 0 the level becomes the target at once. -/
def Channel.startFade (c : Channel) (target total : Nat) : Channel :=
  if total = 0 then { c with level := target, fade := none }
  else { c with fade := some ⟨c.level, target, total, 0, 100⟩ }

/-- The level after a number of elapsed steps, rounded toward the target (R126). -/
def Fade.levelAt (f : Fade) (elapsed : Nat) : Nat :=
  if f.target < f.start then f.start - ceilDiv ((f.start - f.target) * elapsed) f.total
  else f.start + ceilDiv ((f.target - f.start) * elapsed) f.total

/-- One advance of 0.1 s (R126). -/
def Channel.advance (c : Channel) : Channel :=
  match c.fade with
  | none => c
  | some f =>
    if f.total ≤ f.elapsed + 1 then { c with level := f.target, fade := none }
    else { c with level := f.levelAt (f.elapsed + 1), fade := some { f with elapsed := f.elapsed + 1, advanceLeft := 100 } }

/-! ## Scenes -/

/-- The levels of scene `k`, 1 to 8 (R128). -/
def State.scene (s : State) (n : ScreenNo) (k : Nat) : Levels := ((s.retained.scenes.get n)[k - 1]?).getD (.const none)

/-- One channel of a recall (R129): absent levels are passed over, held channels are skipped and counted. -/
def recallChannel (lv : Levels) (fade : Nat) (n : ScreenNo) (acc : State × Nat) (k : ChannelPos) : State × Nat :=
  match lv.get k with
  | none => acc
  | some l =>
    if (acc.1.channel ⟨n, k⟩).holder.isSome then (acc.1, acc.2 + 1)
    else (acc.1.setChannel ⟨n, k⟩ ((acc.1.channel ⟨n, k⟩).startFade l fade), acc.2)

/-- A recall, with the count of skipped channels (R129). -/
def State.recallScene (s : State) (n : ScreenNo) (k fade : Nat) : State × Nat :=
  allPositions.foldl (recallChannel (s.scene n k) fade n) (s, 0)

/-! ## Curtains -/

/-- OPEN (R136). The travel time is in seconds. -/
def Curtain.opn (c : Curtain) (time : Nat) : Curtain :=
  match c.state with
  | .closed | .halfway | .stalled =>
    if c.openLimit then { c with state := .opened, timer := none }
    else { c with state := .opening, timer := some (time * 1000) }
  | .closing => { c with state := .opening, timer := some (time * 1000) }
  | .opening | .opened => c

/-- CLOSE (R136): OPEN with the limits and the states exchanged. -/
def Curtain.close (c : Curtain) (time : Nat) : Curtain :=
  match c.state with
  | .opened | .halfway | .stalled =>
    if c.closedLimit then { c with state := .closed, timer := none }
    else { c with state := .closing, timer := some (time * 1000) }
  | .opening => { c with state := .closing, timer := some (time * 1000) }
  | .closing | .closed => c

/-- STOP (R136). -/
def Curtain.stop (c : Curtain) : Curtain :=
  match c.state with
  | .opening | .closing => { c with state := .halfway, timer := none }
  | _ => c

/-- A curtain action on a screen (R136). -/
def State.actCurtain (s : State) (n : ScreenNo) (a : CurtainAction) : State :=
  s.setCurtain n <| match a with
    | .opn => (s.curtain n).opn (s.retained.travelTime.get n)
    | .close => (s.curtain n).close (s.retained.travelTime.get n)
    | .stop => (s.curtain n).stop

/-- A limit switch change (R137): the level is recorded, and the state decides what else it does. -/
def Curtain.limit (c : Curtain) (which : CurtainLimit) (closed : Bool) : Curtain :=
  match which, closed with
  | .openLimit, true =>
    if c.state = .opening then { c with openLimit := true, state := .opened, timer := none }
    else { c with openLimit := true }
  | .closedLimit, true =>
    if c.state = .closing then { c with closedLimit := true, state := .closed, timer := none }
    else { c with closedLimit := true }
  | .openLimit, false =>
    if c.state = .opened then { c with openLimit := false, state := .halfway } else { c with openLimit := false }
  | .closedLimit, false =>
    if c.state = .closed then { c with closedLimit := false, state := .halfway } else { c with closedLimit := false }

/-! ## House cues -/

/-- Firing the entry at a place of the cue list (R130). -/
def State.fireEntry (s : State) (n : ScreenNo) (place : Nat) (c : Cue) : State :=
  if member (s.house.marks.get n) place then s
  else
    let s1 := s.setMarks n (s.house.marks.get n ||| (1#16 <<< (place - 1)))
    let s2 := match c.scene with
      | none => s1
      | some a => (s1.recallScene n a.scene a.fade).1
    match c.curtain with
    | none => s2
    | some a => s2.actCurtain n a

/-- Firing, in list order, every entry of CURRENT's cue list that one event reaches (R130). -/
def State.fireWhere (s : State) (n : ScreenNo) (reached : Cue → Bool) : State :=
  ((s.bankIn n .current).cues.zipIdx 1).foldl (fun t x => if reached x.1 then t.fireEntry n x.2 x.1 else t) s

/-- The REEL_FRAME entries of a reel whose frame passes a test. -/
def Cue.reelFrame (c : Cue) (reel : Nat) (frame : Nat → Bool) : Bool :=
  match c.anchor with
  | .reelFrame r f => decide (r = reel) && frame f
  | _ => false

/-- The show-start notice (R131). -/
def State.houseShowStart (s : State) (n : ScreenNo) : State :=
  (s.setMarks n 0#16).fireWhere n fun c => decide (c.anchor = .showStart)

/-- The show-end notice (R134). -/
def State.houseShowEnd (s : State) (n : ScreenNo) : State := s.fireWhere n fun c => decide (c.anchor = .showEnd)

/-! ## The standing table -/

/-- Table 42. -/
def StandingKey.rank : StandingKey → Nat
  | .fire => 3
  | .filmBreak _ => 2
  | .arcFault _ => 2
  | .power => 1

/-- The channels a key reaches (Table 42). -/
def StandingKey.channels : StandingKey → List ChannelNo
  | .fire | .power => allChannels
  | .filmBreak n | .arcFault n => allPositions.map fun k => ⟨n, k⟩

def StandingTable.get (t : StandingTable) : StandingKey → Option StandingEntry
  | .fire => t.fire
  | .filmBreak n => t.breaks.get n
  | .arcFault n => t.arcFaults.get n
  | .power => t.power

def StandingTable.set (t : StandingTable) (k : StandingKey) (e : Option StandingEntry) : StandingTable :=
  match k with
  | .fire => { t with fire := e }
  | .filmBreak n => { t with breaks := t.breaks.set n e }
  | .arcFault n => { t with arcFaults := t.arcFaults.set n e }
  | .power => { t with power := e }

/-- The number of entries (R139: at most eight). -/
def StandingTable.size (t : StandingTable) : Nat := (allStandingKeys.filter fun k => (t.get k).isSome).length

/-- Whether a key takes a channel from its holder (R141). -/
def StandingKey.takes (k : StandingKey) : Option StandingKey → Bool
  | none => true
  | some h => decide (h.rank ≤ k.rank)

/-- One channel of a standing action (R141), with whether some channel has been taken. -/
def standingChannel (k : StandingKey) (e : StandingEntry) (acc : State × Bool) (c : ChannelNo) : State × Bool :=
  match e.levels.get c.pos with
  | none => acc
  | some l =>
    if k.takes (acc.1.channel c).holder then
      (acc.1.setChannel c { (acc.1.channel c).startFade l e.fade with holder := if e.hold then some k else none }, true)
    else acc

/-- A standing action applied to its scope (R141). -/
def State.applyStanding (s : State) (k : StandingKey) (e : StandingEntry) : State × Bool :=
  k.channels.foldl (standingChannel k e) (s, false)

/-- A standing action fired (R140): HOUSE(STANDING) is posted when it started at least one fade. -/
def State.fireStanding (s : State) (k : StandingKey) : State :=
  match s.retained.standing.get k with
  | none => s
  | some e => if (s.applyStanding k e).2 then (s.applyStanding k e).1.post .houseUnit (.standing k) else s

/-- The condition of a key has passed (R142). -/
def State.standingClear (s : State) : StandingKey → Bool
  | .fire => !s.shutterUnit.fireActive
  | .filmBreak n => (projectorsOf n).all fun p =>
      !((s.projector p).runState = .halted && (s.projector p).haltCause = some .filmBreak)
  | .arcFault n => (projectorsOf n).all fun p => (s.arc p).state ≠ .fault && (s.arc p).state ≠ .spent
  | .power => true

end Sys2Proof.Machine
end

