-- ==== Sys2Proof/Machine/ArcUnit.lean ====
section
/-! DEFINITION. The arc unit: strikes (R88, R89), putting an arc out (R91 to R93), carbon feed (R94 to R98), and the
burn-rate measurement (R101, R102). -/

namespace Sys2Proof.Machine

/-- The arc-state notice to the sequencer, the scheduler and the duty unit (R86). -/
def State.arcNotice (s : State) (p : ProjNo) : State :=
  ((s.noteArmIfStandby p).noteRetest p.screen).tellDuty (.projector p)

/-- The re-trim notice to the same three blocks (R86). -/
def State.retrimNotice (s : State) (p : ProjNo) : State :=
  ((s.noteArmIfStandby p).noteRetest p.screen).tellDuty (.retrim p)

/-- The arc-fault notice, sent while the showing flag is set (R98): the ARCFAULT standing action is fired. -/
def State.arcFaultNotice (s : State) (p : ProjNo) : State :=
  if (s.arc p).showing then s.fireStanding (.arcFault p.screen) else s

/-! ## Measuring spans -/

/-- A span begins (R101). -/
def State.beginSpan (s : State) (p : ProjNo) : State :=
  s.setArc p { s.arc p with mark := some (s.tracker p).counter }

/-- A span ends if one is running (R101): its frames join the accumulator, which saturates. -/
def Arc.endSpan (a : Arc) (counter : Nat) : Arc :=
  match a.mark with
  | none => a
  | some m => { a with frames := min 65535 (a.frames + (counter - m)), mark := none }

/-- The rate of R102 from the two accumulators, held to 1 to 500. -/
def burnRate (steps frames : Nat) : Nat := max 1 (min 500 (ceilDiv (steps * 1000) frames))

/-- A rate joins the burn history at its head; of four rates the oldest is removed (R102). -/
def ArcStore.record (k : ArcStore) (rate : Nat) : ArcStore := { k with history := (rate :: k.history).take 3 }

/-- The showing notice (R29, R101). -/
def State.arcShowing (s : State) (p : ProjNo) : State :=
  let s1 := s.setArc p { s.arc p with showing := true }
  if (s.arc p).state = .burning then s1.beginSpan p else s1

/-- The showing-ended notice (R102). -/
def State.arcShowingEnded (s : State) (p : ProjNo) : State :=
  let a := (s.arc p).endSpan (s.tracker p).counter
  let s1 := s.setArc p { a with frames := 0, steps := 0, showing := false }
  if 4800 ≤ a.frames then
    (s1.setArcStore p ((s.arcStore p).record (burnRate a.steps a.frames))).retrimNotice p
  else s1

/-! ## Striking -/

/-- The crater reading is taken in BURNING (R94): LONG starts a train (R95), and both contacts closed are reported once. -/
def State.readCrater (s : State) (p : ProjNo) : State :=
  match s.pins.craterLong.get p, s.pins.craterShort.get p with
  | true, false =>
    if (s.arc p).train = .idle then
      let k := s.arcStore p
      s.setArc p { s.arc p with train := FeedTrain.high k.highWidth k.lowWidth k.highWidth }
    else s
  | true, true =>
    if (s.arc p).sensorReported then s
    else (s.setArc p { s.arc p with sensorReported := true }).post (.arc p) (.sensor p)
  | false, _ => s

/-- The arc is established (R88). -/
def State.establish (s : State) (p : ProjNo) : State :=
  let s1 := s.setArc p { s.arc p with
    state := .burning, phase := none, attempts := 0, lossTimer := none, sensorReported := false, train := .idle }
  let s2 := if (s.arc p).showing then s1.beginSpan p else s1
  ((s2.post (.arc p) (.lit p)).readCrater p).arcNotice p

/-- An arc is put out (R91, R92, R93). -/
def State.putOut (s : State) (p : ProjNo) : State :=
  let a := (s.arc p).endSpan (s.tracker p).counter
  (s.setArc p { a with state := .off, phase := none, attempts := 0, lossTimer := none, train := .idle }).arcNotice p

/-- STRIKING or BURNING. -/
def ArcState.lit : ArcState → Bool
  | .striking | .burning => true
  | .off | .fault | .spent => false

/-- Fire puts out an arc that is STRIKING or BURNING (R92). -/
def State.fireOut (s : State) (p : ProjNo) : State := if (s.arc p).state.lit then s.putOut p else s

/-- A link drop puts it out with ARC(OUT) (R93). -/
def State.linkOut (s : State) (i : ShutterNo) (p : ProjNo) : State :=
  if (s.arc p).state.lit then (s.putOut p).post (.arc p) (.arcOut p i) else s

/-! ## The carbon account -/

/-- The LOW flag follows the account (R97): setting it posts ARC(LOW) and tells the duty unit, and so does clearing it. -/
def State.settleLow (s : State) (p : ProjNo) : State :=
  let low := decide ((s.arcStore p).remaining ≤ (s.arcStore p).reserve)
  if low && !(s.arc p).low then
    ((s.setArc p { s.arc p with low := true }).post (.arc p) (.low p)).tellDuty (.low p)
  else if !low && (s.arc p).low then
    (s.setArc p { s.arc p with low := false }).tellDuty (.lowCleared p)
  else s

/-- The carbon is spent (R96). -/
def State.becomeSpent (s : State) (p : ProjNo) : State :=
  let a := (s.arc p).endSpan (s.tracker p).counter
  let s1 := s.setArc p { a with state := .spent, train := .idle, lossTimer := none }
  ((s1.post (.arc p) (.spent p)).arcNotice p).arcFaultNotice p

/-- A completed feed step of the carbon account (R96): no step is ever taken with carbon remaining at 0. -/
def ArcStore.feed (k : ArcStore) : ArcStore :=
  if k.remaining = 0 then k else { k with remaining := k.remaining - 1, stepsSinceTrim := k.stepsSinceTrim + 1 }

/-- The step accumulator counts the feed steps of a running span (R96, R101). -/
def Arc.feed (a : Arc) : Arc := if a.mark.isSome then { a with steps := min 60000 (a.steps + 1) } else a

/-- A completed feed step (R96). Its LOW notice goes before the arc-state notice of SPENT (DESIGN CHOICE, log entry 31). -/
def State.feedStep (s : State) (p : ProjNo) : State :=
  let s1 := ((s.setArcStore p (s.arcStore p).feed).setArc p (s.arc p).feed).settleLow p
  if (s.arcStore p).feed.remaining = 0 then s1.becomeSpent p else s1

end Sys2Proof.Machine
end

