-- ==== Sys2Proof/Machine/Flags.lean ====
section
/-! DEFINITION. The output lines of the part, each computed from the records that the rules give it (log entry 24), and the
run states that command the motor on (R23). -/

namespace Sys2Proof.Machine

/-- The motor states (R23). -/
def RunState.motor : RunState → Bool
  | .starting | .running | .showing | .runout => true
  | .empty | .threaded | .halted => false

/-- The motor drive of a projector (R23). -/
def State.motorDrive (s : State) (p : ProjNo) : Bool := (s.projector p).runState.motor

/-- The douser drive of a projector, true for OPEN (R21). -/
def State.douserDrive (s : State) (p : ProjNo) : Bool := decide ((s.projector p).douser = .opened)

/-- The arc contactor (Table 26): on in BURNING, and in TOUCH and PROOF of STRIKING. -/
def State.contactor (s : State) (p : ProjNo) : Bool :=
  match (s.arc p).state, (s.arc p).phase with
  | .burning, _ => true
  | .striking, some t => decide (t.phase ≠ .pause)
  | _, _ => false

/-- The striker, true while it is driven to touch (Table 26). -/
def State.striker (s : State) (p : ProjNo) : Bool :=
  match (s.arc p).state, (s.arc p).phase with
  | .striking, some t => decide (t.phase = .touch)
  | _, _ => false

/-- The carbon feed motor: on in phase HIGH of the train (R95). -/
def State.feedMotor (s : State) (p : ProjNo) : Bool :=
  match (s.arc p).train with
  | .high .. => true
  | _ => false

/-- The monitor output: the selected screen, or the followed one (R81). -/
def State.monitorOutput (s : State) : ScreenNo :=
  match s.retained.monitor with
  | .follow => s.booth.followed
  | .screen n => n

/-- The curtain open drive (Table 41). -/
def State.openDrive (s : State) (n : ScreenNo) : Bool := decide ((s.curtain n).state = .opening)

/-- The curtain close drive (Table 41). -/
def State.closeDrive (s : State) (n : ScreenNo) : Bool := decide ((s.curtain n).state = .closing)

/-- A station's attention line, true when asserted (R187). -/
def State.attentionLine (s : State) (st : Station) : Bool :=
  allClasses.any fun c => ((s.attn st).pending.get c).isSome

/-- A requester of the bell is ringing when it is present and its silenced mark is clear (R83). -/
def Bell.ringing (b : Bell) : Bool :=
  allScreens.any fun n => b.late.get n = some false || b.held.get n = some false

end Sys2Proof.Machine
end

