-- ==== Sys2Proof/Machine/ProjectorUnit.lean ====
section
/-! DEFINITION. The projector unit and the parts of its tracker that it drives: the cue context (R49), the orders (R26, R28,
R30), halts (R31) and emptying (R34, R36, R38). -/

namespace Sys2Proof.Machine

/-! ## The tracker at a change of run state -/

/-- The motor comes on (R44). -/
def Tracker.motorOn (t : Tracker) : Tracker :=
  { t with lastInterval := 0, inBand := 0, outBand := 0, atSpeed := false, startTimer := some 3000,
           stallTimer := some 500, timing := false }

/-- The motor goes off (R44). -/
def Tracker.motorOff (t : Tracker) : Tracker :=
  { t with inBand := 0, outBand := 0, atSpeed := false, startTimer := none, stallTimer := none, timing := false }

/-- The projector becomes EMPTY (R44): the counter is 0 and the context is discarded. -/
def Tracker.emptied (t : Tracker) : Tracker := { t.motorOff with counter := 0, context := none }

/-- The policy a context stores (R49): COUNT when the record has the no-marks flag. -/
def storedPolicy (policy : Policy) : Option Reel → Policy
  | some r => if r.noMarks then .count else policy
  | none => policy

/-- A fresh cue context for a reel threaded on a screen (R49). -/
def State.freshContext (s : State) (n : ScreenNo) (reel : Nat) : CueContext where
  policy := storedPolicy (s.retained.cuePolicy.get n).policy (s.reelRecord n reel)
  window := (s.retained.cuePolicy.get n).window
  motor := .pending
  changeover := .pending
  strays := 0
  fallenBack := false

/-! ## Shutter causes, as far as a projector unit reaches them -/

/-- Whether a set holds a cause. -/
def CauseSet.has (c : CauseSet) : DropCause → Bool
  | .power => c.power
  | .fire => c.fire
  | .manual => c.manual
  | .filmBreak p => c.breaks.get p
  | .heat p => c.heats.get p
  | .link i => c.links.get i

/-- A set with a cause added or removed (R106). -/
def CauseSet.put (c : CauseSet) (k : DropCause) (held : Bool) : CauseSet :=
  match k with
  | .power => { c with power := held }
  | .fire => { c with fire := held }
  | .manual => { c with manual := held }
  | .filmBreak p => { c with breaks := c.breaks.set p held }
  | .heat p => { c with heats := c.heats.set p held }
  | .link i => { c with links := c.links.set i held }

/-- A cause is cleared from every shutter that holds it (R111). -/
def State.clearCause (s : State) (k : DropCause) : State :=
  { s with shutterUnit := { s.shutterUnit with
      shutters := s.shutterUnit.shutters.map fun r => { r with causes := r.causes.put k false } } }

/-! ## Assignments -/

/-- The assigned reel after running reel `r` (R35). -/
def State.assignAfter (s : State) (p : ProjNo) (r : Nat) : Option Nat :=
  match (s.showRec p.screen).state, s.reelCount p.screen with
  | .playing, some c => if r + 2 ≤ c then some (r + 2) else s.openingReel p
  | _, _ => s.openingReel p

/-- The record, the tracker and the run marks of a projector that becomes EMPTY (R34, R36, R38, R39). -/
def State.becomeEmpty (s : State) (p : ProjNo) (assigned : Option Nat) : State :=
  ((s.setProjector p
      { runState := .empty, loaded := none, assigned := assigned, haltCause := none, midReel := false, douser := .closed }
    ).setTracker p (s.tracker p).emptied).setRunMarks p ⟨false, none, 0⟩

/-- The showing-ended notice of a projector that leaves SHOWING. A re-trim notice that the arc unit sends on it goes before the
notice of the projector unit (DESIGN CHOICE, log entry 31). -/
def State.endShowing (s : State) (p : ProjNo) : State :=
  if (s.projector p).runState = .showing then s.arcShowingEnded p else s

/-- The end of a runout, or a film-out (R34), with the emptied notice. -/
def State.emptyRun (s : State) (p : ProjNo) : State :=
  let s1 := s.endShowing p
  let assigned := match (s.projector p).loaded with
    | some r => s.assignAfter p r
    | none => s.openingReel p
  ((s1.becomeEmpty p assigned).noteRunState p.screen).tellDuty (.projector p)

/-- A rotation resets a projector (R38). -/
def State.rotateProjector (s : State) (p : ProjNo) : State :=
  let s1 := s.endShowing p
  let s2 := if (s.projector p).runState = .halted then s1.clearCause (.filmBreak p) else s1
  (s2.becomeEmpty p (s.openingReel p)).noteRunState p.screen

/-! ## Halts -/

/-- The cause that a halt posts (Table 12). -/
def HaltCause.posts (c : HaltCause) (p : ProjNo) : Option AttnCause :=
  match c with
  | .filmBreak => some (.filmBreak p)
  | .stall | .startFail | .shutter | .douser => some (.halt p c)
  | .fire | .stop | .power => none

/-- A halt of a projector in a motor state (R31), with the notices that the arc unit, the house unit, the scheduler and
the duty unit take. What the sequencer does on it is `State.onHalt`, and the BREAK trigger is raised by `State.breakHalt`. -/
def State.haltCore (s : State) (p : ProjNo) (c : HaltCause) : State :=
  if (s.projector p).runState.motor then
    let s1 := s.endShowing p
    let s2 := s1.setProjector p { s1.projector p with runState := .halted, haltCause := some c, douser := .closed }
    let s3 := s2.setTracker p (s2.tracker p).motorOff
    let s4 := if (s.projector p).runState = .showing && c = .filmBreak then s3.fireStanding (.filmBreak p.screen) else s3
    let s5 := match c.posts p with
      | some k => s4.post (.projector p) k
      | none => s4
    (s5.noteRunState p.screen).tellDuty (.projector p)
  else s

/-! ## Orders: each answers whether it was taken -/

/-- The Start order (R26). -/
def State.startOrder (s : State) (p : ProjNo) : State × Bool :=
  if (s.projector p).runState = .threaded then
    ((s.setProjector p { s.projector p with runState := .starting }).setTracker p (s.tracker p).motorOn, true)
  else (s, false)

/-- The Open order with its permit (R28). -/
def State.openOrder (s : State) (p : ProjNo) : State × Bool :=
  if ((s.projector p).runState = .running || (s.projector p).runState = .showing) && s.permit p then
    (s.setProjector p { s.projector p with douser := .opened }, true)
  else (s, false)

/-- The Douse order (R30). -/
def State.douseOrder (s : State) (p : ProjNo) : State :=
  if (s.projector p).runState = .running || (s.projector p).runState = .showing then
    s.setProjector p { s.projector p with douser := .closed }
  else s

/-- The runout limit of a projector has been reached (R47). -/
def State.atRunoutLimit (s : State) (p : ProjNo) : Bool :=
  match s.loadedRecord p with
  | none => false
  | some r => decide (r.pictureEnd + 320 ≤ (s.tracker p).counter)

/-- A SHOWING projector goes to RUNOUT (R29, R30), and is emptied at once when it stands at its runout limit (R47). A
re-trim notice goes before the runout notice (DESIGN CHOICE, log entry 31). -/
def State.enterRunout (s : State) (p : ProjNo) : State :=
  let s1 := s.arcShowingEnded p
  let s2 := s1.setProjector p { s1.projector p with runState := .runout, douser := .closed }
  let s3 := (s2.noteArm p.screen).tellDuty (.projector p)
  if s3.atRunoutLimit p then s3.emptyRun p else s3

/-- The Close order (R30). In any state other than SHOWING it is refused. -/
def State.closeOrder (s : State) (p : ProjNo) : State :=
  if (s.projector p).runState = .showing then s.enterRunout p else s

end Sys2Proof.Machine
end

