-- ==== Sys2Proof/Machine/Scheduler.lean ====
section
/-! DEFINITION. The show scheduler below the start of a show: the readiness test (R151), arming (R149), the call (R150), and
the rotation and show-end notices (R157). -/

namespace Sys2Proof.Machine

/-- The conditions of a list that fail, in its order. -/
def failing (conditions : List (Reason × Bool)) : List Reason :=
  conditions.filterMap fun x => if x.2 then none else some x.1

/-- PASS, or the first failing condition (R67, R151). -/
def resultOf : List Reason → TestResult
  | [] => .pass
  | r :: _ => .fail r

/-- The sufficiency of a projector's carbon for a reel of CURRENT from a counter (R103). A reel without a record has no E,
and the test then fails (log entry 13). -/
def State.carbonFor (s : State) (p : ProjNo) (reel counter : Nat) : Bool :=
  match s.reelRecord p.screen reel with
  | none => false
  | some r => (s.arcStore p).sufficient r.pictureEnd counter

/-- The readiness conditions that fail, in the order of Table 46. Without a header condition 1 fails, and no other is read
(R151). -/
def State.readinessFails (s : State) (n : ScreenNo) : List Reason :=
  match s.header n with
  | none => [.bank]
  | some h =>
    let p : ProjNo := ⟨n, h.firstSide⟩
    failing
      [(.bank, decide ((s.bankIn n .current).state = .complete)),
       (.screen, decide ((s.screen n).state = .dark)),
       (.projectorState, decide ((s.projector p).runState = .threaded) && decide ((s.tracker p).counter = 0)),
       (.projectorReel, decide ((s.projector p).loaded = some 1)),
       (.arc, decide ((s.arc p).state = .burning)),
       (.shutter, s.permit p),
       (.carbon, s.carbonFor p 1 0),
       (.fire, !s.shutterUnit.fireActive)]

/-- The readiness test (R151). -/
def State.readiness (s : State) (n : ScreenNo) : TestResult := resultOf (s.readinessFails n)

/-- The carbon-short notice of a test that fails on condition 7 and on no other (R151). -/
def State.carbonNotice (s : State) (n : ScreenNo) : State :=
  match s.header n with
  | some h => if s.readinessFails n = [.carbon] then s.tellDuty (.carbonShort ⟨n, h.firstSide⟩) else s
  | none => s

/-- A readiness test made and stored, with its carbon-short notice (R151). -/
def State.storeReadiness (s : State) (n : ScreenNo) : State :=
  (s.setShow n { s.showRec n with readiness := s.readiness n }).carbonNotice n

/-- A change of show state with its show-state notice (R148). -/
def State.setShowState (s : State) (n : ScreenNo) (st : ShowState) : State :=
  (s.setShow n { s.showRec n with state := st }).tellDuty (.screen n)

/-- The call (R150). The rule gives no order of the two notices for the duty unit: the model sends the show-state notice, then the
carbon-short notice of the test (DESIGN CHOICE, log entry 31). -/
def State.callScreen (s : State) (n : ScreenNo) (minute : Nat) : State :=
  ((s.setShowState n .called).storeReadiness n).post .scheduler (.called n minute)

/-- The next start that a start list gives at time of day `d` and booth seconds `b` (R149). -/
def nextStart (starts : List Nat) (d b : Nat) : Option NextStart :=
  match starts.find? fun m => d < 60 * m with
  | some m => some ⟨m, b + (60 * m - d), b + (60 * m - d) - 120, none⟩
  | none =>
    match starts with
    | [] => none
    | m :: _ => some ⟨m, b + (86400 - d) + 60 * m, b + (86400 - d) + 60 * m - 120, none⟩

/-- The next start a screen is armed with (R149): none while CLOCK_UNSET is set. -/
def State.chosenStart (s : State) (n : ScreenNo) : Option NextStart :=
  if s.clock.unset then none else nextStart (s.bankIn n .current).starts s.timeOfDay s.clock.boothSeconds

/-- A CALLED screen without a call reached returns to WAITING (R149). -/
def State.uncall (s : State) (n : ScreenNo) : State :=
  if (s.showRec n).state = .called then s.setShowState n .waiting else s

/-- Arming (R149). -/
def State.armNext (s : State) (n : ScreenNo) : State :=
  if (s.showRec n).state = .waiting || (s.showRec n).state = .called then
    let s1 := s.setShow n { s.showRec n with next := s.chosenStart n }
    match s.chosenStart n with
    | some x => if x.call ≤ s.clock.boothSeconds then s1.callScreen n x.minute else s1.uncall n
    | none => s1.uncall n
  else s

/-- The rotation notice (R157): it re-arms in WAITING and CALLED, and the readiness test is then due. -/
def State.schedulerRotation (s : State) (n : ScreenNo) : State := (s.armNext n).noteRetest n

/-- The show-end notice, taken with the show PLAYING (R157). -/
def State.schedulerShowEnd (s : State) (n : ScreenNo) : State :=
  if (s.showRec n).state = .playing then
    ((s.setShowState n .waiting).armNext n).post .scheduler (.showEnded n)
  else s

end Sys2Proof.Machine
end

