-- ==== Sys2Proof/Machine/BankStore.lean ====
section
/-! DEFINITION. The bank store and the clear engine: rotation (R13), the rotation check at a show end (R15) and at the end of
a clear (R16), and the end of a clear (R18). -/

namespace Sys2Proof.Machine

/-- One bank at a rotation (R13). -/
def Bank.rotated (b : Bank) : Bank :=
  match b.role with
  | .current => { b with role := .spare, state := .clearing }
  | .next => { b with role := .current }
  | .spare => { b with role := .next }

/-- The banks of a screen, the clear queue and the rotation-pending flag at a rotation (R13, R17 to R19). -/
def State.rotateBanks (s : State) (n : ScreenNo) : State :=
  let t := s.retained.banks.get n
  { s with
    retained := { s.retained with
      banks := s.retained.banks.set n ⟨t.b0.rotated, t.b1.rotated, t.b2.rotated⟩
      rotationPending := s.retained.rotationPending.set n false }
    bankUnit :=
      { queue := s.bankUnit.queue ++ [⟨n, s.bankNo n .current⟩]
        clearLeft := if s.bankUnit.queue.isEmpty then some 2000 else s.bankUnit.clearLeft } }

/-- A rotation (R13): the banks, then the projector units, the scheduler and the duty unit, and last SHOW(ROTATED). -/
def State.rotation (s : State) (n : ScreenNo) : State :=
  let s1 := ((s.rotateBanks n).rotateProjector ⟨n, .a⟩).rotateProjector ⟨n, .b⟩
  ((s1.schedulerRotation n).tellDuty (.screen n)).post .bankStore (.rotated n)

/-- A show end would rotate the screen at once (R15). -/
def State.rotatesNow (s : State) (n : ScreenNo) : Bool :=
  (s.bankIn n .next).state = .complete && (s.bankIn n .spare).state ≠ .clearing

/-- The rotation check at a show end (R15). -/
def State.bankShowEnd (s : State) (n : ScreenNo) : State :=
  if s.rotatesNow n then s.rotation n
  else if (s.bankIn n .next).state = .complete then s.setRotationPending n true
  else s

/-- The show-end notice at the scheduler, the house unit, the bank store and the duty unit (R78). Where a rotation is made,
the scheduler and the house unit may each take the notice before the bank store or after it (R15, R134, log entry 3). The duty
unit takes it last (DESIGN CHOICE, log entry 31). -/
def State.showEndNotices (s : State) (n : ScreenNo) : State :=
  (if s.rotatesNow n then
    let schedulerFirst := s.takeBit.1
    let houseFirst := s.takeBit.2.takeBit.1
    let s2 := s.takeBit.2.takeBit.2
    let s3 := if schedulerFirst then s2.schedulerShowEnd n else s2
    let s4 := if houseFirst then s3.houseShowEnd n else s3
    let s5 := s4.bankShowEnd n
    let s6 := if schedulerFirst then s5 else s5.schedulerShowEnd n
    if houseFirst then s6 else s6.houseShowEnd n
  else ((s.schedulerShowEnd n).houseShowEnd n).bankShowEnd n).tellDuty (.screen n)

/-- A screen may rotate outside a show end (R14, R16). -/
def State.darkAndIdle (s : State) (n : ScreenNo) : Bool :=
  (s.screen n).state = .dark && ((s.showRec n).state = .waiting || (s.showRec n).state = .called)

/-- The deferred rotation at the end of a clear (R16). -/
def State.deferredRotation (s : State) (n : ScreenNo) : State :=
  if s.retained.rotationPending.get n then
    if s.darkAndIdle n && (s.bankIn n .next).state = .complete then s.rotation n else s.setRotationPending n false
  else s

/-- The end of the clear of the head of the queue (R18). -/
def State.endClear (s : State) (x : BankRef) (rest : List BankRef) : State :=
  let s1 := s.setBank x.screen x.bank (.blank (s.bank x.screen x.bank).role .empty)
  let s2 := { s1 with bankUnit := { s1.bankUnit with
    queue := rest, clearLeft := if rest.isEmpty then none else some 2000 } }
  (s2.deferredRotation x.screen).post .clearEngine (.cleared x.screen)

end Sys2Proof.Machine
end

