-- ==== Sys2Proof/Machine/Sequencer.lean ====
section
/-! DEFINITION. The changeover sequencer of a screen: opening (R63 to R65), interruption (R66), arming (R67, R68), cues (R69 to
R71), the swap (R72 to R75), halts (R76, R77), the show end (R78), and the bell it shares (R82, R83). -/

namespace Sys2Proof.Machine

/-! ## The bell -/

/-- The output and the cadence follow the requesters (R83). -/
def Bell.settle (b : Bell) : Bell :=
  if b.ringing then
    match b.cadenceLeft with
    | none => { b with output := true, cadenceLeft := some 500 }
    | some _ => b
  else { b with output := false, cadenceLeft := none }

/-- A requester joins with its silenced mark clear, unless it is present (R82). -/
def joined : Option Bool → Option Bool
  | none => some false
  | some m => some m

/-- The LATE requester of a screen joins the bell. -/
def Bell.joinLate (b : Bell) (n : ScreenNo) : Bell := { b with late := b.late.set n (joined (b.late.get n)) }.settle

def Bell.leaveLate (b : Bell) (n : ScreenNo) : Bell := { b with late := b.late.set n none }.settle

def Bell.joinHeld (b : Bell) (n : ScreenNo) : Bell := { b with held := b.held.set n (joined (b.held.get n)) }.settle

def Bell.leaveHeld (b : Bell) (n : ScreenNo) : Bell := { b with held := b.held.set n none }.settle

/-! ## The record -/

def State.modScreen (s : State) (n : ScreenNo) (f : Screen → Screen) : State := s.setScreen n (f (s.screen n))

/-- A change of changeover state, with the screen-state notice (R61). A screen that enters ROLLING is the one followed
(R81). -/
def State.setScreenState (s : State) (n : ScreenNo) (st : ScreenState) : State :=
  if (s.screen n).state = st then s
  else
    let s1 := s.modScreen n fun r => { r with state := st }
    let s2 := if st = .rolling then { s1 with booth := { s1.booth with followed := n } } else s1
    (s2.noteRetest n).tellDuty (.screen n)

/-- The late-motor flag is set and the LATE requester joins (R69, R77, R82). -/
def State.setLate (s : State) (n : ScreenNo) : State :=
  (s.modScreen n fun r => { r with lateMotor := true }).setBell (s.booth.bell.joinLate n)

def State.clearLate (s : State) (n : ScreenNo) : State :=
  (s.modScreen n fun r => { r with lateMotor := false }).setBell (s.booth.bell.leaveLate n)

/-- A timer of 250 ms for a named projector (R64, R72). -/
def timerFor (p : ProjNo) : Option NamedTimer := some ⟨p, 250⟩

/-- Whether a confirmation timer runs for a projector. -/
def runsFor (t : Option NamedTimer) (p : ProjNo) : Bool :=
  match t with
  | some x => decide (x.projector = p)
  | none => false

/-- An incoming projector is at speed (R70). -/
def State.atSpeed (s : State) (p : ProjNo) : Bool :=
  decide ((s.projector p).runState = .running) && (s.tracker p).atSpeed

/-! ## Interruption -/

/-- The current reel after an interruption (R66, step 2): raised by one when its reel has run to E, or when no projector of
the screen holds it. -/
def State.settledReel (s : State) (n : ScreenNo) : Option Nat :=
  match (s.screen n).currentReel with
  | none => none
  | some r =>
    match s.holderOf n r with
    | none => some (r + 1)
    | some p => if s.atPictureEnd p then some (r + 1) else some r

/-- The projector that an interruption stops if it is STARTING or RUNNING (R66, step 1). -/
def State.idleProj (s : State) (n : ScreenNo) : Option ProjNo :=
  match (s.screen n).opening with
  | some p => some p.other
  | none => s.standby n

/-- The Stop order of an interruption (R66, step 1). -/
def State.stopIdle (s : State) (n : ScreenNo) : State :=
  match s.idleProj n with
  | some p =>
    if (s.projector p).runState = .starting || (s.projector p).runState = .running then s.haltCore p .stop else s
  | none => s

/-- The record of a screen that goes DARK (R66, R78): side and opening projector absent, flags clear, timers idle. -/
def Screen.darkened (r : Screen) : Screen :=
  { r with opening := none, showingSide := none, swapPending := false, swapFailed := false, immediate := false,
           confirmTimer := none, closeWatch := none }

/-- An interruption (R66), from any state other than DARK. -/
def State.interrupt (s : State) (n : ScreenNo) : State :=
  if (s.screen n).state = .dark then s
  else
    let s1 := s.stopIdle n
    let s2 := s1.modScreen n fun r => { r.darkened with currentReel := s1.settledReel n }
    ((s2.clearLate n).setScreenState n .dark).post (.sequencer n) (.dark n)

/-! ## Arming -/

/-- The arming conditions that fail for a standby, in the order of Table 22. -/
def State.armingFails (s : State) (n : ScreenNo) (p : ProjNo) : List Reason :=
  failing
    [(.standbyState, decide ((s.projector p).runState = .threaded) && decide ((s.tracker p).counter = 0)),
     (.standbyReel, match (s.projector p).loaded, (s.screen n).currentReel with
       | some r, some c => decide (r = c + 1)
       | _, _ => false),
     (.arc, decide ((s.arc p).state = .burning)),
     (.shutter, s.permit p),
     (.carbon, match (s.projector p).loaded with
       | some r => s.carbonFor p r 0
       | none => false),
     (.fire, !s.shutterUnit.fireActive)]

/-- The standby gets the Start order and the screen rolls (R68, R69, R79). -/
def State.roll (s : State) (n : ScreenNo) (p : ProjNo) : State := (s.startOrder p).1.setScreenState n .rolling

/-- What an arming result does (R68). The failing check that takes ARMED to SINGLE is also the check of that entry (log
entry 5). -/
def State.actOnArming (s : State) (n : ScreenNo) (p : ProjNo) (pass : Bool) : State :=
  match (s.screen n).state, pass with
  | .single, true => if (s.screen n).lateMotor then (s.clearLate n).roll n p else s.setScreenState n .armed
  | .armed, false => s.setScreenState n .single
  | _, _ => s

/-- The arming check (R67, R68), in SINGLE and in ARMED. Its carbon-short notice goes before the screen-state notice of what its
result does (DESIGN CHOICE, log entry 31). -/
def State.armingCheck (s : State) (n : ScreenNo) : State :=
  if (s.screen n).state = .single || (s.screen n).state = .armed then
    match s.standby n with
    | none => s
    | some p =>
      let fails := s.armingFails n p
      let s1 := s.modScreen n fun r => { r with arming := resultOf fails }
      let s2 := if fails = [.carbon] then s1.tellDuty (.carbonShort p) else s1
      s2.actOnArming n p fails.isEmpty
  else s

/-! ## Opening -/

/-- An opening that fails at its timer or at the permit (R65): Douser-fault order, then an interruption. -/
def State.openFailed (s : State) (n : ScreenNo) (p : ProjNo) : State := (s.haltCore p .douser).interrupt n

/-- The open test of STARTING (R64). A running confirmation timer says that the Open order has been given. -/
def State.openTest (s : State) (n : ScreenNo) : State :=
  match (s.screen n).state, (s.screen n).opening with
  | .starting, some p =>
    if s.atSpeed p && decide (s.leadIn p ≤ (s.tracker p).counter) && (s.screen n).confirmTimer.isNone then
      let o := s.openOrder p
      let s1 := o.1.modScreen n fun r => { r with confirmTimer := timerFor p }
      if o.2 then s1 else s1.openFailed n p
    else s
  | _, _ => s

/-- A start or resume order has named its opening projector (R63). -/
def State.beginOpening (s : State) (n : ScreenNo) (p : ProjNo) (reel : Option Nat) : State :=
  let s1 := s.modScreen n fun r => { r with opening := some p, currentReel := reel, sound := p.side }
  let o := (s1.setScreenState n .starting).startOrder p
  if o.2 then o.1 else o.1.interrupt n

/-- The rescue of a rolling screen (R76). -/
def State.rescueRolling (s : State) (n : ScreenNo) (p : ProjNo) : State :=
  let s1 := s.modScreen n fun r =>
    { r with opening := some p, showingSide := none, sound := p.side, swapPending := false, immediate := false,
             swapFailed := false }
  ((s1.setScreenState n .starting).post (.sequencer n) (.rescue n)).openTest n

/-- The rescue completion of a swapping screen (R76): the confirmation timer keeps running. -/
def State.rescueSwapping (s : State) (n : ScreenNo) (p : ProjNo) : State :=
  let s1 := s.modScreen n fun r => { r with opening := some p, showingSide := none, closeWatch := none }
  (s1.setScreenState n .starting).post (.sequencer n) (.rescue n)

/-! ## Halts -/

/-- A halt of the showing projector (R76). -/
def State.showingHalt (s : State) (n : ScreenNo) : State :=
  match (s.screen n).state, s.standby n with
  | .rolling, some p => if s.atSpeed p then s.rescueRolling n p else s.interrupt n
  | .swapping, some p => s.rescueSwapping n p
  | .single, _ | .armed, _ | .final, _ => s.interrupt n
  | _, _ => s

/-- The screen falls back to SINGLE with the motor late, when its incoming has halted (R77). The arming check of the entry
is made in place (R68, log entry 5), so a halt that the sequencer takes next finds its result stored. -/
def State.backToSingle (s : State) (n : ScreenNo) : State := ((s.setLate n).setScreenState n .single).armingCheck n

/-- A halt of the incoming in SWAPPING, with the outgoing projector `q` (R77). The sequencer has taken no halt of `q`, so `q`
is SHOWING to it; one that has halted in the same step refuses the Open order. -/
def State.swapIncomingHalt (s : State) (n : ScreenNo) (q : ProjNo) : State :=
  let s1 := s.modScreen n fun r => { r with confirmTimer := none }
  if s.atPictureEnd q then (s1.closeOrder q).interrupt n
  else
    let o := s1.openOrder q
    let s2 := o.1.modScreen n fun r => { r with sound := q.side, closeWatch := none }
    let s3 := s2.backToSingle n
    if o.2 then s3 else s3.showingHalt n

/-- A halt of the standby (R77). In SINGLE and in ARMED the arming check is made in place (R68, log entry 5). -/
def State.standbyHalt (s : State) (n : ScreenNo) : State :=
  match (s.screen n).state, s.showingProj n with
  | .single, _ | .armed, _ => s.armingCheck n
  | .rolling, _ => (s.modScreen n fun r => { r with immediate := false, swapFailed := false }).backToSingle n
  | .swapping, some q => s.swapIncomingHalt n q
  | _, _ => s

/-- The halt notice, or the run-ended notice, of a projector at its sequencer (R65, R76, R77). -/
def State.onHalt (s : State) (p : ProjNo) : State :=
  let n := p.screen
  match (s.screen n).state with
  | .dark => s
  | .starting => if (s.screen n).opening = some p then s.interrupt n else s
  | _ => if s.showingProj n = some p then s.showingHalt n else s.standbyHalt n

/-- A halt event at a projector, for every cause but BREAK (R31): a projector outside the motor states is left as it is. -/
def State.haltEvent (s : State) (p : ProjNo) (c : HaltCause) : State :=
  if (s.projector p).runState.motor then (s.haltCore p c).onHalt p else s

/-! ## The swap -/

/-- A swap that fails (R75), for the incoming `p` and the outgoing `q`. A revert makes the confirmation timer idle where the
incoming has refused the Open order and the timer still runs (DESIGN CHOICE, log entry 32). -/
def State.swapFail (s : State) (n : ScreenNo) (p q : ProjNo) : State :=
  if s.atPictureEnd q then ((s.closeOrder q).haltCore p .douser).interrupt n
  else
    let o := (s.douseOrder p).openOrder q
    let s1 := o.1.modScreen n fun r =>
      { r with sound := q.side, closeWatch := none, confirmTimer := none, swapFailed := true }
    let s2 := (s1.setScreenState n .rolling).post (.sequencer n) (.revert n)
    if o.2 then s2 else s2.showingHalt n

/-- The start of a swap (R72), with CHANGE(LATE) when picture end forces it (R71). -/
def State.swapStart (s : State) (n : ScreenNo) (p q : ProjNo) (late : Bool) : State :=
  let o := s.openOrder p
  let s1 := (o.1.douseOrder q).modScreen n fun r =>
    { r with sound := p.side, confirmTimer := timerFor p, closeWatch := timerFor q, swapPending := false,
             immediate := false }
  let s2 := s1.setScreenState n .swapping
  let s3 := if late then s2.post (.sequencer n) (.late n) else s2
  if o.2 then s3 else s3.swapFail n p q

/-- The swap of a rolling screen starts when its incoming is at speed (R70). -/
def State.swapIfReady (s : State) (n : ScreenNo) : State :=
  match s.standby n, s.showingProj n with
  | some p, some q => if s.atSpeed p then s.swapStart n p q false else s
  | _, _ => s

/-- An at-speed or running notice of a projector (R64, R70). -/
def State.onSpeed (s : State) (p : ProjNo) : State :=
  let n := p.screen
  match (s.screen n).state with
  | .starting => if (s.screen n).opening = some p then s.openTest n else s
  | .rolling =>
    if s.standby n = some p && !(s.screen n).swapFailed && ((s.screen n).swapPending || (s.screen n).immediate) then
      s.swapIfReady n
    else s
  | _ => s

/-- The lead-in notice of a projector (R64). -/
def State.onLeadIn (s : State) (p : ProjNo) : State :=
  if (s.screen p.screen).opening = some p then s.openTest p.screen else s

/-! ## Cues and picture end -/

/-- The motor cue notice, TAKEN or MISSED (R69). -/
def State.onMotorCue (s : State) (p : ProjNo) : State :=
  let n := p.screen
  if s.showingProj n = some p then
    match (s.screen n).state with
    | .armed => s.roll n p.other
    | .single => (s.setLate n).post (.sequencer n) (.unarmed n (s.screen n).arming)
    | _ => s
  else s

/-- The changeover cue notice with outcome TAKEN (R70). MISSED changes nothing. -/
def State.onChangeoverCue (s : State) (p : ProjNo) : State :=
  let n := p.screen
  if s.showingProj n = some p then
    match (s.screen n).state with
    | .rolling =>
      if (s.screen n).swapFailed then s
      else if s.atSpeed p.other then s.swapStart n p.other p false
      else s.modScreen n fun r => { r with swapPending := true }
    | .single | .armed => s.modScreen n fun r => { r with swapPending := true }
    | _ => s
  else s

/-- Picture end on the last reel (R78). -/
def State.closeShow (s : State) (n : ScreenNo) (p : ProjNo) : State :=
  let s1 := (s.closeOrder p).modScreen n Screen.darkened
  ((s1.clearLate n).setScreenState n .dark).showEndNotices n

/-- The picture-end notice (R71, R78). -/
def State.onPictureEnd (s : State) (p : ProjNo) : State :=
  let n := p.screen
  if s.showingProj n = some p then
    match (s.screen n).state with
    | .rolling =>
      if (s.screen n).swapFailed then (s.closeOrder p).interrupt n else s.swapStart n p.other p true
    | .single | .armed => (s.closeOrder p).interrupt n
    | .final => s.closeShow n p
    | _ => s
  else s

/-! ## Completion of an opening or a swap -/

/-- A cue is no longer PENDING. -/
def CueStatus.settled : CueStatus → Bool
  | .pending => false
  | _ => true

def CueStatus.isTaken : CueStatus → Bool
  | .taken .. => true
  | _ => false

/-- On entry to SINGLE the cues already TAKEN or MISSED are taken, the motor cue first (R65, R73). -/
def State.takeOldCues (s : State) (p : ProjNo) : State :=
  match (s.tracker p).context with
  | none => s
  | some c =>
    let s1 := if c.motor.settled then s.onMotorCue p else s
    if c.changeover.isTaken then s1.onChangeoverCue p else s1

/-- The screen holds projector `p` as showing (R65, R73): its reel, its side, and FINAL or SINGLE. In SINGLE the arming
check of the entry is made in place (log entry 5). -/
def State.beginShowing (s : State) (n : ScreenNo) (p : ProjNo) : State :=
  let reel := (s.projector p).loaded
  let s1 := s.modScreen n fun r =>
    { r with confirmTimer := none, currentReel := reel, showingSide := some p.side, opening := none }
  if reel.isSome && reel = s.reelCount n then s1.setScreenState n .final
  else (s1.setScreenState n .single).armingCheck n

/-- An opening is confirmed (R65). -/
def State.openDone (s : State) (n : ScreenNo) (p : ProjNo) : State :=
  let s1 := s.beginShowing n p
  let s2 := if (s1.screen n).state = .final then s1 else s1.takeOldCues p
  if s2.atPictureEnd p then s2.onPictureEnd p else s2

/-- A swap is complete (R73). -/
def State.swapDone (s : State) (n : ScreenNo) (p : ProjNo) : State :=
  let s1 := (s.modScreen n fun r => { r with swapFailed := false }).clearLate n
  let s2 := (s1.beginShowing n p).post (.sequencer n) (.done n ((s.projector p).loaded.getD 0))
  if (s2.screen n).state = .final then s2 else s2.takeOldCues p

/-- The showing notice of a projector (R65, R73). -/
def State.onShowing (s : State) (p : ProjNo) : State :=
  let n := p.screen
  if runsFor (s.screen n).confirmTimer p then
    match (s.screen n).state with
    | .starting => if (s.screen n).opening = some p then s.openDone n p else s
    | .swapping => if s.standby n = some p then s.swapDone n p else s
    | _ => s
  else s

end Sys2Proof.Machine
end

