-- ==== Sys2Proof/Machine/ShutterUnit.lean ====
section
/-! DEFINITION. The shutter unit: triggers (R110), the notices they give (R112), the fire-alarm loop (R113, R114), fallen links
(R119) and the arming of a shutter (R121 to R123). -/

namespace Sys2Proof

/-- The screen a shutter belongs to (R93). -/
def ShutterNo.screen : ShutterNo → ScreenNo
  | .port p => p.screen
  | .observation n => n

end Sys2Proof

namespace Sys2Proof.Machine

/-! ## Triggers -/

/-- The entry of a trigger key (R108): FIRE and MANUAL always hold all twelve shutters. -/
def DropMap.entry (d : DropMap) : TriggerKey → ShutterSet
  | .fire | .manual => .const true
  | .filmBreak p => d.breaks.get p
  | .heat p => d.heats.get p
  | .link i => d.links.get i

/-- The cause a trigger adds (Table 34). -/
def TriggerKey.cause : TriggerKey → DropCause
  | .fire => .fire
  | .manual => .manual
  | .filmBreak p => .filmBreak p
  | .heat p => .heat p
  | .link i => .link i

/-- One shutter of a trigger's entry (R110). -/
def Shutter.addCause (r : Shutter) (c : DropCause) : Shutter :=
  if r.state = .dropped then { r with causes := r.causes.put c true }
  else { r with state := .dropped, causes := r.causes.put c true, lastDrop := c, energised := false, armingTimer := none }

/-- The shutters that a trigger takes out of UP or ARMING, in ascending order (R110). -/
def State.droppedBy (s : State) (k : TriggerKey) : List ShutterNo :=
  allShutters.filter fun i => (s.retained.dropMap.entry k).get i && (s.shutter i).state ≠ .dropped

/-- The records of a trigger's shutters (R110). -/
def State.addCauses (s : State) (k : TriggerKey) : State :=
  { s with shutterUnit := { s.shutterUnit with
      shutters := .ofFn fun i =>
        if (s.retained.dropMap.entry k).get i then (s.shutter i).addCause k.cause else s.shutter i } }

/-- The cause of the halt that a left-UP notice gives (R32). -/
def DropCause.halt : DropCause → HaltCause
  | .fire => .fire
  | _ => .shutter

/-- The projection ports among some shutters, as projectors, ascending. -/
def portsOf (l : List ShutterNo) : List ProjNo := allProjectors.filter fun p => decide (ShutterNo.port p ∈ l)

/-- The left-UP notices at the projector units: every projector in a motor state halts, before any sequencer takes a halt
(R32). -/
def State.haltPorts (s : State) (ports : List ProjNo) (c : HaltCause) : State := ports.foldl (fun t p => t.haltCore p c) s

/-- The halts of one screen's projectors at its sequencer. Where both have halted, it may take the two halts in either order
(R77, log entry 3). -/
def State.takeHalts (halted : List ProjNo) (s : State) (n : ScreenNo) : State :=
  let ps := halted.filter fun p => decide (p.screen = n)
  if ps.length = 2 then (if s.takeBit.1 then ps.reverse else ps).foldl State.onHalt s.takeBit.2 else ps.foldl State.onHalt s

/-- The left-UP notice of a projection port at the sequencer and the scheduler (R68, R112, R151). -/
def State.noteLeftUp (s : State) (p : ProjNo) : State := (s.noteArmIfStandby p).noteRetest p.screen

/-- A trigger (R110), with the notices of Table 36 and SHUTTER(DROP). A projector `first` has halted before it, and its
sequencer takes that halt ahead of those that the trigger causes. The halt notices and the screen-state notices that the left-UP
notices give rise to reach the duty unit before the dropped notices (DESIGN CHOICE, log entry 31). -/
def State.triggerAfter (s : State) (k : TriggerKey) (first : Option ProjNo) : State :=
  let left := s.droppedBy k
  let ports := portsOf left
  let halted := ports.filter fun p => (s.projector p).runState.motor
  let s1 := first.toList.foldl State.onHalt ((s.addCauses k).haltPorts ports k.cause.halt)
  let s2 := ports.foldl State.noteLeftUp (allScreens.foldl (State.takeHalts halted) s1)
  let s3 := left.foldl (fun t i => t.tellDuty (.dropped i)) s2
  if k = .fire || left.isEmpty then s3 else s3.post .shutterUnit (.drop k)

/-- A trigger that no halt has raised. -/
def State.trigger (s : State) (k : TriggerKey) : State := s.triggerAfter k none

/-- A film break (R33): the halt with cause BREAK, and the BREAK trigger that it raises (R31, R117). -/
def State.breakHalt (s : State) (p : ProjNo) : State :=
  if (s.projector p).runState.motor then (s.haltCore p .filmBreak).triggerAfter (.filmBreak p) (some p) else s

/-- The left-HALTED notice of a projector (R117). -/
def State.leftHalted (s : State) (p : ProjNo) : State := s.clearCause (.filmBreak p)

/-! ## The fire-alarm loop -/

def State.setFire (s : State) (v : Bool) : State := { s with shutterUnit := { s.shutterUnit with fireActive := v } }

/-- The fire-active notice at the four sequencers and the scheduler (R68, R112, R151). -/
def State.noteFire (s : State) : State := allScreens.foldl State.noteRunState s

/-- The loop becomes active (R113). The arc units act on the flag, and send to the duty unit, in the order of the projectors
(R92, log entry 30). -/
def State.fireOn (s : State) : State :=
  let s1 := (s.setFire true).trigger .fire
  ((allProjectors.foldl State.fireOut s1).noteFire.fireStanding .fire).post .shutterUnit .fireActive

/-- The loop becomes inactive (R114). -/
def State.fireOff (s : State) : State := (((s.setFire false).clearCause .fire).noteFire).post .shutterUnit .fireClear

/-! ## Home switches -/

/-- The home switch of an UP shutter opens: a fallen link (R119), with the link-drop notice (R93). The two arc units of the
screen act on it, and send to the duty unit, side A before side B (log entry 30). -/
def State.linkFallen (s : State) (i : ShutterNo) : State :=
  (projectorsOf i.screen).foldl (fun t p => t.linkOut i p) (s.trigger (.link i))

/-- The notices of a shutter that has come UP (R122). -/
def State.cameUp (s : State) (i : ShutterNo) : State :=
  let s1 := match i with
    | .port p => (s.noteArmIfStandby p).noteRetest p.screen
    | .observation _ => s
  (s1.tellDuty (.up i)).post .shutterUnit (.up i)

/-- A change of a home switch (R119, R122). -/
def State.homeChange (s : State) (i : ShutterNo) (closed : Bool) : State :=
  let s1 := s.setShutter i { s.shutter i with homeClosed := closed }
  match (s.shutter i).state, closed with
  | .up, false => s1.linkFallen i
  | .arming, true => (s1.setShutter i { s1.shutter i with state := .up, armingTimer := none }).cameUp i
  | _, _ => s1

/-- A cause set holds no cause but POWER (R121). -/
def CauseSet.onlyPower (c : CauseSet) : Bool := c = { CauseSet.empty with power := c.power }

end Sys2Proof.Machine
end

