-- ==== Sys2Proof/Machine/ShowOpening.lean ====
section
/-! DEFINITION. The starts that the scheduler gives: a show opened on a passing test (R152), a held start reached (R153), a
resume (R155), and a show stopped (R156). -/

namespace Sys2Proof.Machine

/-- The start order to the sequencer, taken in DARK (R63): reel 1 on the projector of the first side. -/
def State.giveStart (s : State) (n : ScreenNo) : State :=
  match (s.screen n).state, s.header n with
  | .dark, some h => s.beginOpening n ⟨n, h.firstSide⟩ (some 1)
  | _, _ => s

/-- The HELD requester joins or leaves the bell (R82). -/
def State.holdBell (s : State) (n : ScreenNo) : State := s.setBell (s.booth.bell.joinHeld n)

def State.releaseBell (s : State) (n : ScreenNo) : State := s.setBell (s.booth.bell.leaveHeld n)

/-- A show starts (R152, R153, R154): the test has given PASS. -/
def State.startShow (s : State) (n : ScreenNo) : State :=
  let r := s.showRec n
  let s1 := s.setShow n { r with state := .playing, next := none, readiness := .pass }
  let s2 := (s1.giveStart n).houseShowStart n
  let s3 := if r.state = .held then s2.releaseBell n else s2
  (s3.tellDuty (.screen n)).post .scheduler (.started n (r.next.map (·.minute)))

/-- The start instant finds the screen not ready (R152). -/
def State.holdShow (s : State) (n : ScreenNo) : State :=
  let r := s.showRec n
  let s1 := s.setShow n { r with state := .held, next := r.next.map fun x => { x with hold := some (x.start + 600) } }
  ((s1.holdBell n).tellDuty (.screen n)).post .scheduler (.held n r.readiness)

/-- A test on a notice of R151, in CALLED and HELD: a PASS in HELD starts the show (R153). -/
def State.retest (s : State) (n : ScreenNo) : State :=
  match (s.showRec n).state with
  | .called => s.storeReadiness n
  | .held =>
    let s1 := s.storeReadiness n
    if (s1.showRec n).readiness = .pass then s1.startShow n else s1
  | _ => s

/-- The hold limit (R153). -/
def State.missStart (s : State) (n : ScreenNo) (minute : Nat) : State :=
  (((s.setShowState n .waiting).releaseBell n).post .scheduler (.startMissed n minute)).armNext n

/-- The show-stopped notice at a projector unit (R156): an EMPTY projector takes its side's opening reel. -/
def State.reassign (s : State) (p : ProjNo) : State :=
  if (s.projector p).runState = .empty then
    s.setProjector p { s.projector p with assigned := s.openingReel p }
  else s

/-- A show is stopped (R156). -/
def State.stopShow (s : State) (n : ScreenNo) : State :=
  let s1 := (s.setShowState n .waiting).armNext n
  let s2 := (s1.reassign ⟨n, .a⟩).reassign ⟨n, .b⟩
  (s2.tellDuty (.screen n)).post .scheduler (.stopped n)

end Sys2Proof.Machine
end

