-- ==== Sys2Proof/Machine/DutyUnit.lean ====
section
/-! DEFINITION. The duty unit: insertion (R161, R162), need times (R163), derivations (R164 to R166), RETRIM and REARM entries
(R167, R168), and the overdue marking (R169). -/

namespace Sys2Proof.Machine

/-! ## The list -/

def dutyHas (l : List DutyEntry) (k : DutyKey) : Bool := l.any fun e => decide (e.key = k)

def dutyRemove (l : List DutyEntry) (k : DutyKey) : List DutyEntry := l.filter fun e => decide (e.key ≠ k)

/-- The place of an entry in ascending order of due, after the entries of its own due (R161). -/
def dutyPlace (l : List DutyEntry) (e : DutyEntry) : List DutyEntry :=
  l.takeWhile (fun x => decide (x.due ≤ e.due)) ++ e :: l.dropWhile fun x => decide (x.due ≤ e.due)

/-- An insertion (R161, R162): a present key is not inserted a second time, and a full list loses its last entry or the
new one. The key of the entry that was lost comes with the list. -/
def dutyInsert (l : List DutyEntry) (e : DutyEntry) : List DutyEntry × Option DutyKey :=
  if dutyHas l e.key then (l, none)
  else if l.length < 16 then (dutyPlace l e, none)
  else
    match l.getLast? with
    | none => (dutyPlace l e, none)
    | some last => if e.due < last.due then (dutyPlace l.dropLast e, some last.key) else (l, some e.key)

/-- An insertion into the list of the state, with DUTY(OVERFLOW) (R162). -/
def State.insertDuty (s : State) (e : DutyEntry) : State :=
  let s1 := s.setDuty (dutyInsert s.duty e).1
  match (dutyInsert s.duty e).2 with
  | none => s1
  | some k => s1.post .dutyUnit (.overflow k)

def State.removeDuty (s : State) (k : DutyKey) : State := s.setDuty (dutyRemove s.duty k)

/-! ## Needs -/

/-- The counter of the projector of a screen whose loaded reel is `r`, or 0 when none holds it (Table 49). -/
def State.counterOfReel (s : State) (n : ScreenNo) (r : Nat) : Nat :=
  match s.holderOf n r with
  | none => 0
  | some p => (s.tracker p).counter

/-- The need time of reel `r` in PLAYING (Table 49). Without a current reel there is none (log entry 19). -/
def State.needPlaying (s : State) (n : ScreenNo) (r : Nat) : Option Nat :=
  match (s.screen n).currentReel with
  | none => none
  | some cur =>
    if cur < r then
      (s.reelRecord n (r - 1)).map fun x =>
        s.clock.boothSeconds + ceilDiv (x.motorCue - s.counterOfReel n (r - 1)) 24
    else if r = cur then some s.clock.boothSeconds
    else none

/-- The need time of reel `r` in CALLED and HELD (Table 49). -/
def State.needCalled (s : State) (n : ScreenNo) (r : Nat) : Option Nat :=
  match (s.showRec n).next with
  | none => none
  | some x =>
    if r = 1 then some x.start
    else if r = 2 then (s.reelRecord n 1).map fun m => x.start + ceilDiv m.motorCue 24
    else none

/-- The need time of reel `r` on a screen (R163). -/
def State.needTime (s : State) (n : ScreenNo) (r : Nat) : Option Nat :=
  if (s.header n).isNone then none
  else
    match (s.showRec n).state with
    | .playing => s.needPlaying n r
    | .called | .held => s.needCalled n r
    | .waiting => none

/-- A due before it is raised to the booth seconds, and held to the top of its range (R164). -/
def rawDue (need lead : Nat) : Nat := min maxSeconds (need - lead)

/-- The THREAD entry wanted for a projector, with its due before raising (R164). -/
def State.wantThread (s : State) (p : ProjNo) : Option (Nat × Nat) :=
  match (s.projector p).runState, (s.projector p).assigned with
  | .empty, some r => (s.needTime p.screen r).map fun need => (r, rawDue need 180)
  | _, _ => none

/-- The due of the STRIKE entry wanted for a projector, before raising (R164). -/
def State.wantStrike (s : State) (p : ProjNo) : Option Nat :=
  match (s.projector p).runState, (s.arc p).state, (s.projector p).loaded with
  | .threaded, .off, some r => (s.needTime p.screen r).map fun need => rawDue need 120
  | _, _, _ => none

/-- What the unit wants under one key: the reel and the due before raising. -/
structure Want where
  key : DutyKey
  reel : Option Nat
  raw : Nat
  deriving DecidableEq, Repr

/-- The wants of a projector, THREAD before STRIKE (R165). -/
def State.wants (s : State) (p : ProjNo) : List Want :=
  ((s.wantThread p).map fun x => (⟨.thread p, some x.1, x.2⟩ : Want)).toList ++
    ((s.wantStrike p).map fun d => (⟨.strike p, none, d⟩ : Want)).toList

/-- The due of a want, raised to the booth seconds (R164). -/
def Want.due (w : Want) (b : Nat) : Nat := max w.raw b

/-- A present entry is left as it stands (R165): same reel, and either overdue with a wanted due not ahead, or the same
due. -/
def Want.keeps (w : Want) (b : Nat) (e : DutyEntry) : Bool :=
  decide (e.reel = w.reel) && ((e.overdue && decide (w.raw ≤ b)) || decide (e.due = w.due b))

/-- The removals of a derivation (R165): entries not wanted, and entries that are to be inserted anew. -/
def settleRemovals (ks : List DutyKey) (ws : List Want) (b : Nat) (l : List DutyEntry) : List DutyEntry :=
  l.filter fun e => !decide (e.key ∈ ks) || ws.any fun w => decide (w.key = e.key) && w.keeps b e

/-- The keys that a derivation for a projector settles. -/
def derivedKeys (p : ProjNo) : List DutyKey := [.thread p, .strike p]

/-- A derivation for a list of projectors (R165, R166): removals first, then the insertions. -/
def State.derive (s : State) (ps : List ProjNo) : State :=
  let b := s.clock.boothSeconds
  let ws := ps.flatMap s.wants
  let kept := settleRemovals (ps.flatMap derivedKeys) ws b s.duty
  let fresh := ws.filter fun w => !dutyHas kept w.key
  fresh.foldl (fun t w => t.insertDuty ⟨w.key, w.reel, w.due b, false⟩) (s.setDuty kept)

/-- A REARM entry restored for a DROPPED shutter (R166). -/
def State.restoreRearm (s : State) (i : ShutterNo) : State :=
  if (s.shutter i).state = .dropped then s.insertDuty ⟨.rearm i, none, s.clock.boothSeconds, false⟩ else s

/-- The shutters of a screen, in the order of R166. -/
def shuttersOf (n : ScreenNo) : List ShutterNo := [.port ⟨n, .a⟩, .port ⟨n, .b⟩, .observation n]

/-- A derivation for a screen (R166). -/
def State.deriveScreen (s : State) (n : ScreenNo) : State :=
  (shuttersOf n).foldl State.restoreRearm (s.derive (projectorsOf n))

/-! ## Notices -/

/-- A RETRIM entry is raised (R167). -/
def State.raiseRetrim (s : State) (p : ProjNo) : State := s.insertDuty ⟨.retrim p, none, s.clock.boothSeconds, false⟩

/-- A REARM entry is raised, or raised again (R168). -/
def State.raiseRearm (s : State) (i : ShutterNo) : State :=
  (s.removeDuty (.rearm i)).insertDuty ⟨.rearm i, none, s.clock.boothSeconds, false⟩

/-- What the unit does with one notice (section 9). -/
def State.takeDuty (s : State) (d : DutyNotice) : State :=
  match d with
  | .projector p => s.derive [p]
  | .screen n => s.deriveScreen n
  | .retrim p => (if (s.arc p).low then s else s.removeDuty (.retrim p)).derive [p]
  | .low p => s.raiseRetrim p
  | .lowCleared p => s.removeDuty (.retrim p)
  | .carbonShort p => s.raiseRetrim p
  | .dropped i => s.raiseRearm i
  | .up i => s.removeDuty (.rearm i)

/-- One projector's re-trim and carbon-short notices of a step may be taken in either order (R167, log entry 3).
A re-trim notice taken second is taken last of all (DESIGN CHOICE, log entry 31). -/
def State.shuffleRetrim (s : State) (p : ProjNo) : State :=
  if s.work.duty.contains (.retrim p) && s.work.duty.contains (.carbonShort p) then
    let s1 := s.takeBit.2
    if s.takeBit.1 then
      { s1 with work := { s1.work with
          duty := (s1.work.duty.filter fun d => decide (d ≠ .retrim p)) ++ [.retrim p] } }
    else s1
  else s

/-- The unit takes the notices of the step, in the order sent (log entries 5, 30 and 31). -/
def State.settleDuty (s : State) : State :=
  let s1 := allProjectors.foldl State.shuffleRetrim s
  s1.work.duty.foldl State.takeDuty s1

/-- The second notice (R169), on one entry: the entry and whether it is newly overdue. -/
def DutyEntry.mark (b : Nat) (e : DutyEntry) : DutyEntry := if e.due ≤ b then { e with overdue := true } else e

/-- The second notice (R169). -/
def State.markOverdue (s : State) : State :=
  let b := s.clock.boothSeconds
  let late := s.duty.filter fun e => decide (e.due ≤ b) && !e.overdue
  late.foldl (fun t e => t.post .dutyUnit (.overdue e.key)) (s.setDuty (s.duty.map (DutyEntry.mark b)))

end Sys2Proof.Machine
end

