-- ==== Sys2Proof/Machine/AttentionUnit.lean ====
section
/-! DEFINITION. The attention unit: the class of each cause (Table 58), recording (R185), and the order in which the causes of
one step reach the records (R186). -/

namespace Sys2Proof.Machine

/-- The class of a cause (Table 58). -/
def AttnCause.cls : AttnCause → AttnClass
  | .fireActive | .fireClear => .fire
  | .filmBreak _ => .filmBreak
  | .drop _ | .up _ | .armTimeout _ => .shutter
  | .lit _ | .arcFail _ | .lost _ | .sensor _ | .low _ | .spent _ | .arcOut .. => .arc
  | .missed .. | .stray _ | .halt .. | .unarmed .. | .late _ | .revert _ | .rescue _ | .dark _ | .done .. | .stuck _ =>
    .change
  | .rotated _ | .cleared _ | .stopped _ | .showEnded _ | .called .. | .started .. | .startMissed .. | .held ..
  | .resume .. => .shows
  | .stall _ | .standing _ => .house
  | .overflow _ | .overdue _ => .duty
  | .gap _ | .overrun _ => .link

/-- FIRE and BREAK are urgent (Table 57). -/
def AttnClass.urgent : AttnClass → Bool
  | .fire | .filmBreak => true
  | _ => false

/-- A cause recorded into a pending set's entry (R185): the count saturates at 255. -/
def recorded (old : Option AttnEntry) (c : AttnCause) : AttnEntry :=
  match old with
  | none => ⟨1, c⟩
  | some e => ⟨min 255 (e.count + 1), c⟩

/-- A cause offered to one record (R185). -/
def Attention.offer (a : Attention) (c : AttnCause) : Attention :=
  if c.cls.urgent then { a with pending := a.pending.set c.cls (some (recorded (a.pending.get c.cls) c)) }
  else if a.armed.get c.cls then
    ⟨a.pending.set c.cls (some (recorded (a.pending.get c.cls) c)), a.armed.set c.cls false⟩
  else a

/-- A cause offered to all three records (R185). -/
def State.offer (s : State) (c : AttnCause) : State := { s with attention := s.attention.map fun a => a.offer c }

/-- The blocks of a list of causes, each once. -/
def blocksOf (l : List (Block × AttnCause)) : List Block := (l.map Prod.fst).eraseDups

/-- One order in which the causes of a class can reach the records: each block's own causes stay in order, and which
block comes next is a free choice where there are several (R186, log entry 4). The first argument bounds the length. -/
def mergePosts : Nat → List (Block × AttnCause) → Nat → List AttnCause × Nat
  | 0, _, f => ([], f)
  | k + 1, l, f =>
    match blocksOf l with
    | [] => ([], f)
    | [_] => (l.map Prod.snd, f)
    | b :: bs =>
      let chosen := ((b :: bs)[Config.freePick f % (bs.length + 1)]?).getD b
      let now := (l.filter fun x => decide (x.1 = chosen)).head?
      let rest := mergePosts k (match now with
        | some x => l.erase x
        | none => l) (f + 1)
      ((now.map Prod.snd).toList ++ rest.1, rest.2)

/-- The causes of one class reach the records. -/
def State.offerClass (s : State) (c : AttnClass) : State :=
  let l := s.work.posts.filter fun x => decide (x.2.cls = c)
  let m := mergePosts l.length l s.free
  m.1.foldl State.offer { s with free := m.2 }

/-- The causes of the step reach the records. Causes of different classes touch different entries (R186). -/
def State.settlePosts (s : State) : State := allClasses.foldl State.offerClass s

end Sys2Proof.Machine
end

