-- ==== Sys2Proof/Machine/Settle.lean ====
section
/-! DEFINITION. The end of a step: what was sent in it is taken (log entry 5), and the two shapes of an event of the table. -/

namespace Sys2Proof.Machine

/-- The arming checks that are due (R68). -/
def State.settleArming (s : State) : State :=
  allScreens.foldl (fun t n => if t.work.arm.get n then t.armingCheck n else t) s

/-- The readiness tests that are due (R151). -/
def State.settleTests (s : State) : State :=
  allScreens.foldl (fun t n => if t.work.retest.get n then t.retest n else t) s

/-- The notices and causes of the step are taken: arming checks, readiness tests, the duty unit, the attention unit. -/
def State.settle (s : State) : State := s.settleArming.settleTests.settleDuty.settlePosts.begin

/-- An event that acts on a part that has main power, and on no other. -/
def event (body : State → State) (s : State) : Result := .next (if s.powered then (body s.begin).settle else s)

/-- A change of an input level. The level is there without main power too, and no block takes it then. -/
def pinEvent (level : Pins → Pins) (body : State → State) (s : State) : Result :=
  .next (if s.powered then (body (s.begin.setPins (level s.pins))).settle else s.setPins (level s.pins))

end Sys2Proof.Machine
end

