-- ==== Sys2Proof/Machine/LinkUnit.lean ====
section
/-! DEFINITION. The link unit: characters (R173 to R176), the checks of a frame (R177, R178), replies (R179, R180), the line
break (R182), and the way a request command reaches its owning block (log entry 1). -/

namespace Sys2Proof.Machine

/-! ## Requests and access (Table 56, Table 62, R178) -/

/-- The rows of the access matrix. -/
inductive Access where
  | all | console | house | program | consoleHouse | consoleProgram
  deriving DecidableEq, Repr

def Access.allows : Access → Station → Bool
  | .all, _ => true
  | .console, st => st = .console
  | .house, st => st = .house
  | .program, st => st = .program
  | .consoleHouse, st => st ≠ .program
  | .consoleProgram, st => st ≠ .house

/-- The data counts a layout allows (R191). -/
inductive DataCount where
  | exactly (n : Nat)
  | even
  deriving DecidableEq, Repr

def DataCount.allows : DataCount → Nat → Bool
  | .exactly n, k => k = n
  | .even, k => k % 2 = 0 && k ≤ 56

/-- A request of Table 62 with its row of the access matrix. -/
structure RequestRow where
  code : Nat
  access : Access
  count : DataCount
  deriving DecidableEq, Repr

def bankRows : List RequestRow :=
  [⟨0x10, .all, .exactly 0⟩, ⟨0x11, .all, .exactly 2⟩, ⟨0x12, .program, .exactly 18⟩, ⟨0x13, .program, .exactly 20⟩,
   ⟨0x14, .program, .exactly 8⟩, ⟨0x15, .program, .exactly 1⟩, ⟨0x16, .program, .exactly 0⟩,
   ⟨0x17, .program, .exactly 0⟩, ⟨0x18, .consoleProgram, .exactly 0⟩]

def projectionRows : List RequestRow :=
  [⟨0x20, .all, .exactly 0⟩, ⟨0x21, .console, .exactly 0⟩, ⟨0x22, .console, .exactly 0⟩,
   ⟨0x28, .all, .exactly 0⟩, ⟨0x29, .console, .exactly 2⟩,
   ⟨0x30, .all, .exactly 0⟩, ⟨0x31, .console, .exactly 0⟩, ⟨0x32, .console, .exactly 1⟩, ⟨0x33, .console, .exactly 0⟩,
   ⟨0x40, .all, .exactly 0⟩, ⟨0x41, .console, .exactly 0⟩, ⟨0x42, .console, .exactly 0⟩, ⟨0x43, .console, .exactly 2⟩,
   ⟨0x44, .console, .exactly 6⟩]

def shutterRows : List RequestRow :=
  [⟨0x50, .all, .exactly 0⟩, ⟨0x51, .all, .exactly 0⟩, ⟨0x52, .console, .exactly 0⟩, ⟨0x53, .console, .exactly 0⟩,
   ⟨0x54, .console, .exactly 0⟩, ⟨0x55, .console, .exactly 0⟩, ⟨0x56, .console, .exactly 2⟩]

def houseRows : List RequestRow :=
  [⟨0x60, .all, .exactly 0⟩, ⟨0x61, .all, .exactly 1⟩, ⟨0x62, .all, .exactly 0⟩, ⟨0x63, .consoleHouse, .exactly 3⟩,
   ⟨0x64, .consoleHouse, .exactly 3⟩, ⟨0x65, .consoleHouse, .exactly 1⟩, ⟨0x66, .consoleHouse, .exactly 0⟩,
   ⟨0x67, .house, .exactly 5⟩, ⟨0x68, .house, .exactly 7⟩, ⟨0x69, .house, .exactly 0⟩, ⟨0x6A, .house, .exactly 1⟩]

def boothRows : List RequestRow :=
  [⟨0x70, .all, .exactly 0⟩, ⟨0x71, .program, .exactly 4⟩, ⟨0x72, .program, .even⟩, ⟨0x73, .console, .exactly 0⟩,
   ⟨0x74, .console, .exactly 0⟩, ⟨0x78, .all, .exactly 0⟩,
   ⟨0x7C, .all, .exactly 0⟩, ⟨0x7D, .all, .exactly 1⟩, ⟨0x7E, .all, .exactly 2⟩, ⟨0x7F, .all, .exactly 0⟩]

/-- The row of a request code, none for a code outside Table 56. -/
def requestRow (code : Byte) : Option RequestRow :=
  (bankRows ++ projectionRows ++ shutterRows ++ houseRows ++ boothRows).find? fun r => r.code = code.toNat

/-! ## Frames (R179, R191) -/

/-- The sum of bytes modulo 256. -/
def byteSum (l : List Byte) : Byte := l.foldl (· + ·) 0

/-- A reply frame (Table 60). -/
def replyFrame (code target : Byte) (a : Answer) : List Byte :=
  let body := byte1 (a.data.length + 1) ++ [code, target] ++ byte1 a.status.code ++ a.data
  0x5A :: (body ++ [-(byteSum body)])

/-- The reply begins in the step of the answer (R179). -/
def Link.startReply (l : Link) (r : Request) (a : Answer) : Link :=
  { l with state := .replying, outstanding := some r, reply := some (replyFrame r.code r.target a) }

def State.reply (s : State) (st : Station) (r : Request) (a : Answer) : State :=
  s.setLink st ((s.link st).startReply r a)

/-- Checks 3 to 5 of Table 53: the status of the first that fails. -/
def requestFault (st : Station) (r : Request) : Option Status :=
  match requestRow r.code with
  | none => some .unknown
  | some row =>
    if !row.access.allows st then some .denied
    else if !row.count.allows r.data.length then some .badFrame
    else none

/-! ## Characters -/

/-- The number of ones among the data bits of a character. -/
def ones (data : Byte) : Nat := ((List.range 8).filter fun i => data.getLsbD i).length

/-- A parity error (R173). -/
def parityError (m : Parity) (data : Byte) (bit : Bool) : Bool :=
  match m with
  | .none => false
  | .even => (ones data + bit.toNat) % 2 ≠ 0
  | .odd => (ones data + bit.toNat) % 2 = 0
  | .mark => !bit
  | .space => bit

/-- The parity bit of a character that is sent, absent under NONE (R173). -/
def Parity.bit (m : Parity) (data : Byte) : Option Bool :=
  match m with
  | .none => Option.none
  | .even => some (decide (ones data % 2 = 1))
  | .odd => some (decide (ones data % 2 = 0))
  | .mark => some true
  | .space => some false

/-- The level of a bit on a line: mark for 1, and space for 0. -/
def bitLevel (b : Bool) : LineLevel := if b then .mark else .space

/-- The levels of a character on TXD, a bit time each (R173): the start bit, the data bits with the least significant first,
the parity bit, and the stop bit. -/
def Parity.character (m : Parity) (data : Byte) : List LineLevel :=
  .space :: ((List.range 8).map fun i => bitLevel (data.getLsbD i)) ++ (m.bit data).toList.map bitLevel ++ [.mark]

/-- The levels that TXD takes for a reply in transmission (R173, R179). -/
def Link.sending (l : Link) : List LineLevel := (l.reply.getD []).flatMap l.parity.character

/-- The levels still to be sent on a station's TXD; with none TXD is held at mark (R172, log entry 24). -/
def State.txd (s : State) (st : Station) : List LineLevel := (s.link st).sending

/-- The request of a complete collection. -/
def requestOf : List Byte → Request
  | _ :: _ :: code :: target :: rest => ⟨code, target, rest.dropLast⟩
  | _ => ⟨0, 0, []⟩

/-- The checks of Table 53, in order: the status of the first that fails. -/
def frameFault (st : Station) (c : Collection) : Option Status :=
  if c.bad then some .badFrame
  else if byteSum c.chars.tail ≠ 0 then some .badFrame
  else requestFault st (requestOf c.chars)

/-- A frame behind an outstanding request (R180). -/
def Link.busy (l : Link) : Bool := l.state = .pending || l.state = .replying

/-- A collection ends at an over-length byte (R175). -/
def State.overLength (s : State) (st : Station) : State :=
  let l := { s.link st with collection := none }
  if l.busy then (s.setLink st l).post (.link st) (.overrun st)
  else s.setLink st (l.startReply ⟨0, 0, []⟩ ⟨.badFrame, []⟩)

/-- A collection completes (R177, R180). -/
def State.completeFrame (s : State) (st : Station) (c : Collection) : State :=
  let l := { s.link st with collection := none }
  if l.busy then (s.setLink st l).post (.link st) (.overrun st)
  else
    match frameFault st c with
    | some f => s.setLink st (l.startReply (requestOf c.chars) ⟨f, []⟩)
    | none => s.setLink st { l with state := .pending, outstanding := some (requestOf c.chars) }

/-- The number of characters of a frame whose length byte is `n`. -/
def frameLength (n : Byte) : Nat := n.toNat + 5

/-- A character with no collection present (R174). -/
def State.hunt (s : State) (st : Station) (data : Byte) (bad : Bool) : State :=
  if !bad && data = 0xA5 then
    let l := s.link st
    s.setLink st { l with
      collection := some ⟨[data], false, 100⟩, state := if l.state = .idle then .inFrame else l.state }
  else s

/-- A character added to a collection (R175). -/
def State.collect (s : State) (st : Station) (c : Collection) (data : Byte) (bad : Bool) : State :=
  let c1 : Collection := ⟨c.chars ++ [data], c.bad || bad, 100⟩
  match c1.chars with
  | [_, n] => if 56 < n.toNat then s.overLength st else s.setLink st { s.link st with collection := some c1 }
  | _ :: n :: _ =>
    if frameLength n ≤ c1.chars.length then s.completeFrame st c1
    else s.setLink st { s.link st with collection := some c1 }
  | _ => s.setLink st { s.link st with collection := some c1 }

/-- A received character (R173 to R175). After a framing error the receiver waits for the line to return to mark. -/
def State.receive (s : State) (st : Station) (data : Byte) (bit : Bool) (stopBit : LineLevel) : State :=
  let l := s.link st
  let bad := stopBit = .space || parityError l.parity data bit
  let s1 := s.setLink st { l with awaitMark := decide (stopBit = .space) }
  match l.collection with
  | none => s1.hunt st data bad
  | some c => s1.collect st c data bad

/-! ## Ends -/

/-- The gap timer runs out (R176). -/
def State.gapExpiry (s : State) (st : Station) : State :=
  let l := s.link st
  match l.collection with
  | none => s
  | some _ =>
    (s.setLink st { l with collection := none, state := if l.state = .inFrame then .idle else l.state }).post
      (.link st) (.gap st)

/-- The last character of a reply has been sent (R179). -/
def Link.replyDone (l : Link) : Link :=
  if l.state = .replying then
    { l with outstanding := none, reply := none, parity := l.parityToApply.getD l.parity, parityToApply := none,
             state := if l.collection.isSome then .inFrame else .idle }
  else l

/-- The line-break reset of a link (R182), steps 1 to 5. -/
def Link.lineBreak (l : Link) (straps : RateStraps) : Link :=
  { Link.blank straps with breakTaken := true, awaitMark := l.awaitMark }

/-- RXD goes to space or returns to mark (R173, R182). -/
def Link.rxd (l : Link) (level : LineLevel) : Link :=
  match level with
  | .space => if l.breakTaken then l else { l with breakTimer := some 250 }
  | .mark => { l with breakTimer := none, breakTaken := false, awaitMark := false }

/-! ## A request command -/

/-- The owning block takes a request, and its answer starts the reply in the same step (R179). -/
def State.take (s : State) (st : Station) (r : Request) (body : State → State × Answer) : State :=
  (body s).1.reply st r (body s).2

/-- The whole frame of a request reaches a link that is IDLE: it is checked (R175, R177) and taken. -/
def State.arrive (s : State) (st : Station) (r : Request) (body : State → State × Answer) : State :=
  if 56 < r.data.length then s.reply st ⟨0, 0, []⟩ ⟨.badFrame, []⟩
  else
    match requestFault st r with
    | some f => s.reply st r ⟨f, []⟩
    | none => s.take st r body

/-- A request command at its link (log entry 1): a request that is PENDING is taken; the frame of a request arrives whole at
an IDLE link, and behind an outstanding request it is discarded (R180); in the middle of another frame nothing arrives. -/
def State.serveRequest (st : Station) (r : Request) (body : State → State × Answer) (s : State) : State :=
  let l := s.link st
  if l.state = .pending && l.outstanding = some r then s.take st r body
  else if l.collection.isSome || l.awaitMark then s
  else if l.outstanding.isSome then s.post (.link st) (.overrun st)
  else s.arrive st r body

/-- A request command of the table, with what its owning block does. -/
def serve (c : Instr) (body : State → State × Answer) (s : State) : Result :=
  match encodeRequest c with
  | some x => event (State.serveRequest x.1 x.2 body) s
  | none => .next s

/-- A request whose target byte names nothing its kind accepts is refused with BAD_TARGET (R192), ahead of its data fields
where its rule gives no order (DESIGN CHOICE, log entry 25). -/
def withTarget {α : Type} (name : Option α) (body : α → State → State × Answer) (s : State) : State × Answer :=
  match name with
  | none => refuse .badTarget s
  | some x => body x s

/-- A request that names no target carries target 0 (R192). -/
def noTarget (t : Byte) : Option Unit := if t = 0 then some () else none

end Sys2Proof.Machine
end

