-- ==== Sys2Proof/Machine/Arcs.lean ====
section
/-! DEFINITION. The commands of the arc units. -/

namespace Sys2Proof.Machine

/-! ## READ_ARC -/

/-- The record whose need READ_ARC gives: the loaded reel's, when CURRENT has one (R85). -/
def State.arcNeed (s : State) (p : ProjNo) : Option (Nat × Bool) :=
  (s.loadedRecord p).map fun r =>
    ((s.arcStore p).need r.pictureEnd (s.tracker p).counter, (s.arcStore p).sufficient r.pictureEnd (s.tracker p).counter)

/-- The train: its code, the held widths, and the time left of its phase (Table 63). An IDLE train holds no widths, and the rules
do not say what their bytes then carry: the model sends them as absent (DESIGN CHOICE, log entry 28). -/
def FeedTrain.data (t : FeedTrain) : List Byte :=
  byte1 t.code ++ match t with
    | .idle => [0xFF, 0xFF, 0xFF, 0xFF]
    | .high h l left => byte1 h ++ byte1 l ++ byte2 left
    | .low h l left => byte1 h ++ byte1 l ++ byte2 left

/-- READ_ARC's data (Table 63). -/
def State.arcData (s : State) (p : ProjNo) : List Byte :=
  let a := s.arc p
  let k := s.arcStore p
  byte1 a.state.code ++ opt1 (a.phase.map (·.phase.code)) ++ opt2 (a.phase.map (·.left)) ++ byte1 a.attempts ++
    opt2 a.lossTimer ++ byte2 k.remaining ++ byte2 k.stepsSinceTrim ++ byte2 k.trimLength ++ byte2 k.reserve ++
    byte2 k.defaultRate ++ byte1 k.highWidth ++ byte1 k.lowWidth ++
    ((List.range 3).flatMap fun i => opt2 k.history[i]?) ++ flag1 a.low ++ flag1 a.sensorReported ++ a.train.data ++
    flag1 a.showing ++ byte2 a.frames ++ byte2 a.steps ++ opt2 a.mark ++ byte2 k.rate ++
    opt2 ((s.arcNeed p).map (·.1)) ++ opt1 ((s.arcNeed p).map (·.2.toNat))

/-- READ_ARC (R85). -/
def execReadArc (st : Station) (t : Byte) (s : State) : Result :=
  serve (.readArc st t) (withTarget (projOf t) fun p s => (s, .ok (s.arcData p))) s

/-! ## Strikes -/

/-- The body of STRIKE, checked in the order of R87. -/
def strike (p : ProjNo) (s : State) : State × Answer :=
  if (s.arc p).state ≠ .off then refuse .state s
  else if s.shutterUnit.fireActive then refuse .fire s
  else if (s.arcStore p).remaining ≤ (s.arcStore p).reserve then refuse .carbonShort s
  else
    ((s.setArc p { s.arc p with state := .striking, attempts := 3, phase := some ⟨.touch, 400⟩ }).arcNotice p, .ok [])

/-- STRIKE (R87). -/
def execStrike (st : Station) (t : Byte) (s : State) : Result :=
  serve (.strike st t) (withTarget (projOf t) strike) s

/-- The phase of a strike in progress. -/
def Arc.inPhase (a : Arc) (k : StrikePhase) : Bool := a.state = .striking && (a.phase.map (·.phase)) = some k

/-- The TOUCH timer runs out (R88). -/
def State.touchExpiry (s : State) (p : ProjNo) : State :=
  if (s.arc p).inPhase .touch then
    if s.pins.arcPresent.get p then s.establish p
    else s.setArc p { s.arc p with phase := some ⟨.proof, 2000⟩ }
  else s

/-- TOUCH_TIMER_EXPIRY (R88). -/
def execTouchTimerExpiry (p : ProjNo) (s : State) : Result := event (fun s => s.touchExpiry p) s

/-- The last attempt has failed (R89). -/
def State.strikeFails (s : State) (p : ProjNo) : State :=
  let s1 := s.setArc p { s.arc p with state := .fault, phase := none, attempts := 0 }
  ((s1.post (.arc p) (.arcFail p)).arcNotice p).arcFaultNotice p

/-- The PROOF timer runs out (R89). -/
def State.proofExpiry (s : State) (p : ProjNo) : State :=
  if (s.arc p).inPhase .proof then
    if 1 < (s.arc p).attempts then
      s.setArc p { s.arc p with attempts := (s.arc p).attempts - 1, phase := some ⟨.pause, 3000⟩ }
    else s.strikeFails p
  else s

/-- PROOF_TIMER_EXPIRY (R89). -/
def execProofTimerExpiry (p : ProjNo) (s : State) : Result := event (fun s => s.proofExpiry p) s

/-- The PAUSE timer runs out (R89). -/
def State.pauseExpiry (s : State) (p : ProjNo) : State :=
  if (s.arc p).inPhase .pause then s.setArc p { s.arc p with phase := some ⟨.touch, 400⟩ } else s

/-- PAUSE_TIMER_EXPIRY (R89). -/
def execPauseTimerExpiry (p : ProjNo) (s : State) : Result := event (fun s => s.pauseExpiry p) s

/-- The arc-present sensor reports the arc (R88, R90). -/
def State.arcReported (s : State) (p : ProjNo) : State :=
  if (s.arc p).inPhase .proof then s.establish p
  else if (s.arc p).state = .burning then s.setArc p { s.arc p with lossTimer := none }
  else s

/-- ARC_PRESENT_REPORT (R88, R90). -/
def execArcPresentReport (p : ProjNo) (s : State) : Result :=
  pinEvent (fun q => { q with arcPresent := q.arcPresent.set p true }) (fun s => s.arcReported p) s

/-- The report ceases (R90). A running loss timer is left as it is. -/
def State.arcCeased (s : State) (p : ProjNo) : State :=
  if (s.arc p).state = .burning && (s.arc p).lossTimer.isNone then
    s.setArc p { s.arc p with lossTimer := some 500 }
  else s

/-- ARC_REPORT_CEASES (R90). -/
def execArcReportCeases (p : ProjNo) (s : State) : Result :=
  pinEvent (fun q => { q with arcPresent := q.arcPresent.set p false }) (fun s => s.arcCeased p) s

/-- The arc is lost (R90): one restrike attempt, with the contactor kept closed. -/
def State.arcLost (s : State) (p : ProjNo) : State :=
  let a := (s.arc p).endSpan (s.tracker p).counter
  let s1 := s.setArc p { a with
    state := .striking, attempts := 1, phase := some ⟨.touch, 400⟩, lossTimer := none, train := .idle }
  (s1.post (.arc p) (.lost p)).arcNotice p

/-- The loss timer runs out (R90). -/
def State.lossExpiry (s : State) (p : ProjNo) : State :=
  if (s.arc p).state = .burning && (s.arc p).lossTimer.isSome then s.arcLost p else s

/-- LOSS_TIMER_EXPIRY (R90). -/
def execLossTimerExpiry (p : ProjNo) (s : State) : Result := event (fun s => s.lossExpiry p) s

/-- The body of EXTINGUISH (R91). -/
def extinguish (p : ProjNo) (s : State) : State × Answer :=
  match (s.arc p).state with
  | .off | .spent => (s, .ok [])
  | _ => (s.putOut p, .ok [])

/-- EXTINGUISH (R91). -/
def execExtinguish (st : Station) (t : Byte) (s : State) : Result :=
  serve (.extinguish st t) (withTarget (projOf t) extinguish) s

/-! ## Carbon feed -/

/-- The level of one crater contact. -/
def Pins.crater (q : Pins) (p : ProjNo) (k : CraterContact) (closed : Bool) : Pins :=
  match k with
  | .long => { q with craterLong := q.craterLong.set p closed }
  | .short => { q with craterShort := q.craterShort.set p closed }

/-- A crater contact changes (R94): it is acted on in BURNING only. -/
def State.craterChange (s : State) (p : ProjNo) : State := if (s.arc p).state = .burning then s.readCrater p else s

/-- CRATER_CONTACT_CHANGE (R94). -/
def execCraterContactChange (p : ProjNo) (k : CraterContact) (closed : Bool) (s : State) : Result :=
  pinEvent (fun q => q.crater p k closed) (fun s => s.craterChange p) s

/-- A HIGH phase ends as a completed feed step (R95, R96). -/
def State.highEnd (s : State) (p : ProjNo) : State :=
  match (s.arc p).train with
  | .high h l _ => (s.setArc p { s.arc p with train := .low h l l }).feedStep p
  | _ => s

/-- FEED_HIGH_PHASE_END (R96). -/
def execFeedHighPhaseEnd (p : ProjNo) (s : State) : Result := event (fun s => s.highEnd p) s

/-- A LOW phase ends (R95): the next pulse begins while the reading is LONG. -/
def State.lowEnd (s : State) (p : ProjNo) : State :=
  match (s.arc p).train with
  | .low h l _ =>
    if s.pins.craterLong.get p && !s.pins.craterShort.get p then s.setArc p { s.arc p with train := .high h l h }
    else s.setArc p { s.arc p with train := .idle }
  | _ => s

/-- FEED_LOW_PHASE_END (R95). -/
def execFeedLowPhaseEnd (p : ProjNo) (s : State) : Result := event (fun s => s.lowEnd p) s

/-! ## Re-trim and settings -/

/-- The body of RETRIM_DONE, checked in the order of R99. R86 and R99 give no order of its notices: the model sends the
LOW-cleared notice, then the arc-state notice, then the re-trim notice (DESIGN CHOICE, log entry 31). -/
def retrimDone (trim : Half) (p : ProjNo) (s : State) : State × Answer :=
  let n := trim.toNat
  if (s.arc p).state.lit then refuse .state s
  else if (inRange 1 60000 n).isNone || decide (n ≤ (s.arcStore p).reserve) then refuse .range s
  else
    let s1 := s.setArcStore p { s.arcStore p with remaining := n, trimLength := n, stepsSinceTrim := 0 }
    let s2 := (s1.setArc p { s.arc p with state := .off }).settleLow p
    let s3 := if (s.arc p).state = .off then s2 else s2.arcNotice p
    (s3.retrimNotice p, .ok [])

/-- RETRIM_DONE (R99). -/
def execRetrimDone (st : Station) (t : Byte) (trim : Half) (s : State) : Result :=
  serve (.retrimDone st t trim) (withTarget (projOf t) (retrimDone trim)) s

/-- All four settings are in range (R100). -/
def arcSettingsOk (reserve rate : Half) (high low : Byte) : Bool :=
  (inRange 0 6000 reserve.toNat).isSome && (inRange 1 500 rate.toNat).isSome && (inRange 5 250 high.toNat).isSome &&
    (inRange 5 250 low.toNat).isSome

/-- The body of SET_ARC (R100). The LOW or LOW-cleared notice goes before the re-trim notice (DESIGN CHOICE, log entry 31). -/
def setArcSettings (reserve rate : Half) (high low : Byte) (p : ProjNo) (s : State) : State × Answer :=
  if arcSettingsOk reserve rate high low then
    let s1 := s.setArcStore p { s.arcStore p with
      reserve := reserve.toNat, defaultRate := rate.toNat, highWidth := high.toNat, lowWidth := low.toNat }
    ((s1.settleLow p).retrimNotice p, .ok [])
  else refuse .range s

/-- SET_ARC (R100). -/
def execSetArc (st : Station) (t : Byte) (reserve rate : Half) (high low : Byte) (s : State) : Result :=
  serve (.setArc st t reserve rate high low) (withTarget (projOf t) (setArcSettings reserve rate high low)) s

end Sys2Proof.Machine
end

