-- ==== Sys2Proof/Machine/Banks.lean ====
section
/-! DEFINITION. The commands of the bank store and the clear engine: READ_BANKS to ROTATE, and CLEAR_COMPLETE. -/

namespace Sys2Proof.Machine

/-! ## Reads -/

/-- The place of a CLEARING bank in the clear queue, 0 for any other bank (R3, Table 63). -/
def State.queuePlace (s : State) (n : ScreenNo) (b : BankNo) : Nat :=
  if (s.bank n b).state = .clearing then ((s.bankUnit.queue.idxOf? ⟨n, b⟩).map (· + 1)).getD 0 else 0

/-- READ_BANKS's data (Table 63). -/
def State.banksData (s : State) (n : ScreenNo) : List Byte :=
  ([BankNo.b0, .b1, .b2].flatMap fun b =>
    byte1 (s.bank n b).role.code ++ byte1 (s.bank n b).state.code ++ byte1 (s.queuePlace n b)) ++
    flag1 (s.retained.rotationPending.get n)

/-- READ_BANKS (R3). -/
def execReadBanks (st : Station) (t : Byte) (s : State) : Result :=
  serve (.readBanks st t) (withTarget (screenOf t) fun n s => (s, .ok (s.banksData n))) s

/-- The mask of the reel slots present (R4). -/
def Bank.slotMask (b : Bank) : Half := maskOf (List.range' 1 12) id fun r => (b.slot r).isSome

def Bank.headerData (b : Bank) : List Byte :=
  flag1 b.header.isSome ++ text 16 (b.header.map (·.title)) ++ opt1 (b.header.map (·.firstSide.code)) ++
    opt1 (b.header.map (·.reelCount)) ++ mask2 b.slotMask ++ byte1 b.cues.length

def reelData (x : Option Reel) : List Byte :=
  flag1 x.isSome ++ opt2 (x.bind (·.leadIn)) ++ opt2 (x.map (·.motorCue)) ++ opt2 (x.map (·.changeoverCue)) ++
    opt2 (x.map (·.pictureEnd)) ++ opt1 (x.map (·.noMarks.toNat)) ++ text 10 (x.bind (·.label))

def Anchor.data : Anchor → List Byte
  | .showStart => [0x01, 0xFF, 0xFF, 0xFF]
  | .reelFrame r f => [0x02] ++ byte1 r ++ byte2 f
  | .showEnd => [0x03, 0xFF, 0xFF, 0xFF]

def Cue.data (c : Cue) : List Byte :=
  c.anchor.data ++ opt1 (c.scene.map (·.scene)) ++ opt2 (c.scene.map (·.fade)) ++ opt1 (c.curtain.map (·.code))

def startsData (l : List Nat) : List Byte :=
  byte1 l.length ++ (List.range 8).flatMap fun i => opt2 l[i]?

/-- The reply that describes a bank opens with its number and state (R1, Table 63). -/
def State.bankHead (s : State) (n : ScreenNo) (role : Role) : List Byte :=
  byte1 (s.bankNo n role).code ++ byte1 (s.bankIn n role).state.code

/-- READ_BANK_ITEM by its selector and index, judged in the order of R4. That a selector or a reel index out of range is
refused on a CLEARING bank too is the model's choice (DESIGN CHOICE, log entry 26). -/
def readItem (selector index : Byte) (x : ScreenNo × Role) (s : State) : State × Answer :=
  let b := s.bankIn x.1 x.2
  let head := s.bankHead x.1 x.2
  if selector.toNat = 0 || 4 < selector.toNat then refuse .range s
  else if selector = 2 && (inRange 1 12 index.toNat).isNone then refuse .range s
  else if b.state = .clearing then (s, .ok head)
  else if selector = 1 then (s, .ok (head ++ b.headerData))
  else if selector = 2 then (s, .ok (head ++ reelData (b.slot index.toNat)))
  else if selector = 3 then
    if index.toNat = 0 then refuse .range s
    else match b.cues[index.toNat - 1]? with
      | none => refuse .range s
      | some c => (s, .ok (head ++ c.data))
  else (s, .ok (head ++ startsData b.starts))

/-- READ_BANK_ITEM (R4). -/
def execReadBankItem (st : Station) (t selector index : Byte) (s : State) : Result :=
  serve (.readBankItem st t selector index) (withTarget (bankOf t) (readItem selector index)) s

/-! ## Writes -/

/-- The shared checks of a content write (R5). The write gives the new bank and the data after the bank number, or the
status of check 4 or 5. -/
def contentWrite (write : Bank → Except Status (Bank × List Byte)) (x : ScreenNo × Role) (s : State) : State × Answer :=
  let no := s.bankNo x.1 x.2
  let b := s.bank x.1 no
  if b.state = .clearing then refuse .bankClearing s
  else if x.2 ≠ .next then refuse .bankInUse s
  else if b.state = .complete then refuse .state s
  else
    match write b with
    | .error e => refuse e s
    | .ok r => (s.setBank x.1 no { r.1 with state := .draft }, .ok (byte1 no.code ++ r.2))

/-- The header of WRITE_HEADER, when every field is in range (R6). -/
def headerOf (title : List Byte) (side count : Byte) : Option Header := do
  let t ← titleOf title
  let d ← sideOf side
  let c ← inRange 1 12 count.toNat
  return ⟨t, d, c⟩

def writeHeader (title : List Byte) (side count : Byte) (b : Bank) : Except Status (Bank × List Byte) :=
  match headerOf title side count with
  | none => .error .range
  | some h => .ok ({ b with header := some h }, [])

/-- WRITE_HEADER (R6). -/
def execWriteHeader (st : Station) (t : Byte) (title : List Byte) (side count : Byte) (s : State) : Result :=
  serve (.writeHeader st t title side count) (withTarget (bankOf t) (contentWrite (writeHeader title side count))) s

/-- The record of WRITE_REEL, when every field is in range (R7). -/
def reelOf (lead m x e : Half) (marks : Byte) (label : List Byte) : Option Reel := do
  let l ← optRange 0xFFFF 0 480 lead.toNat
  let m ← inRange 0 38400 m.toNat
  let x ← inRange 0 38400 x.toNat
  let e ← inRange 0 38400 e.toNat
  let f ← flagOf marks
  let t ← labelOf label
  return ⟨l, m, x, e, f, t⟩

def writeReel (index : Byte) (r : Option Reel) (b : Bank) : Except Status (Bank × List Byte) :=
  match inRange 1 12 index.toNat, r with
  | some i, some r => .ok ({ b with reels := b.reels.setIfInBounds (i - 1) (some r) }, [])
  | _, _ => .error .range

/-- WRITE_REEL (R7). -/
def execWriteReel (st : Station) (t index : Byte) (lead m x e : Half) (marks : Byte) (label : List Byte) (s : State) :
    Result :=
  serve (.writeReel st t index lead m x e marks label)
    (withTarget (bankOf t) (contentWrite (writeReel index (reelOf lead m x e marks label)))) s

/-- Anchor order (R8). -/
def Anchor.le : Anchor → Anchor → Bool
  | .showStart, _ => true
  | .reelFrame .., .showStart => false
  | .reelFrame r f, .reelFrame r' f' => decide (r < r') || (decide (r = r') && decide (f ≤ f'))
  | .reelFrame .., .showEnd => true
  | .showEnd, .showEnd => true
  | .showEnd, _ => false

/-- An anchor of WRITE_CUE (R8); reel and frame are looked at for REEL_FRAME only (log entry 12). -/
def anchorOf (code reel : Byte) (frame : Half) : Option Anchor :=
  if code = 1 then some .showStart
  else if code = 2 then do
    let r ← inRange 1 12 reel.toNat
    let f ← inRange 0 38400 frame.toNat
    return .reelFrame r f
  else if code = 3 then some .showEnd
  else none

/-- A scene action of WRITE_CUE (R8); without a scene the fade time is not looked at (log entry 12). -/
def sceneActionOf (scene : Byte) (fade : Half) : Option (Option SceneAction) :=
  if scene = 0xFF then some none
  else do
    let k ← inRange 1 8 scene.toNat
    let f ← inRange 0 6000 fade.toNat
    return some ⟨k, f⟩

/-- A curtain action of a cue, OPEN or CLOSE (R8). -/
def cueCurtainOf (b : Byte) : Option (Option CurtainAction) :=
  if b = 0xFF then some none
  else if b = 1 then some (some .opn)
  else if b = 2 then some (some .close)
  else none

/-- The entry of WRITE_CUE, when every field is in range and it has an action (R8). -/
def cueOf (anchor reel : Byte) (frame : Half) (scene : Byte) (fade : Half) (curtain : Byte) : Option Cue := do
  let a ← anchorOf anchor reel frame
  let k ← sceneActionOf scene fade
  let c ← cueCurtainOf curtain
  if k.isNone && c.isNone then none else return ⟨a, k, c⟩

/-- The entries that stand before a new one (R8). -/
def cuesBefore (l : List Cue) (c : Cue) : List Cue := l.takeWhile fun x => x.anchor.le c.anchor

def insertCue (l : List Cue) (c : Cue) : List Cue :=
  cuesBefore l c ++ c :: l.dropWhile fun x => x.anchor.le c.anchor

def writeCue (c : Option Cue) (b : Bank) : Except Status (Bank × List Byte) :=
  match c with
  | none => .error .range
  | some c =>
    if 16 ≤ b.cues.length then .error .full
    else .ok ({ b with cues := insertCue b.cues c }, byte1 ((cuesBefore b.cues c).length + 1))

/-- WRITE_CUE (R8). -/
def execWriteCue (st : Station) (t anchor reel : Byte) (frame : Half) (scene : Byte) (fade : Half) (curtain : Byte)
    (s : State) : Result :=
  serve (.writeCue st t anchor reel frame scene fade curtain)
    (withTarget (bankOf t) (contentWrite (writeCue (cueOf anchor reel frame scene fade curtain)))) s

def deleteCue (index : Byte) (b : Bank) : Except Status (Bank × List Byte) :=
  if (inRange 1 b.cues.length index.toNat).isNone then .error .range
  else .ok ({ b with cues := b.cues.eraseIdx (index.toNat - 1) }, [])

/-- DELETE_CUE (R9). -/
def execDeleteCue (st : Station) (t index : Byte) (s : State) : Result :=
  serve (.deleteCue st t index) (withTarget (bankOf t) (contentWrite (deleteCue index))) s

/-! ## Commit, reopen, rotate -/

/-- The first reel of the count whose record fails a check. -/
def Bank.firstReel (b : Bank) (count : Nat) (passes : Option Reel → Bool) (item : Nat → Item) : Option Item :=
  ((List.range' 1 count).find? fun r => !passes (b.slot r)).map item

/-- The first entry of the cue list whose anchor fails a check. -/
def Bank.firstCue (b : Bank) (passes : Anchor → Bool) (item : Nat → Item) : Option Item :=
  ((b.cues.zipIdx 1).find? fun x => !passes x.1.anchor).map fun x => item x.2

/-- A check on a present record. -/
def onReel (f : Reel → Bool) : Option Reel → Bool
  | none => true
  | some r => f r

/-- The commit checks in the order of Table 7: the item of the first failure (R11). -/
def Bank.commitFault (b : Bank) : Option Item :=
  match b.header with
  | none => some .header
  | some h =>
    let c := h.reelCount
    b.firstReel c Option.isSome .reelMissing
    <|> b.firstReel c (onReel fun r => decide (r.leadIn.getD 192 < r.motorCue)) .leadIn
    <|> b.firstReel c (onReel fun r => decide (r.motorCue < r.changeoverCue) && decide (r.changeoverCue < r.pictureEnd))
      .cueOrder
    <|> b.firstReel c (onReel fun r => decide (96 ≤ r.changeoverCue - r.motorCue)) .cueGap
    <|> b.firstCue (fun a => match a with
      | .reelFrame r _ => decide (r ≤ c)
      | _ => true) .anchorReel
    <|> b.firstCue (fun a => match a with
      | .reelFrame r f => onReel (fun x => decide (f < x.pictureEnd)) (b.slot r)
      | _ => true) .anchorFrame

/-- The body of COMMIT_BANK (R11). -/
def commit (n : ScreenNo) (s : State) : State × Answer :=
  let no := s.bankNo n .next
  let b := s.bank n no
  if b.state = .complete || b.state = .clearing then refuse .state s
  else
    match b.commitFault with
    | some i => (s, .incomplete i)
    | none => (s.setBank n no { b with state := .complete }, .ok [])

/-- COMMIT_BANK (R11). -/
def execCommitBank (st : Station) (t : Byte) (s : State) : Result :=
  serve (.commitBank st t) (withTarget (screenOf t) commit) s

/-- The body of REOPEN_BANK (R12). -/
def reopen (n : ScreenNo) (s : State) : State × Answer :=
  let no := s.bankNo n .next
  let b := s.bank n no
  if b.state = .complete then (s.setBank n no { b with state := .draft }, .ok []) else refuse .state s

/-- REOPEN_BANK (R12). -/
def execReopenBank (st : Station) (t : Byte) (s : State) : Result :=
  serve (.reopenBank st t) (withTarget (screenOf t) reopen) s

/-- The body of ROTATE, checked in the order of R14. -/
def rotateRequest (n : ScreenNo) (s : State) : State × Answer :=
  let b := s.bankIn n .next
  if !s.darkAndIdle n then refuse .notDark s
  else if b.state ≠ .complete then (s, .incomplete (.nextState b.state))
  else if (s.bankIn n .spare).state = .clearing then refuse .bankClearing s
  else (s.rotation n, .ok (byte1 (s.bankNo n .next).code))

/-- ROTATE (R14). -/
def execRotate (st : Station) (t : Byte) (s : State) : Result :=
  serve (.rotate st t) (withTarget (screenOf t) rotateRequest) s

/-- The end of the clear in progress, if there is one (R18). -/
def State.clearExpiry (s : State) : State :=
  match s.bankUnit.clearLeft, s.bankUnit.queue with
  | some _, x :: rest => s.endClear x rest
  | _, _ => s

/-- CLEAR_COMPLETE (R18). -/
def execClearComplete (s : State) : Result := event State.clearExpiry s

end Sys2Proof.Machine
end

