-- ==== Sys2Proof/Machine/HouseLights.lean ====
section
/-! DEFINITION. The commands of the house unit: levels and scenes, curtains, the standing table, and its reads. -/

namespace Sys2Proof.Machine

/-! ## Levels and scenes -/

/-- A fade time (R126). -/
def fadeOf (fade : Half) : Option Nat := inRange 0 6000 fade.toNat

/-- The body of SET_LEVEL, checked in the order of R127. -/
def setLevel (level : Byte) (fade : Half) (c : ChannelNo) (s : State) : State × Answer :=
  if (s.channel c).holder.isSome then refuse .held s
  else match inRange 0 100 level.toNat, fadeOf fade with
    | some l, some f => (s.setChannel c ((s.channel c).startFade l f), .ok [])
    | _, _ => refuse .range s

/-- SET_LEVEL (R127). -/
def execSetLevel (st : Station) (t level : Byte) (fade : Half) (s : State) : Result :=
  serve (.setLevel st t level fade) (withTarget (channelOf t) (setLevel level fade)) s

/-- FADE_ADVANCE (R126). -/
def execFadeAdvance (c : ChannelNo) (s : State) : Result := event (fun s => s.setChannel c (s.channel c).advance) s

/-- Four optional levels (R128, R139). -/
def levelsOf (main wall step wash : Byte) : Option Levels := do
  let a ← optRange 0xFF 0 100 main.toNat
  let b ← optRange 0xFF 0 100 wall.toNat
  let c ← optRange 0xFF 0 100 step.toNat
  let d ← optRange 0xFF 0 100 wash.toNat
  return ⟨a, b, c, d⟩

/-- A scene number (R128). -/
def sceneOf (scene : Byte) : Option Nat := inRange 1 8 scene.toNat

/-- The body of SET_SCENE (R128). -/
def setScene (scene : Byte) (levels : Option Levels) (n : ScreenNo) (s : State) : State × Answer :=
  match sceneOf scene, levels with
  | some k, some v =>
    ({ s with retained := { s.retained with
        scenes := s.retained.scenes.set n ((s.retained.scenes.get n).setIfInBounds (k - 1) v) } }, .ok [])
  | _, _ => refuse .range s

/-- SET_SCENE (R128). -/
def execSetScene (st : Station) (t scene main wall step wash : Byte) (s : State) : Result :=
  serve (.setScene st t scene main wall step wash)
    (withTarget (screenOf t) (setScene scene (levelsOf main wall step wash))) s

/-- The body of RECALL_SCENE (R129). -/
def recallScene (scene : Byte) (fade : Half) (n : ScreenNo) (s : State) : State × Answer :=
  match sceneOf scene, fadeOf fade with
  | some k, some f => ((s.recallScene n k f).1, .ok (byte1 (s.recallScene n k f).2))
  | _, _ => refuse .range s

/-- RECALL_SCENE (R129). -/
def execRecallScene (st : Station) (t scene : Byte) (fade : Half) (s : State) : Result :=
  serve (.recallScene st t scene fade) (withTarget (screenOf t) (recallScene scene fade)) s

/-! ## Curtains -/

/-- The body of CURTAIN (R136). -/
def moveCurtain (action : Byte) (n : ScreenNo) (s : State) : State × Answer :=
  match named [CurtainAction.opn, .close, .stop] CurtainAction.code action with
  | none => refuse .range s
  | some a => (s.actCurtain n a, .ok [])

/-- CURTAIN (R136). -/
def execCurtain (st : Station) (t action : Byte) (s : State) : Result :=
  serve (.curtain st t action) (withTarget (screenOf t) (moveCurtain action)) s

/-- The level of one limit switch. -/
def Pins.limit (q : Pins) (n : ScreenNo) (k : CurtainLimit) (closed : Bool) : Pins :=
  match k with
  | .openLimit => { q with openLimit := q.openLimit.set n closed }
  | .closedLimit => { q with closedLimit := q.closedLimit.set n closed }

/-- The level of one limit switch in the record. -/
def Curtain.recorded (c : Curtain) : CurtainLimit → Bool
  | .openLimit => c.openLimit
  | .closedLimit => c.closedLimit

/-- LIMIT_SWITCH_CHANGE (R137). A switch that has the recorded level has not changed (log entry 16). -/
def execLimitSwitchChange (n : ScreenNo) (k : CurtainLimit) (closed : Bool) (s : State) : Result :=
  pinEvent (fun q => q.limit n k closed)
    (fun t => if (t.curtain n).recorded k = closed then t else t.setCurtain n ((t.curtain n).limit k closed)) s

/-- A travel timer runs out (R138). -/
def State.travelExpiry (s : State) (n : ScreenNo) : State :=
  if (s.curtain n).timer.isSome then
    (s.setCurtain n { s.curtain n with state := .stalled, timer := none }).post .houseUnit (.stall n)
  else s

/-- TRAVEL_TIMER_EXPIRY (R138). -/
def execTravelTimerExpiry (n : ScreenNo) (s : State) : Result := event (fun s => s.travelExpiry n) s

/-- The body of SET_CURTAIN_TIME (R138). -/
def setCurtainTime (seconds : Byte) (n : ScreenNo) (s : State) : State × Answer :=
  match inRange 5 60 seconds.toNat with
  | none => refuse .range s
  | some x => ({ s with retained := { s.retained with travelTime := s.retained.travelTime.set n x } }, .ok [])

/-- SET_CURTAIN_TIME (R138). -/
def execSetCurtainTime (st : Station) (t seconds : Byte) (s : State) : Result :=
  serve (.setCurtainTime st t seconds) (withTarget (screenOf t) (setCurtainTime seconds)) s

/-! ## The standing table -/

/-- An entry of SET_STANDING, when every field is in range and some level is present (R139). -/
def standingEntryOf (levels : Option Levels) (fade : Half) (hold : Byte) : Option StandingEntry := do
  let v ← levels
  let f ← fadeOf fade
  let h ← flagOf hold
  if v = .const none then none else return ⟨v, f, h⟩

def State.setStandingTable (s : State) (t : StandingTable) : State :=
  { s with retained := { s.retained with standing := t } }

/-- The body of SET_STANDING, checked in the order of R139. -/
def setStanding (entry : Option StandingEntry) (k : StandingKey) (s : State) : State × Answer :=
  match entry with
  | none => refuse .range s
  | some e =>
    if (s.retained.standing.get k).isNone && decide (8 ≤ s.retained.standing.size) then refuse .full s
    else (s.setStandingTable (s.retained.standing.set k (some e)), .ok [])

/-- SET_STANDING (R139). -/
def execSetStanding (st : Station) (t main wall step wash : Byte) (fade : Half) (hold : Byte) (s : State) : Result :=
  serve (.setStanding st t main wall step wash fade hold)
    (withTarget (standingOf t) (setStanding (standingEntryOf (levelsOf main wall step wash) fade hold))) s

/-- DELETE_STANDING (R139). -/
def execDeleteStanding (st : Station) (t : Byte) (s : State) : Result :=
  serve (.deleteStanding st t)
    (withTarget (standingOf t) fun k s => (s.setStandingTable (s.retained.standing.set k none), .ok [])) s

/-- The number of channels that a key holds. -/
def State.heldBy (s : State) (k : StandingKey) : Nat :=
  (allChannels.filter fun c => (s.channel c).holder = some k).length

/-- A channel that leaves a holder. -/
def Channel.release (c : Channel) (k : StandingKey) : Channel := if c.holder = some k then { c with holder := none } else c

/-- Every channel leaves a holder (R142). -/
def State.releaseAll (s : State) (k : StandingKey) : State :=
  { s with house := { s.house with channels := s.house.channels.map fun v => v.map fun c => c.release k } }

/-- The body of RELEASE_HOLD (R142). -/
def releaseHold (k : StandingKey) (s : State) : State × Answer :=
  if s.standingClear k then (s.releaseAll k, .ok (byte1 (s.heldBy k))) else refuse .causeActive s

/-- RELEASE_HOLD (R142). -/
def execReleaseHold (st : Station) (t : Byte) (s : State) : Result :=
  serve (.releaseHold st t) (withTarget (standingOf t) releaseHold) s

/-! ## Reads -/

/-- A channel in a reply (R143). -/
def Channel.data (c : Channel) : List Byte :=
  byte1 c.level ++ opt1 (c.fade.map (·.target)) ++ opt2 (c.fade.map (·.total)) ++ opt2 (c.fade.map (·.elapsed)) ++
    opt1 (c.holder.map (·.code))

/-- A curtain in a reply, in the order of R135; the limits are CLOSED 1 and OPEN 2. -/
def State.curtainData (s : State) (n : ScreenNo) : List Byte :=
  let c := s.curtain n
  byte1 c.state.code ++ opt2 c.timer ++ byte1 (s.retained.travelTime.get n) ++ byte1 (if c.openLimit then 1 else 2) ++
    byte1 (if c.closedLimit then 1 else 2)

/-- READ_HOUSE's data (R143, log entry 11). -/
def State.houseData (s : State) (n : ScreenNo) : List Byte :=
  (allPositions.flatMap fun k => (s.channel ⟨n, k⟩).data) ++ s.curtainData n ++ mask2 (s.house.marks.get n)

/-- READ_HOUSE (R143). -/
def execReadHouse (st : Station) (t : Byte) (s : State) : Result :=
  serve (.readHouse st t) (withTarget (screenOf t) fun n s => (s, .ok (s.houseData n))) s

def levelsData (v : Levels) : List Byte := allPositions.flatMap fun k => opt1 (v.get k)

/-- The body of READ_SCENE (R143). -/
def readScene (scene : Byte) (n : ScreenNo) (s : State) : State × Answer :=
  match sceneOf scene with
  | none => refuse .range s
  | some k => (s, .ok (levelsData (s.scene n k)))

/-- READ_SCENE (R143). -/
def execReadScene (st : Station) (t scene : Byte) (s : State) : Result :=
  serve (.readScene st t scene) (withTarget (screenOf t) (readScene scene)) s

/-- The place of a standing key in the mask of Table 63, counted from 1. -/
def StandingKey.place (k : StandingKey) : Nat := allStandingKeys.idxOf k + 1

/-- An entry in a reply: the hold flag is the most significant bit of the fade time (Table 63). -/
def StandingEntry.data (e : StandingEntry) : List Byte := levelsData e.levels ++ byte2 (e.fade + 32768 * e.hold.toNat)

/-- READ_STANDING's data (Table 63). -/
def StandingTable.data (t : StandingTable) : List Byte :=
  mask2 (maskOf allStandingKeys StandingKey.place fun k => (t.get k).isSome) ++
    allStandingKeys.flatMap fun k => ((t.get k).map (·.data)).getD []

/-- READ_STANDING (R143). -/
def execReadStanding (st : Station) (t : Byte) (s : State) : Result :=
  serve (.readStanding st t) (withTarget (noTarget t) fun _ s => (s, .ok s.retained.standing.data)) s

end Sys2Proof.Machine
end

