-- ==== Sys2Proof/Machine/Links.lean ====
section
/-! DEFINITION. The commands of the link units and the attention unit. -/

namespace Sys2Proof.Machine

/-! ## Characters, timers and the line -/

/-- A change of RXD (R173, R182). A line that has the level already has not changed (log entry 16). -/
def Link.hears (l : Link) (old new : LineLevel) : Link := if old = new then l else l.rxd new

/-- A character at a link whose line had level `old`: the line is left at the stop bit's level, and a receiver that was not
waiting for mark takes the character (R173, log entry 20). -/
def State.character (s : State) (st : Station) (old : LineLevel) (data : Byte) (bit : Bool) (stopBit : LineLevel) : State :=
  let s1 := s.setLink st ((s.link st).hears old stopBit)
  if (s.link st).awaitMark then s1 else s1.receive st data bit stopBit

/-- RECEIVE_CHARACTER (R173 to R177). -/
def execReceiveCharacter (st : Station) (data : Byte) (parityBit : Bool) (stopBit : LineLevel) (s : State) : Result :=
  pinEvent (fun q => { q with rxd := q.rxd.set st stopBit })
    (fun t => t.character st (s.pins.rxd.get st) data parityBit stopBit) s

/-- GAP_TIMER_EXPIRY (R176). -/
def execGapTimerExpiry (st : Station) (s : State) : Result := event (fun s => s.gapExpiry st) s

/-- REPLY_COMPLETE (R179). -/
def execReplyComplete (st : Station) (s : State) : Result := event (fun s => s.setLink st (s.link st).replyDone) s

/-- The break timer runs out (R182): the link and the station's attention record (R190) are set up afresh. -/
def State.lineBreak (s : State) (st : Station) : State :=
  if (s.link st).breakTimer.isSome then
    (s.setLink st ((s.link st).lineBreak (s.pins.rates.get st))).setAttn st .blank
  else s

/-- LINE_BREAK_RESET (R182). -/
def execLineBreakReset (st : Station) (s : State) : Result := event (fun s => s.lineBreak st) s

/-- RXD_LEVEL_CHANGE (R182). -/
def execRxdLevelChange (st : Station) (level : LineLevel) (s : State) : Result :=
  pinEvent (fun q => { q with rxd := q.rxd.set st level })
    (fun t => t.setLink st ((t.link st).hears (s.pins.rxd.get st) level)) s

/-! ## SET_LINE and READ_STATUS -/

def Parity.code : Parity → Nat
  | .none => 1
  | .even => 2
  | .odd => 3
  | .mark => 4
  | .space => 5

def allParities : List Parity := [.none, .even, .odd, .mark, .space]

/-- The body of SET_LINE (R181), reached when the target is 0. R181 gives no order for its two checks, and the model makes the
one of the target first (DESIGN CHOICE, log entry 25). -/
def setLine (st : Station) (mode : Byte) (_ : Unit) (s : State) : State × Answer :=
  match named allParities Parity.code mode with
  | none => refuse .range s
  | some m => (s.setLink st { s.link st with parityToApply := some m }, .ok [])

/-- SET_LINE (R181). -/
def execSetLine (st : Station) (t mode : Byte) (s : State) : Result :=
  serve (.setLine st t mode) (withTarget (noTarget t) (setLine st mode)) s

/-- READ_STATUS's data (Table 63). -/
def State.statusData (s : State) : List Byte :=
  flag1 s.shutterUnit.fireActive ++ flag1 s.clock.unset ++ flag1 s.powerRestored ++
    allScreens.flatMap fun n => byte1 (s.screen n).state.code ++ byte1 (s.showRec n).state.code

/-- The body of READ_STATUS (R183): the console's clears the power-restored flag. -/
def readStatus (st : Station) (_ : Unit) (s : State) : State × Answer :=
  (if st = .console then { s with powerRestored := false } else s, .ok s.statusData)

/-- READ_STATUS (R183). -/
def execReadStatus (st : Station) (t : Byte) (s : State) : Result :=
  serve (.readStatus st t) (withTarget (noTarget t) (readStatus st)) s

/-! ## Attention requests -/

/-- The mask of the classes whose flag is set. -/
def classMask (f : AttnClass → Bool) : Half := maskOf allClasses AttnClass.code f

/-- The routine classes of a set join the armed set (R188). -/
def Attention.arm (a : Attention) (named : AttnClass → Bool) : Attention :=
  allClasses.foldl (fun b c => if named c && !c.urgent then { b with armed := b.armed.set c true } else b) a

/-- The body of ARM_ATTENTION (R188). -/
def armAttention (st : Station) (classes : Half) (_ : Unit) (s : State) : State × Answer :=
  match classSetOf classes with
  | none => refuse .range s
  | some f =>
    let a := (s.attn st).arm f
    (s.setAttn st a, .ok (mask2 (classMask a.armed.get)))

/-- ARM_ATTENTION (R188). -/
def execArmAttention (st : Station) (t : Byte) (classes : Half) (s : State) : Result :=
  serve (.armAttention st t classes) (withTarget (noTarget t) (armAttention st classes)) s

/-- The origin of a cause, its place in its class's row of Table 58, and its arguments. -/
def AttnCause.origin : AttnCause → Nat × List Byte
  | .fireActive => (1, [])
  | .fireClear => (2, [])
  | .filmBreak p => (1, byte1 p.code)
  | .drop k => (1, byte1 k.code)
  | .up i => (2, byte1 i.code)
  | .armTimeout i => (3, byte1 i.code)
  | .lit p => (1, byte1 p.code)
  | .arcFail p => (2, byte1 p.code)
  | .lost p => (3, byte1 p.code)
  | .sensor p => (4, byte1 p.code)
  | .low p => (5, byte1 p.code)
  | .spent p => (6, byte1 p.code)
  | .arcOut p i => (7, byte1 p.code ++ byte1 i.code)
  | .missed p k => (1, byte1 p.code ++ byte1 k.code)
  | .stray p => (2, byte1 p.code)
  | .halt p c => (3, byte1 p.code ++ byte1 c.code)
  | .unarmed n r => (4, byte1 n.code ++ byte1 r.code)
  | .late n => (5, byte1 n.code)
  | .revert n => (6, byte1 n.code)
  | .rescue n => (7, byte1 n.code)
  | .dark n => (8, byte1 n.code)
  | .done n r => (9, byte1 n.code ++ byte1 r)
  | .stuck p => (10, byte1 p.code)
  | .rotated n => (1, byte1 n.code)
  | .cleared n => (2, byte1 n.code)
  | .stopped n => (3, byte1 n.code)
  | .showEnded n => (4, byte1 n.code)
  | .called n m => (5, byte1 n.code ++ byte2 m)
  | .started n m => (6, byte1 n.code ++ opt2 m)
  | .startMissed n m => (7, byte1 n.code ++ byte2 m)
  | .held n r => (8, byte1 n.code ++ byte1 r.code)
  | .resume n r => (9, byte1 n.code ++ byte1 r)
  | .stall n => (1, byte1 n.code)
  | .standing k => (2, byte1 k.code)
  | .overflow k => (1, byte1 k.code.1 ++ byte1 k.code.2)
  | .overdue k => (2, byte1 k.code.1 ++ byte1 k.code.2)
  | .gap st => (1, byte1 st.code)
  | .overrun st => (2, byte1 st.code)

/-- Three argument bytes, those not used FFh (Table 63). -/
def argumentBytes (l : List Byte) : List Byte := (l ++ [0xFF, 0xFF, 0xFF]).take 3

def AttnEntry.data (e : AttnEntry) : List Byte :=
  byte1 e.count ++ byte1 e.last.origin.1 ++ argumentBytes e.last.origin.2

/-- READ_ATTENTION's data (Table 63). -/
def Attention.data (a : Attention) : List Byte :=
  mask2 (classMask fun c => (a.pending.get c).isSome) ++ mask2 (classMask a.armed.get) ++
    allClasses.flatMap fun c => ((a.pending.get c).map (·.data)).getD []

/-- The body of READ_ATTENTION (R189): the pending set becomes empty. -/
def readAttention (st : Station) (_ : Unit) (s : State) : State × Answer :=
  (s.setAttn st { s.attn st with pending := .const none }, .ok (s.attn st).data)

/-- READ_ATTENTION (R189). -/
def execReadAttention (st : Station) (t : Byte) (s : State) : Result :=
  serve (.readAttention st t) (withTarget (noTarget t) (readAttention st)) s

end Sys2Proof.Machine
end

