-- ==== Sys2Proof/Machine/Power.lean ====
section
/-! DEFINITION. The supplies: a power-on reset, block by block in the order in which the rules have the blocks set themselves
up, and the losses of the main power and of the standby supply. -/

namespace Sys2Proof.Machine

/-! ## Bank store (R20) -/

/-- The marker is checked, and then written valid (R20). -/
def State.setupStore (s : State) : State :=
  { s with retained := if s.retained.markerValid then s.retained else .default, powered := true }

/-- The banks found in CLEARING, ascending by screen and by bank number (R20). -/
def State.clearing (s : State) : List BankRef :=
  (allScreens.flatMap fun n => [BankNo.b0, .b1, .b2].map fun b => (⟨n, b⟩ : BankRef)).filter
    fun x => (s.bank x.screen x.bank).state = .clearing

/-- The clear queue and the rotation-pending flags (R18, R20). -/
def State.setupClears (s : State) : State :=
  { s with
    retained := { s.retained with rotationPending := .const false }
    bankUnit := ⟨s.clearing, if s.clearing.isEmpty then none else some 2000⟩ }

/-! ## Projectors, trackers and arcs (R39, R59, R104) -/

/-- A projector from its run marks (R39). -/
def State.projectorUp (s : State) (p : ProjNo) : Projector :=
  if (s.runMarks p).filmOn then
    { Projector.blank with runState := .halted, loaded := (s.runMarks p).reel, haltCause := some .power }
  else { Projector.blank with assigned := s.openingReel p }

def State.setupProjectors (s : State) : State := { s with projectors := .ofFn s.projectorUp }

/-- The status of a cue at power-on (R59). -/
def cueUp (frame counter : Nat) : CueStatus := if frame ≤ counter then .taken frame .count else .pending

/-- The rebuilt cue context (R59). -/
def State.contextUp (s : State) (n : ScreenNo) (reel counter : Nat) : CueContext :=
  match s.reelRecord n reel with
  | none => s.freshContext n reel
  | some r =>
    { s.freshContext n reel with motor := cueUp r.motorCue counter, changeover := cueUp r.changeoverCue counter }

/-- A tracker (R59). -/
def State.trackerUp (s : State) (p : ProjNo) : Tracker :=
  if (s.runMarks p).filmOn then
    { Tracker.blank with
      counter := (s.runMarks p).counter
      context := (s.runMarks p).reel.map fun r => s.contextUp p.screen r (s.runMarks p).counter }
  else .blank

def State.setupTrackers (s : State) : State := { s with trackers := .ofFn s.trackerUp }

def State.setupArcs (s : State) : State := { s with arcs := s.retained.arcs.map .ofStore }

/-! ## Shutters (R124) -/

/-- The causes that the standing inputs give a shutter besides POWER (R124). -/
def State.causesUp (s : State) (i : ShutterNo) : CauseSet :=
  { CauseSet.empty with
    power := true, fire := s.pins.fireLoop, manual := s.pins.dropButton
    heats := .ofFn fun p => s.pins.gateHeat.get p && (s.retained.dropMap.heats.get p).get i }

def State.setupShutters (s : State) : State :=
  { s with shutterUnit :=
      { shutters := .ofFn fun i => { Shutter.powerOn (s.pins.home.get i) with causes := s.causesUp i }
        fireActive := s.pins.fireLoop
        buttonClosed := s.pins.dropButton } }

/-! ## Screens, house, shows (R60, R81, R82, R144, R145, R146, R148) -/

/-- The greater of two pairs of reel and counter, by reel and then by counter (R60). -/
def greater (a b : Nat × Nat) : Nat × Nat := if a.1 < b.1 || (a.1 = b.1 && a.2 < b.2) then b else a

/-- The greatest pair of loaded reel and counter among the projectors of a screen that came up HALTED(POWER) with a counter
above 0 (R60, R144). -/
def State.powerPair (s : State) (n : ScreenNo) : Option (Nat × Nat) :=
  match (projectorsOf n).filterMap fun p =>
      match (s.projector p).haltCause, (s.projector p).loaded with
      | some .power, some r => if 0 < (s.tracker p).counter then some (r, (s.tracker p).counter) else none
      | _, _ => none with
  | [] => none
  | x :: rest => some (rest.foldl greater x)

/-- A changeover record (R60). -/
def State.screenUp (s : State) (n : ScreenNo) : Screen :=
  { Screen.blank with
    currentReel := (s.powerPair n).map Prod.fst
    sound := ((s.header n).map (·.firstSide)).getD .a }

def State.setupScreens (s : State) : State := { s with screens := .ofFn s.screenUp, booth := ⟨.s1, .blank⟩ }

/-- Step 4 of R144. -/
def curtainUp (openClosed closedClosed : Bool) : Curtain where
  state := if openClosed && !closedClosed then .opened else if closedClosed && !openClosed then .closed else .halfway
  timer := none
  openLimit := openClosed
  closedLimit := closedClosed

/-- An entry that the show had passed, for the greatest pair of R144. -/
def Cue.passed (c : Cue) (x : Nat × Nat) : Bool :=
  match c.anchor with
  | .showStart => true
  | .reelFrame r f => decide (r < x.1) || (decide (r = x.1) && decide (f ≤ x.2))
  | .showEnd => false

/-- Step 5 of R144. -/
def State.marksUp (s : State) (n : ScreenNo) : Half :=
  match s.powerPair n with
  | none => 0#16
  | some x =>
    maskOf (((s.bankIn n .current).cues.zipIdx 1).filter fun y => decide (y.2 ≤ 16)) Prod.snd fun y => y.1.passed x

/-- The POWER and FIRE actions of a power-on, for which nothing is posted (R144). -/
def State.standingUp (s : State) (k : StandingKey) : State :=
  match s.retained.standing.get k with
  | none => s
  | some e => (s.applyStanding k e).1

/-- The five steps of R144. -/
def State.setupHouse (s : State) : State :=
  let s1 : State :=
    { s with house :=
        { channels := .const (.const .full)
          curtains := .ofFn fun n => curtainUp (s.pins.openLimit.get n) (s.pins.closedLimit.get n)
          marks := .ofFn s.marksUp } }
  let s2 := s1.standingUp .power
  if s2.shutterUnit.fireActive then s2.standingUp .fire else s2

/-- The clock and the shows (R145, R146, R148). -/
def State.setupShows (s : State) : State :=
  { s with
    clock := ⟨0, 0, true⟩
    shows := s.screens.map fun r => ⟨if r.currentReel.isSome then .playing else .waiting, none, .none⟩ }

/-! ## Duties, links, attention (R171, R172, R183, R190) -/

def State.setupStations (s : State) : State :=
  { s with
    duty := powerOnDuties, links := s.pins.rates.map .blank, powerRestored := true, attention := .const .blank
    work := .empty }

/-- A power-on reset (R20). The pins keep their levels, and the queue is not the part's. -/
def State.powerOn (s : State) : State :=
  s.setupStore.setupClears.setupProjectors.setupTrackers.setupArcs.setupShutters.setupScreens.setupHouse.setupShows
    |>.setupStations

/-- POWER_ON_RESET: from the supply or from the RESET pin (R20). -/
def execPowerOnReset (s : State) : Result := .next s.powerOn

/-! ## Losses -/

/-- What is left without main power: the retained store and the input levels. The rest is lost, and stands at the values of
`State.reset` until a power-on reset sets it up (log entry 8). -/
def State.powerLost (s : State) : State :=
  { State.reset with retained := s.retained, powered := false, pins := s.pins, free := s.free, pending := s.pending }

/-- MAIN_POWER_LOSS (R19). -/
def execMainPowerLoss (s : State) : Result := .next s.powerLost

/-- The retained store is lost with the standby supply when there is no main power to keep it: the marker is no longer valid
(log entry 8). -/
def State.standbyLost (s : State) : State :=
  if s.powered then s else { s with retained := { s.retained with markerValid := false } }

/-- STANDBY_SUPPLY_LOSS. -/
def execStandbySupplyLoss (s : State) : Result := .next s.standbyLost

end Sys2Proof.Machine
end

