-- ==== Sys2Proof/Machine/Projectors.lean ====
section
/-! DEFINITION. The commands of the projector units: READ_PROJECTOR, CLEAR_PROJECTOR, STOP_PROJECTOR, and the threaded, loop and
douser switches. -/

namespace Sys2Proof.Machine

/-- READ_PROJECTOR's data (Table 63). -/
def State.projectorData (s : State) (p : ProjNo) : List Byte :=
  let r := s.projector p
  byte1 r.runState.code ++ opt1 r.loaded ++ opt1 r.assigned ++ opt1 (r.haltCause.map (·.code)) ++ flag1 r.midReel ++
    byte1 r.douser.code ++ byte2 (s.tracker p).counter ++ flag1 (s.tracker p).atSpeed ++
    byte1 (s.shutter (.port p)).state.code

/-- READ_PROJECTOR (R22). -/
def execReadProjector (st : Station) (t : Byte) (s : State) : Result :=
  serve (.readProjector st t) (withTarget (projOf t) fun p s => (s, .ok (s.projectorData p))) s

/-- The assignment of a projector that is cleared (R36). -/
def State.clearedReel (s : State) (p : ProjNo) : Option Nat :=
  if (s.showRec p.screen).state = .playing then (s.projector p).loaded else s.openingReel p

/-- The body of CLEAR_PROJECTOR (R36). -/
def clearProjector (p : ProjNo) (s : State) : State × Answer :=
  match (s.projector p).runState with
  | .threaded => (((s.becomeEmpty p (s.clearedReel p)).noteRunState p.screen).tellDuty (.projector p), .ok [])
  | .halted =>
    ((((s.becomeEmpty p (s.clearedReel p)).leftHalted p).noteRunState p.screen).tellDuty (.projector p), .ok [])
  | _ => refuse .state s

/-- CLEAR_PROJECTOR (R36). -/
def execClearProjector (st : Station) (t : Byte) (s : State) : Result :=
  serve (.clearProjector st t) (withTarget (projOf t) clearProjector) s

/-- STOP_PROJECTOR (R37). -/
def execStopProjector (st : Station) (t : Byte) (s : State) : Result :=
  serve (.stopProjector st t) (withTarget (projOf t) fun p s => (s.haltEvent p .stop, .ok [])) s

/-- The threaded notice to the sequencer, the scheduler and the duty unit (R24). -/
def State.threadedNotice (s : State) (p : ProjNo) : State := (s.noteRunState p.screen).tellDuty (.projector p)

/-- Threading from EMPTY (R24). -/
def State.thread (s : State) (p : ProjNo) (reel : Nat) : State :=
  let s1 := s.setProjector p { s.projector p with
    runState := .threaded, loaded := some reel, assigned := none, midReel := false, douser := .closed }
  let s2 := s1.setTracker p { s.tracker p with counter := 0, context := some (s.freshContext p.screen reel) }
  (s2.setRunMarks p ⟨true, some reel, 0⟩).threadedNotice p

/-- Threading again from HALTED (R25). -/
def State.threadAgain (s : State) (p : ProjNo) : State :=
  let s1 := s.setProjector p { s.projector p with
    runState := .threaded, haltCause := none, midReel := decide (0 < (s.tracker p).counter) }
  (s1.leftHalted p).threadedNotice p

/-- The threaded switch closes (R24, R25). -/
def State.threadedClose (s : State) (p : ProjNo) : State :=
  match (s.projector p).runState, (s.projector p).assigned with
  | .empty, some r => s.thread p r
  | .halted, _ => s.threadAgain p
  | _, _ => s

/-- THREADED_SWITCH_CLOSE (R24, R25). -/
def execThreadedSwitchClose (p : ProjNo) (s : State) : Result := event (fun s => s.threadedClose p) s

/-- The loop is lost (R33): a break below E, a runout end or a film-out at or beyond it. -/
def State.loopLost (s : State) (p : ProjNo) : State :=
  if (s.projector p).runState.motor then
    if s.atPictureEnd p then
      if (s.projector p).runState = .runout then s.emptyRun p else (s.emptyRun p).onHalt p
    else s.breakHalt p
  else s

/-- LOOP_LOST (R33). -/
def execLoopLost (p : ProjNo) (s : State) : Result := event (fun s => s.loopLost p) s

/-- The other projector of a screen leaves SHOWING at an open confirmation (R29). -/
def State.handOver (s : State) (p : ProjNo) : State :=
  if (s.projector p.other).runState = .showing then s.enterRunout p.other else s

/-- The tracker's notices at an entry into SHOWING, to the house unit (R56), after the resume firing (R133). -/
def State.entryCues (s : State) (p : ProjNo) : State :=
  match (s.projector p).loaded with
  | none => s
  | some r =>
    let passed := fun c : Cue => c.reelFrame r fun f => decide (f ≤ (s.tracker p).counter)
    let s1 := if (s.projector p).midReel then s.fireWhere p.screen passed else s
    s1.fireWhere p.screen passed

/-- The picture-end notice at an entry into SHOWING at or above E (R55). -/
def State.entryEnd (s : State) (p : ProjNo) : State :=
  if (s.projector p).runState = .showing && s.atPictureEnd p then s.onPictureEnd p else s

/-- The open confirmation (R29): the notices go to the arc unit, the house unit, the sequencer, and last the tracker's picture
end (R57, log entry 21). -/
def State.confirmOpen (s : State) (p : ProjNo) : State :=
  let s1 := s.handOver p
  let s2 := (s1.setProjector p { s1.projector p with runState := .showing }).arcShowing p
  ((s2.entryCues p).onShowing p).entryEnd p

/-- The douser-open switch closes (R29). A closing that is no open confirmation gives only the douser-opened notice, on which
the sequencer changes nothing. -/
def State.douserOpens (s : State) (p : ProjNo) : State :=
  if (s.projector p).runState = .running && (s.projector p).douser = .opened then
    if s.permit p then s.confirmOpen p else s.haltEvent p (s.shutter (.port p)).lastDrop.halt
  else s

/-- DOUSER_OPEN_SWITCH_CLOSE (R29). -/
def execDouserOpenSwitchClose (p : ProjNo) (s : State) : Result := event (fun s => s.douserOpens p) s

/-- The douser-closed notice of a projector ends its close watch (R74). -/
def State.douserCloses (s : State) (p : ProjNo) : State :=
  if runsFor (s.screen p.screen).closeWatch p then s.modScreen p.screen fun r => { r with closeWatch := none } else s

/-- DOUSER_CLOSED_SWITCH_CLOSE (R74). -/
def execDouserClosedSwitchClose (p : ProjNo) (s : State) : Result := event (fun s => s.douserCloses p) s

end Sys2Proof.Machine
end

