-- ==== Sys2Proof/Machine/Screens.lean ====
section
/-! DEFINITION. The commands of the changeover sequencers, the monitor and the bell. -/

namespace Sys2Proof.Machine

/-- The confirmation timer of a screen runs out: an opening fails (R65), or a swap (R75). -/
def State.confirmExpiry (s : State) (n : ScreenNo) : State :=
  match (s.screen n).confirmTimer with
  | none => s
  | some x =>
    let s1 := s.modScreen n fun r => { r with confirmTimer := none }
    match (s.screen n).state with
    | .starting => s1.openFailed n x.projector
    | .swapping => s1.swapFail n x.projector x.projector.other
    | _ => s1

/-- CONFIRMATION_TIMER_EXPIRY (R65, R75). -/
def execConfirmationTimerExpiry (n : ScreenNo) (s : State) : Result := event (fun s => s.confirmExpiry n) s

/-- The close watch of a screen runs out (R74). -/
def State.watchExpiry (s : State) (n : ScreenNo) : State :=
  match (s.screen n).closeWatch with
  | none => s
  | some x => (s.modScreen n fun r => { r with closeWatch := none }).post (.sequencer n) (.stuck x.projector)

/-- CLOSE_WATCH_EXPIRY (R74). -/
def execCloseWatchExpiry (n : ScreenNo) (s : State) : Result := event (fun s => s.watchExpiry n) s

/-! ## READ_SCREEN -/

/-- The requesters of the bell as a mask: LATE of screen s at bit s − 1, HELD at bit s + 3 (log entry 11). -/
def Bell.mask (b : Bell) (f : Option Bool → Bool) : Half :=
  maskOf (List.range' 1 8) id fun k =>
    match allScreens[(k - 1) % 4]? with
    | some n => if k ≤ 4 then f (b.late.get n) else f (b.held.get n)
    | none => false

/-- A timer that runs for a named projector: its code and its time left. -/
def timerData (t : Option NamedTimer) : List Byte := opt1 (t.map (·.projector.code)) ++ opt2 (t.map (·.left))

def Monitor.code : Monitor → Nat
  | .follow => 0
  | .screen n => n.code

/-- READ_SCREEN's data, the fields of R60 in order, then the monitor and the bell (R62, log entry 11). -/
def State.screenData (s : State) (n : ScreenNo) : List Byte :=
  let r := s.screen n
  byte1 r.state.code ++ opt1 (r.opening.map (·.code)) ++ opt1 (r.showingSide.map (·.code)) ++ opt1 r.currentReel ++
    flag1 r.lateMotor ++ flag1 r.swapPending ++ flag1 r.swapFailed ++ flag1 r.immediate ++ byte1 r.sound.code ++
    timerData r.confirmTimer ++ timerData r.closeWatch ++ byte1 r.arming.code ++
    byte1 s.retained.monitor.code ++ byte1 s.booth.followed.code ++ flag1 s.booth.bell.output ++
    mask2 (s.booth.bell.mask Option.isSome) ++ mask2 (s.booth.bell.mask fun x => x = some true)

/-- READ_SCREEN (R62). -/
def execReadScreen (st : Station) (t : Byte) (s : State) : Result :=
  serve (.readScreen st t) (withTarget (screenOf t) fun n s => (s, .ok (s.screenData n))) s

/-! ## Requests -/

/-- The body of CHANGE_NOW (R79). -/
def changeNow (n : ScreenNo) (s : State) : State × Answer :=
  match (s.screen n).state, s.standby n with
  | .armed, some p => ((s.modScreen n fun r => { r with immediate := true }).roll n p, .ok [])
  | .rolling, some p =>
    let s1 := s.modScreen n fun r => { r with immediate := true, swapFailed := false }
    (if s.atSpeed p then s1.swapStart n p p.other false else s1, .ok [])
  | .single, _ => (s, .notReady (s.screen n).arming)
  | _, _ => refuse .state s

/-- CHANGE_NOW (R79). -/
def execChangeNow (st : Station) (t : Byte) (s : State) : Result :=
  serve (.changeNow st t) (withTarget (screenOf t) changeNow) s

/-- The selection of SET_MONITOR: 0 is FOLLOW, 1 to 4 a screen (Table 62). -/
def monitorOf (b : Byte) : Option Monitor := if b = 0 then some .follow else (screenOf b).map .screen

/-- The body of SET_MONITOR (R81). -/
def setMonitor (selection : Byte) (_ : Unit) (s : State) : State × Answer :=
  match monitorOf selection with
  | none => refuse .range s
  | some m => ({ s with retained := { s.retained with monitor := m } }, .ok [])

/-- SET_MONITOR (R81). -/
def execSetMonitor (st : Station) (t selection : Byte) (s : State) : Result :=
  serve (.setMonitor st t selection) (withTarget (noTarget t) (setMonitor selection)) s

/-- Every present requester is silenced (R83). -/
def Bell.silence (b : Bell) : Bell :=
  Bell.settle { b with
    late := b.late.map fun x : Option Bool => x.map fun _ => true
    held := b.held.map fun x : Option Bool => x.map fun _ => true }

/-- SILENCE (R83). -/
def execSilence (st : Station) (t : Byte) (s : State) : Result :=
  serve (.silence st t) (withTarget (noTarget t) fun _ s => (s.setBell s.booth.bell.silence, .ok [])) s

/-- A cadence phase ends (R83). -/
def Bell.cadence (b : Bell) : Bell :=
  match b.cadenceLeft with
  | none => b
  | some _ => { b with output := !b.output, cadenceLeft := some 500 }

/-- BELL_CADENCE (R83). -/
def execBellCadence (s : State) : Result := event (fun s => s.setBell s.booth.bell.cadence) s

end Sys2Proof.Machine
end

