-- ==== Sys2Proof/Machine/Shows.lean ====
section
/-! DEFINITION. The commands of the booth clock, the show scheduler and the duty unit. -/

namespace Sys2Proof.Machine

/-! ## The clock -/

/-- The pulses of a group (R145). -/
def groupLength (msel : Bool) : Nat := if msel then 60 else 50

/-- The day offset that makes the time of day `t` at booth seconds `b` (R146). -/
def offsetFor (t b : Nat) : Nat := (t + (86400 - b % 86400)) % 86400

/-- The clock-set notice at the duty unit: the four screens in order (R146, R166). -/
def State.clockNotice (s : State) : State := allScreens.foldl (fun t n => t.tellDuty (.screen n)) s

/-- The body of SET_CLOCK (R146). The rule gives no order in which the screens are armed, and so none for the causes of those that
are called: the model takes screen 1 to 4 (DESIGN CHOICE, log entry 29). -/
def setClock (time : Long) (_ : Unit) (s : State) : State × Answer :=
  match inRange 0 86399 time.toNat with
  | none => refuse .range s
  | some t =>
    let s1 : State :=
      { s with retained := { s.retained with dayOffset := offsetFor t s.clock.boothSeconds }
               clock := { s.clock with unset := false } }
    ((allScreens.foldl State.armNext s1).clockNotice, .ok [])

/-- SET_CLOCK (R146). -/
def execSetClock (st : Station) (t : Byte) (time : Long) (s : State) : Result :=
  serve (.setClock st t time) (withTarget (noTarget t) (setClock time)) s

/-! ## Start lists -/

/-- Strictly ascending. -/
def ascending : List Nat → Bool
  | a :: b :: rest => decide (a < b) && ascending (b :: rest)
  | _ => true

/-- Check 4 of SET_STARTS (R147). -/
def startsOf (times : List Half) : Option (List Nat) :=
  let l := times.map BitVec.toNat
  if decide (l.length ≤ 8) && l.all (fun m => decide (m ≤ 1439)) && ascending l then some l else none

/-- The state of a bank that takes a start list (R10, R147). -/
def BankState.started : BankState → BankState
  | .empty => .draft
  | st => st

/-- The arming of a screen whose CURRENT bank has taken a start list (R147). -/
def State.armAfterStarts (s : State) (n : ScreenNo) (role : Role) : State := if role = .current then s.armNext n else s

/-- The body of SET_STARTS, checked in the order of R147. -/
def setStarts (times : List Half) (x : ScreenNo × Role) (s : State) : State × Answer :=
  let no := s.bankNo x.1 x.2
  let b := s.bank x.1 no
  if b.state = .clearing then refuse .bankClearing s
  else if x.2 = .spare then refuse .bankInUse s
  else match startsOf times with
    | none => refuse .range s
    | some l =>
      ((s.setBank x.1 no { b with starts := l, state := b.state.started }).armAfterStarts x.1 x.2, .ok (byte1 no.code))

/-- SET_STARTS (R147). -/
def execSetStarts (st : Station) (t : Byte) (times : List Half) (s : State) : Result :=
  serve (.setStarts st t times) (withTarget (bankOf t) (setStarts times)) s

/-! ## Instants and one-second events -/

/-- The booth seconds have reached the call instant of a WAITING screen (R150). -/
def State.callReached (s : State) (n : ScreenNo) : State :=
  match (s.showRec n).state, (s.showRec n).next with
  | .waiting, some x => if x.call ≤ s.clock.boothSeconds then s.callScreen n x.minute else s
  | _, _ => s

/-- CALL_INSTANT (R150). -/
def execCallInstant (n : ScreenNo) (s : State) : Result := event (fun s => s.callReached n) s

/-- The test at the start instant (R152): PASS starts the show, any other result holds it. The carbon-short notice of the test
goes before the show-state notice of HELD (DESIGN CHOICE, log entry 31). -/
def State.startOrHold (s : State) (n : ScreenNo) : State :=
  let s1 := s.storeReadiness n
  if (s1.showRec n).readiness = .pass then s1.startShow n else s1.holdShow n

/-- The booth seconds have reached the start instant of a CALLED screen (R152). -/
def State.startReached (s : State) (n : ScreenNo) : State :=
  match (s.showRec n).state, (s.showRec n).next with
  | .called, some x => if x.start ≤ s.clock.boothSeconds then s.startOrHold n else s
  | _, _ => s

/-- START_INSTANT (R152). -/
def execStartInstant (n : ScreenNo) (s : State) : Result := event (fun s => s.startReached n) s

/-- The booth seconds have reached the hold limit of a HELD screen (R153). -/
def State.holdReached (s : State) (n : ScreenNo) : State :=
  match (s.showRec n).state, (s.showRec n).next with
  | .held, some x =>
    match x.hold with
    | some h => if h ≤ s.clock.boothSeconds then s.missStart n x.minute else s
    | none => s
  | _, _ => s

/-- HOLD_LIMIT (R153). -/
def execHoldLimit (n : ScreenNo) (s : State) : Result := event (fun s => s.holdReached n) s

/-- The clock at a one-second event (R145): the booth seconds rise, saturating, and the next group is a fresh one. -/
def Clock.second (c : Clock) : Clock := { c with boothSeconds := min maxSeconds (c.boothSeconds + 1), pulses := 0 }

/-- The scheduler's checks of one screen at a one-second event (R145), in the order of R150, R152 and R153. -/
def State.checkInstants (s : State) (n : ScreenNo) : State := ((s.callReached n).startReached n).holdReached n

/-- A one-second event (R145): the count, the second notice to the duty unit (R169), and the scheduler's checks. -/
def State.oneSecond (s : State) : State :=
  allScreens.foldl State.checkInstants (State.markOverdue { s with clock := s.clock.second })

/-- A mains pulse (R145): the last pulse of a group is a one-second event. -/
def State.mainsPulse (s : State) : State :=
  if groupLength s.pins.msel ≤ s.clock.pulses + 1 then s.oneSecond
  else { s with clock := { s.clock with pulses := s.clock.pulses + 1 } }

/-- MAINS_PULSE (R145). -/
def execMainsPulse (s : State) : Result := event State.mainsPulse s

/-- ONE_SECOND_EVENT (R145): a sender that does not give the single pulses completes the present group with it (log
entry 6). -/
def execOneSecondEvent (s : State) : Result := event State.oneSecond s

/-! ## START_SHOW and STOP_SHOW -/

/-- START_SHOW in WAITING, CALLED and HELD (R154). -/
def startNow (n : ScreenNo) (s : State) : State × Answer :=
  if s.shutterUnit.fireActive then refuse .fire s
  else if s.readiness n = .pass then (s.startShow n, .ok [])
  else
    (if (s.showRec n).state = .waiting then s else s.carbonNotice n, .notReady (s.readiness n))

/-- The projector and the reel of a resume, when check 2 of R155 passes. -/
def State.resumeHolder (s : State) (n : ScreenNo) : Option (ProjNo × Nat) :=
  match (s.screen n).currentReel, s.reelCount n with
  | some r, some c => if r ≤ c then (s.holderOf n r).map fun p => (p, r) else none
  | _, _ => none

/-- Checks 3 to 6 of R155: the first that fails. -/
def State.resumeTest (s : State) (p : ProjNo) (r : Nat) : TestResult :=
  resultOf (failing
    [(.projectorState, decide ((s.projector p).runState = .threaded)),
     (.arc, decide ((s.arc p).state = .burning)),
     (.shutter, s.permit p),
     (.carbon, s.carbonFor p r (s.tracker p).counter)])

/-- START_SHOW in PLAYING with the screen DARK (R155). -/
def resumeShow (n : ScreenNo) (s : State) : State × Answer :=
  if s.shutterUnit.fireActive then refuse .fire s
  else match s.resumeHolder n with
    | none => (s, .notReady (.fail .projectorReel))
    | some (p, r) =>
      match s.resumeTest p r with
      | .pass => ((s.beginOpening n p (some r)).post .scheduler (.resume n r), .ok [])
      | .fail .carbon => (s.tellDuty (.carbonShort p), .notReady (.fail .carbon))
      | x => (s, .notReady x)

/-- The body of START_SHOW (R154, R155). -/
def startRequest (n : ScreenNo) (s : State) : State × Answer :=
  if (s.showRec n).state = .playing then
    if (s.screen n).state = .dark then resumeShow n s else refuse .state s
  else startNow n s

/-- START_SHOW (R154, R155). -/
def execStartShow (st : Station) (t : Byte) (s : State) : Result :=
  serve (.startShow st t) (withTarget (screenOf t) startRequest) s

/-- The body of STOP_SHOW (R156). -/
def stopRequest (n : ScreenNo) (s : State) : State × Answer :=
  if (s.showRec n).state = .playing && (s.screen n).state = .dark then (s.stopShow n, .ok []) else refuse .state s

/-- STOP_SHOW (R156). -/
def execStopShow (st : Station) (t : Byte) (s : State) : Result :=
  serve (.stopShow st t) (withTarget (screenOf t) stopRequest) s

/-! ## Reads -/

/-- READ_SHOW's data (R159, log entry 11). -/
def State.showData (s : State) (n : ScreenNo) : List Byte :=
  let r := s.showRec n
  let b : Int := s.clock.boothSeconds
  byte1 r.state.code ++ opt2 (r.next.map (·.minute)) ++ optSigned4 (r.next.map fun x => x.call - b) ++
    optSigned4 (r.next.map fun x => x.start - b) ++ optSigned4 ((r.next.bind (·.hold)).map fun h => h - b) ++
    byte1 r.readiness.code ++ byte1 (s.readiness n).code ++ byte4 s.clock.boothSeconds ++ byte4 s.timeOfDay ++
    byte4 s.retained.dayOffset ++ flag1 s.clock.unset

/-- READ_SHOW (R159). -/
def execReadShow (st : Station) (t : Byte) (s : State) : Result :=
  serve (.readShow st t) (withTarget (screenOf t) fun n s => (s, .ok (s.showData n))) s

/-- An entry of the duty list in a reply (Table 63). -/
def DutyEntry.data (e : DutyEntry) (b : Nat) : List Byte :=
  byte1 e.key.code.1 ++ byte1 e.key.code.2 ++ opt1 e.reel ++ byte4 e.due ++ flag1 e.overdue ++
    signed4 ((e.due : Int) - (b : Int))

/-- Index 0 of the duty list (R170). -/
def State.dutySummary (s : State) : List Byte :=
  byte1 s.duty.length ++ byte1 (s.duty.filter (·.overdue)).length ++ byte4 s.clock.boothSeconds

/-- The body of READ_DUTY (R170): the target is the index. -/
def readDuty (index : Byte) (s : State) : State × Answer :=
  if index = 0 then (s, .ok s.dutySummary)
  else match s.duty[index.toNat - 1]? with
    | none => refuse .range s
    | some e => (s, .ok (e.data s.clock.boothSeconds))

/-- READ_DUTY (R170). -/
def execReadDuty (st : Station) (index : Byte) (s : State) : Result := serve (.readDuty st index) (readDuty index) s

end Sys2Proof.Machine
end

