-- ==== Sys2Proof/Machine/Shutters.lean ====
section
/-! DEFINITION. The commands of the shutter unit: its reads, the drop map, the fire loop, the drop button, gate heat, home
switches, and the arming of a shutter. -/

namespace Sys2Proof.Machine

/-! ## Reads -/

/-- A mask of eight members in one byte. -/
def projectorMask (v : ByProj Bool) : List Byte := byte1 (maskOf allProjectors ProjNo.code v.get).toNat

/-- A mask of shutters in two bytes (R192). -/
def shutterMask (v : ShutterSet) : Half := maskOf allShutters ShutterNo.code v.get

/-- A cause set in five bytes (Table 63). -/
def CauseSet.data (c : CauseSet) : List Byte :=
  byte1 (c.power.toNat + 2 * c.fire.toNat + 4 * c.manual.toNat) ++ projectorMask c.breaks ++ projectorMask c.heats ++
    mask2 (shutterMask c.links)

/-- The code of a field that R105 lists by its two levels: 1 for the first it names, and 2 for the other (R192). So ENERGISED
is 1 and RELEASED 2, the home switch's CLOSED 1 and OPEN 2, and the drop button's OPEN 1 and CLOSED 2. -/
def levelCode (first : Bool) : Nat := if first then 1 else 2

/-- READ_SHUTTER's data (Table 63). -/
def State.shutterData (s : State) (i : ShutterNo) : List Byte :=
  let r := s.shutter i
  byte1 r.state.code ++ r.causes.data ++ byte1 r.lastDrop.code.1 ++ byte1 r.lastDrop.code.2 ++
    byte1 (levelCode r.energised) ++ byte1 (levelCode r.homeClosed) ++ opt2 r.armingTimer ++
    flag1 s.shutterUnit.fireActive ++ byte1 (levelCode !s.shutterUnit.buttonClosed)

/-- READ_SHUTTER (R107). -/
def execReadShutter (st : Station) (t : Byte) (s : State) : Result :=
  serve (.readShutter st t) (withTarget (shutterOf t) fun i s => (s, .ok (s.shutterData i))) s

/-- READ_DROP_MAP (R108). -/
def execReadDropMap (st : Station) (t : Byte) (s : State) : Result :=
  serve (.readDropMap st t)
    (withTarget (triggerOf t) fun k s => (s, .ok (mask2 (shutterMask (s.retained.dropMap.entry k))))) s

/-! ## The drop map -/

/-- The shutter that an entry must hold (R108). -/
def TriggerKey.must : TriggerKey → Option ShutterNo
  | .fire | .manual => none
  | .filmBreak p | .heat p => some (.port p)
  | .link i => some i

/-- An entry replaced; FIRE and MANUAL have no changeable entry (R108). -/
def DropMap.put (d : DropMap) (k : TriggerKey) (v : ShutterSet) : DropMap :=
  match k with
  | .fire | .manual => d
  | .filmBreak p => { d with breaks := d.breaks.set p v }
  | .heat p => { d with heats := d.heats.set p v }
  | .link i => { d with links := d.links.set i v }

/-- Checks 2 to 4 of SET_DROP_MAP (R109): the new set when they pass. -/
def newEntry (k : TriggerKey) (mask : Half) : Option ShutterSet :=
  match k.must, shutterSetOf mask with
  | some i, some v => if v.get i then some v else none
  | _, _ => none

/-- The body of SET_DROP_MAP (R109). -/
def setDropMap (mask : Half) (k : TriggerKey) (s : State) : State × Answer :=
  match newEntry k mask with
  | none => refuse .range s
  | some v => ({ s with retained := { s.retained with dropMap := s.retained.dropMap.put k v } }, .ok [])

/-- SET_DROP_MAP (R109). -/
def execSetDropMap (st : Station) (t : Byte) (mask : Half) (s : State) : Result :=
  serve (.setDropMap st t mask) (withTarget (triggerOf t) (setDropMap mask)) s

/-! ## Fire loop, drop button, gate heat, home switches -/

/-- The loop becomes active: its changes alternate, so it is taken while the flag is clear (R113, log entry 16). -/
def State.loopActive (s : State) : State := if s.shutterUnit.fireActive then s else s.fireOn

/-- FIRE_LOOP_ACTIVE (R113). -/
def execFireLoopActive (s : State) : Result := pinEvent (fun q => { q with fireLoop := true }) State.loopActive s

/-- The loop becomes inactive (R114, log entry 16). -/
def State.loopInactive (s : State) : State := if s.shutterUnit.fireActive then s.fireOff else s

/-- FIRE_LOOP_INACTIVE (R114). -/
def execFireLoopInactive (s : State) : Result := pinEvent (fun q => { q with fireLoop := false }) State.loopInactive s

def State.setButton (s : State) (closed : Bool) : State :=
  { s with shutterUnit := { s.shutterUnit with buttonClosed := closed } }

/-- DROP_BUTTON_CLOSE: the MANUAL trigger (R115). -/
def execDropButtonClose (s : State) : Result :=
  pinEvent (fun q => { q with dropButton := true }) (fun s => (s.setButton true).trigger .manual) s

/-- DROP_BUTTON_OPEN: only the level is recorded (R115). -/
def execDropButtonOpen (s : State) : Result :=
  pinEvent (fun q => { q with dropButton := false }) (fun s => s.setButton false) s

/-- DROP_ALL: the MANUAL trigger (R115). -/
def execDropAll (st : Station) (t : Byte) (s : State) : Result :=
  serve (.dropAll st t) (withTarget (noTarget t) fun _ s => (s.trigger .manual, .ok [])) s

/-- The body of RELEASE_MANUAL (R116). -/
def releaseManual (_ : Unit) (s : State) : State × Answer :=
  if s.shutterUnit.buttonClosed then refuse .causeActive s else (s.clearCause .manual, .ok [])

/-- RELEASE_MANUAL (R116). -/
def execReleaseManual (st : Station) (t : Byte) (s : State) : Result :=
  serve (.releaseManual st t) (withTarget (noTarget t) releaseManual) s

/-- A gate heat line has changed to a level (R118). -/
def State.heatChange (s : State) (p : ProjNo) (active : Bool) : State :=
  if active then s.trigger (.heat p) else s.clearCause (.heat p)

/-- GATE_HEAT_CHANGE (R118). A line that has the level already has not changed (log entry 16). -/
def execGateHeatChange (p : ProjNo) (active : Bool) (s : State) : Result :=
  pinEvent (fun q => { q with gateHeat := q.gateHeat.set p active })
    (fun t => if s.pins.gateHeat.get p = active then t else t.heatChange p active) s

/-- HOME_SWITCH_CHANGE (R119, R122). A switch that has the recorded level has not changed (log entry 16). -/
def execHomeSwitchChange (i : ShutterNo) (closed : Bool) (s : State) : Result :=
  pinEvent (fun q => { q with home := q.home.set i closed })
    (fun t => if (t.shutter i).homeClosed = closed then t else t.homeChange i closed) s

/-! ## Links and arming -/

/-- CLEAR_LINK (R120). -/
def execClearLink (st : Station) (t : Byte) (s : State) : Result :=
  serve (.clearLink st t) (withTarget (shutterOf t) fun i s => (s.clearCause (.link i), .ok [])) s

/-- A shutter that begins to arm (R121). -/
def Shutter.arm (r : Shutter) : Shutter :=
  { r with causes := .empty, energised := true, armingTimer := some 30000, state := .arming }

/-- The body of REARM, checked in the order of R121. -/
def rearm (i : ShutterNo) (s : State) : State × Answer :=
  let r := s.shutter i
  if r.state ≠ .dropped then refuse .state s
  else if !r.causes.onlyPower then refuse .causeActive s
  else (s.setShutter i r.arm, .ok [])

/-- REARM (R121). -/
def execRearm (st : Station) (t : Byte) (s : State) : Result :=
  serve (.rearm st t) (withTarget (shutterOf t) rearm) s

/-- A shutter whose arming has run out (R123). -/
def Shutter.timedOut (r : Shutter) : Shutter :=
  { r with energised := false, state := .dropped, armingTimer := none }

/-- The arming timer runs out in ARMING (R123). -/
def State.armingExpiry (s : State) (i : ShutterNo) : State :=
  let r := s.shutter i
  if r.state = .arming && r.armingTimer.isSome then
    ((s.setShutter i r.timedOut).tellDuty (.dropped i)).post .shutterUnit (.armTimeout i)
  else s

/-- ARMING_TIMER_EXPIRY (R123). -/
def execArmingTimerExpiry (i : ShutterNo) (s : State) : Result := event (fun s => s.armingExpiry i) s

end Sys2Proof.Machine
end

