-- ==== Sys2Proof/Machine/Trackers.lean ====
section
/-! DEFINITION. The commands of the footage and cue trackers: SPROCKET_PULSE, CUE_MARK_PULSE, the two timers, READ_TRACKER and
SET_CUE_POLICY. -/

namespace Sys2Proof.Machine

/-! ## Counting and the speed judge -/

/-- A counted pulse raises the counter, which saturates (R41). -/
def Tracker.count (t : Tracker) : Tracker := { t with counter := min 65535 (t.counter + 1), stallTimer := some 500 }

/-- In band (R43). -/
def isInBand (interval : Nat) : Bool := decide (400 ≤ interval) && decide (interval ≤ 434)

/-- The speed judge takes an interval (R43); the flag that comes with the record says that the at-speed notice is sent. -/
def Tracker.judge (t : Tracker) (interval : Nat) : Tracker × Bool :=
  if t.atSpeed then
    if isInBand interval then ({ t with outBand := 0 }, false)
    else if t.outBand + 1 < 3 then ({ t with outBand := t.outBand + 1 }, false)
    else ({ t with atSpeed := false, inBand := 0, outBand := 0 }, false)
  else if isInBand interval then
    if t.inBand + 1 < 12 then ({ t with inBand := t.inBand + 1 }, false)
    else ({ t with atSpeed := true, inBand := 0, startTimer := none }, true)
  else ({ t with inBand := 0 }, false)

/-- The interval capture (R42): the first counted pulse after the motor comes on gives no interval. -/
def Tracker.capture (t : Tracker) (interval : Nat) : Tracker × Bool :=
  if t.timing then { t with lastInterval := min 65535 interval }.judge (min 65535 interval)
  else ({ t with timing := true }, false)

/-- The at-speed notice at the projector unit (R27) and the sequencer (R64, R70). -/
def State.atSpeedNotice (s : State) (p : ProjNo) : State :=
  if (s.projector p).runState = .starting then
    let s1 := s.setProjector p { s.projector p with runState := .running }
    (s1.onSpeed p).noteArm p.screen
  else s.onSpeed p

/-! ## Frame checks -/

/-- The lead-in notice (R48). -/
def State.leadInCheck (s : State) (p : ProjNo) (c : Nat) : State := if s.leadIn p = c then s.onLeadIn p else s

def CueContext.status (x : CueContext) : CueKind → CueStatus
  | .motor => x.motor
  | .changeover => x.changeover

def CueContext.setStatus (x : CueContext) (k : CueKind) (v : CueStatus) : CueContext :=
  match k with
  | .motor => { x with motor := v }
  | .changeover => { x with changeover := v }

/-- The expected frame of a cue (R49). -/
def Reel.cueFrame (r : Reel) : CueKind → Nat
  | .motor => r.motorCue
  | .changeover => r.changeoverCue

/-- The effective policy (R49). -/
def CueContext.effective (x : CueContext) : Policy := if x.fallenBack then .count else x.policy

/-- The cue notice of a SHOWING projector (R54). -/
def State.cueNotice (s : State) (p : ProjNo) (k : CueKind) (v : CueStatus) : State :=
  if (s.projector p).runState = .showing then
    match k, v with
    | .motor, _ => s.onMotorCue p
    | .changeover, .taken .. => s.onChangeoverCue p
    | .changeover, _ => s
  else s

/-- A cue becomes TAKEN or MISSED. -/
def State.settleCue (s : State) (p : ProjNo) (x : CueContext) (k : CueKind) (v : CueStatus) : State :=
  (s.setTracker p { s.tracker p with context := some (x.setStatus k v) }).cueNotice p k v

/-- The count check of one cue at counter `c` (R50, R51). -/
def State.cueCheck (s : State) (p : ProjNo) (c : Nat) (k : CueKind) : State :=
  match (s.tracker p).context, s.loadedRecord p with
  | some x, some r =>
    if x.status k = .pending then
      if x.effective = .mark then
        if c = r.cueFrame k + x.window + 1 then
          (s.post (.tracker p) (.missed p k)).settleCue p x k .missed
        else s
      else if c = r.cueFrame k then s.settleCue p x k (.taken c .count)
      else s
    else s
  | _, _ => s

/-- The anchor notices of a frame (R56, R132). -/
def State.anchorCheck (s : State) (p : ProjNo) (c : Nat) : State :=
  match (s.projector p).runState, (s.projector p).loaded with
  | .showing, some r => s.fireWhere p.screen fun x => x.reelFrame r fun f => decide (f = c)
  | _, _ => s

/-- The picture-end notice (R55). -/
def State.endCheck (s : State) (p : ProjNo) (c : Nat) : State :=
  match (s.projector p).runState, s.loadedRecord p with
  | .showing, some r => if r.pictureEnd = c then s.onPictureEnd p else s
  | _, _ => s

/-- The runout-limit notice (R47). -/
def State.limitCheck (s : State) (p : ProjNo) (c : Nat) : State :=
  match (s.projector p).runState, s.loadedRecord p with
  | .runout, some r => if r.pictureEnd + 320 = c then s.emptyRun p else s
  | _, _ => s

/-- The frame checks of a counted pulse, in the order of R57. -/
def State.frameChecks (s : State) (p : ProjNo) (c : Nat) : State :=
  let s1 := s.leadInCheck p c
  let s2 := (s1.cueCheck p c .motor).cueCheck p c .changeover
  ((s2.anchorCheck p c).endCheck p c).limitCheck p c

/-- A sprocket pulse (R41): outside the motor states it changes no field. -/
def State.sprocket (s : State) (p : ProjNo) (interval : Nat) : State :=
  if (s.projector p).runState.motor then
    let t := ((s.tracker p).count).capture interval
    let s1 := s.setTracker p t.1
    let s2 := s1.setRunMarks p { s.runMarks p with counter := t.1.counter }
    let s3 := if t.2 then s2.atSpeedNotice p else s2
    s3.frameChecks p t.1.counter
  else s

/-- SPROCKET_PULSE (R41). -/
def execSprocketPulse (p : ProjNo) (interval : Nat) (s : State) : Result := event (fun s => s.sprocket p interval) s

/-! ## Cue marks -/

/-- `c` lies within `w` frames of `e`. -/
def within (c e w : Nat) : Bool := decide (e ≤ c + w) && decide (c ≤ e + w)

/-- What a mark does to a context (Table 18). -/
inductive MarkOutcome where
  | take (k : CueKind)
  | ignore
  | stray
  deriving DecidableEq, Repr

/-- Judging a cue mark at counter `c` (R52, Table 18). -/
def CueContext.judgeMark (x : CueContext) (r : Reel) (c : Nat) : MarkOutcome :=
  if x.motor = .pending && within c r.motorCue x.window then .take .motor
  else if x.changeover = .pending && x.motor.settled && within c r.changeoverCue x.window then .take .changeover
  else if (x.motor.isTaken && within c r.motorCue x.window) ||
      (x.changeover.isTaken && within c r.changeoverCue x.window) then .ignore
  else .stray

/-- A due PENDING cue taken at a fallback (R53). -/
def State.fallbackCue (s : State) (p : ProjNo) (r : Reel) (k : CueKind) : State :=
  match (s.tracker p).context with
  | some x =>
    if x.status k = .pending && decide (r.cueFrame k ≤ (s.tracker p).counter) then
      s.settleCue p x k (.taken (s.tracker p).counter .count)
    else s
  | none => s

/-- A stray (R53): the third makes the context fall back. -/
def State.stray (s : State) (p : ProjNo) (x : CueContext) (r : Reel) : State :=
  if x.strays + 1 < 3 then
    s.setTracker p { s.tracker p with context := some { x with strays := x.strays + 1 } }
  else
    let s1 := s.setTracker p { s.tracker p with context := some { x with strays := 3, fallenBack := true } }
    ((s1.fallbackCue p r .motor).fallbackCue p r .changeover).post (.tracker p) (.stray p)

/-- A cue-mark pulse (R52). -/
def State.cueMark (s : State) (p : ProjNo) : State :=
  match (s.tracker p).context, s.loadedRecord p with
  | some x, some r =>
    if (s.projector p).runState.motor && x.effective ≠ .count then
      match x.judgeMark r (s.tracker p).counter with
      | .take k => s.settleCue p x k (.taken (s.tracker p).counter .mark)
      | .ignore => s
      | .stray => s.stray p x r
    else s
  | _, _ => s

/-- CUE_MARK_PULSE (R52). -/
def execCueMarkPulse (p : ProjNo) (s : State) : Result := event (fun s => s.cueMark p) s

/-! ## Timers -/

/-- The start-failure timer runs out (R45). -/
def State.startFailure (s : State) (p : ProjNo) : State :=
  if (s.tracker p).startTimer.isSome then
    let s1 := s.setTracker p { s.tracker p with startTimer := none }
    if (s.projector p).runState = .starting then s1.haltEvent p .startFail else s1
  else s

/-- START_FAILURE_TIMER_EXPIRY (R45). -/
def execStartFailureTimerExpiry (p : ProjNo) (s : State) : Result := event (fun s => s.startFailure p) s

/-- The stall timer runs out (R46). -/
def State.stallExpiry (s : State) (p : ProjNo) : State :=
  if (s.tracker p).stallTimer.isSome then
    (s.setTracker p { s.tracker p with stallTimer := none }).haltEvent p .stall
  else s

/-- STALL_TIMER_EXPIRY (R46). -/
def execStallTimerExpiry (p : ProjNo) (s : State) : Result := event (fun s => s.stallExpiry p) s

/-! ## Requests -/

/-- A cue status in a reply: its code, the frame and the source (R49, R192). -/
def CueStatus.data : CueStatus → List Byte
  | .pending => [0x01, 0xFF, 0xFF, 0xFF]
  | .taken f src => [0x02] ++ byte2 f ++ byte1 src.code
  | .missed => [0x03, 0xFF, 0xFF, 0xFF]

def contextData : Option CueContext → List Byte
  | none => List.replicate 12 0xFF
  | some x =>
    byte1 x.policy.code ++ byte1 x.window ++ x.motor.data ++ x.changeover.data ++ byte1 x.strays ++ flag1 x.fallenBack

/-- The expected frames, picture end and lead-in of a bound context (R58). -/
def boundData : Option Reel → List Byte
  | none => List.replicate 8 0xFF
  | some r => byte2 r.motorCue ++ byte2 r.changeoverCue ++ byte2 r.pictureEnd ++ byte2 (r.leadIn.getD 192)

/-- READ_TRACKER's data (R58, log entry 11). -/
def State.trackerData (s : State) (p : ProjNo) : List Byte :=
  let t := s.tracker p
  let q := s.retained.cuePolicy.get p.screen
  byte2 t.counter ++ byte2 t.lastInterval ++ byte1 t.inBand ++ byte1 t.outBand ++ flag1 t.atSpeed ++
    opt2 t.startTimer ++ opt2 t.stallTimer ++ contextData t.context ++
    boundData (if t.context.isSome then s.loadedRecord p else none) ++ byte1 q.policy.code ++ byte1 q.window

/-- READ_TRACKER (R58). -/
def execReadTracker (st : Station) (t : Byte) (s : State) : Result :=
  serve (.readTracker st t) (withTarget (projOf t) fun p s => (s, .ok (s.trackerData p))) s

/-- The policy and window of SET_CUE_POLICY, when both are in range (R58). -/
def cuePolicyOf (policy window : Byte) : Option CuePolicy := do
  let q ← named [.mark, .count, .either] Policy.code policy
  let w ← inRange 0 240 window.toNat
  return ⟨q, w⟩

/-- The body of SET_CUE_POLICY (R58). -/
def setCuePolicy (policy window : Byte) (n : ScreenNo) (s : State) : State × Answer :=
  match cuePolicyOf policy window with
  | none => refuse .range s
  | some q => ({ s with retained := { s.retained with cuePolicy := s.retained.cuePolicy.set n q } }, .ok [])

/-- SET_CUE_POLICY (R58). -/
def execSetCuePolicy (st : Station) (t policy window : Byte) (s : State) : Result :=
  serve (.setCuePolicy st t policy window) (withTarget (screenOf t) (setCuePolicy policy window)) s

end Sys2Proof.Machine
end

