-- ==== Sys2Proof/Machine/Dispatch.lean ====
section
/-! DEFINITION. The meaning of each command: one arm for each constructor of Instr, in the order of the table. -/

namespace Sys2Proof.Machine

def exec (i : Instr) (s : State) : Host.Outcome State Fault Refusal :=
  match i with
  | .powerOnReset => Sys2Proof.Machine.execPowerOnReset s
  | .readBanks st target => Sys2Proof.Machine.execReadBanks st target s
  | .readBankItem st target selector index => Sys2Proof.Machine.execReadBankItem st target selector index s
  | .writeHeader st target title firstSide reelCount => Sys2Proof.Machine.execWriteHeader st target title firstSide reelCount s
  | .writeReel st target index leadIn motorCue changeoverCue pictureEnd noMarks label => Sys2Proof.Machine.execWriteReel st target index leadIn motorCue changeoverCue pictureEnd noMarks label s
  | .writeCue st target anchor reel frame scene fade curtain => Sys2Proof.Machine.execWriteCue st target anchor reel frame scene fade curtain s
  | .deleteCue st target index => Sys2Proof.Machine.execDeleteCue st target index s
  | .commitBank st target => Sys2Proof.Machine.execCommitBank st target s
  | .reopenBank st target => Sys2Proof.Machine.execReopenBank st target s
  | .rotate st target => Sys2Proof.Machine.execRotate st target s
  | .clearComplete => Sys2Proof.Machine.execClearComplete s
  | .readProjector st target => Sys2Proof.Machine.execReadProjector st target s
  | .clearProjector st target => Sys2Proof.Machine.execClearProjector st target s
  | .stopProjector st target => Sys2Proof.Machine.execStopProjector st target s
  | .threadedSwitchClose p => Sys2Proof.Machine.execThreadedSwitchClose p s
  | .loopLost p => Sys2Proof.Machine.execLoopLost p s
  | .douserOpenSwitchClose p => Sys2Proof.Machine.execDouserOpenSwitchClose p s
  | .douserClosedSwitchClose p => Sys2Proof.Machine.execDouserClosedSwitchClose p s
  | .sprocketPulse p interval => Sys2Proof.Machine.execSprocketPulse p interval s
  | .cueMarkPulse p => Sys2Proof.Machine.execCueMarkPulse p s
  | .startFailureTimerExpiry p => Sys2Proof.Machine.execStartFailureTimerExpiry p s
  | .stallTimerExpiry p => Sys2Proof.Machine.execStallTimerExpiry p s
  | .readTracker st target => Sys2Proof.Machine.execReadTracker st target s
  | .setCuePolicy st target policy window => Sys2Proof.Machine.execSetCuePolicy st target policy window s
  | .confirmationTimerExpiry screen => Sys2Proof.Machine.execConfirmationTimerExpiry screen s
  | .closeWatchExpiry screen => Sys2Proof.Machine.execCloseWatchExpiry screen s
  | .readScreen st target => Sys2Proof.Machine.execReadScreen st target s
  | .changeNow st target => Sys2Proof.Machine.execChangeNow st target s
  | .setMonitor st target selection => Sys2Proof.Machine.execSetMonitor st target selection s
  | .silence st target => Sys2Proof.Machine.execSilence st target s
  | .bellCadence => Sys2Proof.Machine.execBellCadence s
  | .readArc st target => Sys2Proof.Machine.execReadArc st target s
  | .strike st target => Sys2Proof.Machine.execStrike st target s
  | .touchTimerExpiry p => Sys2Proof.Machine.execTouchTimerExpiry p s
  | .proofTimerExpiry p => Sys2Proof.Machine.execProofTimerExpiry p s
  | .pauseTimerExpiry p => Sys2Proof.Machine.execPauseTimerExpiry p s
  | .arcPresentReport p => Sys2Proof.Machine.execArcPresentReport p s
  | .arcReportCeases p => Sys2Proof.Machine.execArcReportCeases p s
  | .lossTimerExpiry p => Sys2Proof.Machine.execLossTimerExpiry p s
  | .extinguish st target => Sys2Proof.Machine.execExtinguish st target s
  | .craterContactChange p contact closed => Sys2Proof.Machine.execCraterContactChange p contact closed s
  | .feedHighPhaseEnd p => Sys2Proof.Machine.execFeedHighPhaseEnd p s
  | .feedLowPhaseEnd p => Sys2Proof.Machine.execFeedLowPhaseEnd p s
  | .retrimDone st target trimLength => Sys2Proof.Machine.execRetrimDone st target trimLength s
  | .setArc st target reserve defaultRate highWidth lowWidth => Sys2Proof.Machine.execSetArc st target reserve defaultRate highWidth lowWidth s
  | .readShutter st target => Sys2Proof.Machine.execReadShutter st target s
  | .readDropMap st target => Sys2Proof.Machine.execReadDropMap st target s
  | .setDropMap st target shutters => Sys2Proof.Machine.execSetDropMap st target shutters s
  | .fireLoopActive => Sys2Proof.Machine.execFireLoopActive s
  | .fireLoopInactive => Sys2Proof.Machine.execFireLoopInactive s
  | .dropButtonClose => Sys2Proof.Machine.execDropButtonClose s
  | .dropButtonOpen => Sys2Proof.Machine.execDropButtonOpen s
  | .dropAll st target => Sys2Proof.Machine.execDropAll st target s
  | .releaseManual st target => Sys2Proof.Machine.execReleaseManual st target s
  | .gateHeatChange p active => Sys2Proof.Machine.execGateHeatChange p active s
  | .homeSwitchChange shutter closed => Sys2Proof.Machine.execHomeSwitchChange shutter closed s
  | .clearLink st target => Sys2Proof.Machine.execClearLink st target s
  | .rearm st target => Sys2Proof.Machine.execRearm st target s
  | .armingTimerExpiry shutter => Sys2Proof.Machine.execArmingTimerExpiry shutter s
  | .setLevel st target level fade => Sys2Proof.Machine.execSetLevel st target level fade s
  | .fadeAdvance channel => Sys2Proof.Machine.execFadeAdvance channel s
  | .setScene st target scene main wall step wash => Sys2Proof.Machine.execSetScene st target scene main wall step wash s
  | .recallScene st target scene fade => Sys2Proof.Machine.execRecallScene st target scene fade s
  | .curtain st target action => Sys2Proof.Machine.execCurtain st target action s
  | .limitSwitchChange screen limit closed => Sys2Proof.Machine.execLimitSwitchChange screen limit closed s
  | .travelTimerExpiry screen => Sys2Proof.Machine.execTravelTimerExpiry screen s
  | .setCurtainTime st target seconds => Sys2Proof.Machine.execSetCurtainTime st target seconds s
  | .setStanding st target main wall step wash fade hold => Sys2Proof.Machine.execSetStanding st target main wall step wash fade hold s
  | .deleteStanding st target => Sys2Proof.Machine.execDeleteStanding st target s
  | .releaseHold st target => Sys2Proof.Machine.execReleaseHold st target s
  | .readHouse st target => Sys2Proof.Machine.execReadHouse st target s
  | .readScene st target scene => Sys2Proof.Machine.execReadScene st target scene s
  | .readStanding st target => Sys2Proof.Machine.execReadStanding st target s
  | .mainsPulse => Sys2Proof.Machine.execMainsPulse s
  | .oneSecondEvent => Sys2Proof.Machine.execOneSecondEvent s
  | .setClock st target timeOfDay => Sys2Proof.Machine.execSetClock st target timeOfDay s
  | .setStarts st target times => Sys2Proof.Machine.execSetStarts st target times s
  | .callInstant screen => Sys2Proof.Machine.execCallInstant screen s
  | .startInstant screen => Sys2Proof.Machine.execStartInstant screen s
  | .holdLimit screen => Sys2Proof.Machine.execHoldLimit screen s
  | .startShow st target => Sys2Proof.Machine.execStartShow st target s
  | .stopShow st target => Sys2Proof.Machine.execStopShow st target s
  | .readShow st target => Sys2Proof.Machine.execReadShow st target s
  | .readDuty st target => Sys2Proof.Machine.execReadDuty st target s
  | .receiveCharacter st data parityBit stopBit => Sys2Proof.Machine.execReceiveCharacter st data parityBit stopBit s
  | .gapTimerExpiry st => Sys2Proof.Machine.execGapTimerExpiry st s
  | .replyComplete st => Sys2Proof.Machine.execReplyComplete st s
  | .lineBreakReset st => Sys2Proof.Machine.execLineBreakReset st s
  | .setLine st target mode => Sys2Proof.Machine.execSetLine st target mode s
  | .readStatus st target => Sys2Proof.Machine.execReadStatus st target s
  | .armAttention st target classes => Sys2Proof.Machine.execArmAttention st target classes s
  | .readAttention st target => Sys2Proof.Machine.execReadAttention st target s
  | .rxdLevelChange st level => Sys2Proof.Machine.execRxdLevelChange st level s
  | .mainPowerLoss => Sys2Proof.Machine.execMainPowerLoss s
  | .standbySupplyLoss => Sys2Proof.Machine.execStandbySupplyLoss s

end Sys2Proof.Machine
end

