-- ==== Sys2Proof/Machine/Tick.lean ====
section
/-! DEFINITION. One millisecond of the crystal (log entry 2): every running timer comes nearer to its end. The end itself is a
command of the table. -/

namespace Sys2Proof.Machine

/-- The time left of an optional timer, a millisecond later. -/
def countDown (t : Option Nat) : Option Nat := t.map fun n => n - 1

def NamedTimer.tick (t : NamedTimer) : NamedTimer := { t with left := t.left - 1 }

def PhaseTimer.tick (t : PhaseTimer) : PhaseTimer := { t with left := t.left - 1 }

def FeedTrain.tick : FeedTrain → FeedTrain
  | .idle => .idle
  | .high h l left => .high h l (left - 1)
  | .low h l left => .low h l (left - 1)

def Tracker.tick (t : Tracker) : Tracker :=
  { t with startTimer := countDown t.startTimer, stallTimer := countDown t.stallTimer }

def Screen.tick (r : Screen) : Screen :=
  { r with confirmTimer := r.confirmTimer.map NamedTimer.tick, closeWatch := r.closeWatch.map NamedTimer.tick }

def Bell.tick (b : Bell) : Bell := { b with cadenceLeft := countDown b.cadenceLeft }

def Arc.tick (a : Arc) : Arc :=
  { a with phase := a.phase.map PhaseTimer.tick, lossTimer := countDown a.lossTimer, train := a.train.tick }

def Shutter.tick (r : Shutter) : Shutter := { r with armingTimer := countDown r.armingTimer }

def Fade.tick (f : Fade) : Fade := { f with advanceLeft := f.advanceLeft - 1 }

def Channel.tick (c : Channel) : Channel := { c with fade := c.fade.map Fade.tick }

def Curtain.tick (c : Curtain) : Curtain := { c with timer := countDown c.timer }

def Collection.tick (c : Collection) : Collection := { c with gapLeft := c.gapLeft - 1 }

def Link.tick (l : Link) : Link :=
  { l with collection := l.collection.map Collection.tick, breakTimer := countDown l.breakTimer }

/-- A millisecond of a part that has main power; without it no timer runs. -/
def State.tick (s : State) : State :=
  if s.powered then
    { s with
      bankUnit := { s.bankUnit with clearLeft := countDown s.bankUnit.clearLeft }
      trackers := s.trackers.map Tracker.tick
      screens := s.screens.map Screen.tick
      booth := { s.booth with bell := s.booth.bell.tick }
      arcs := s.arcs.map Arc.tick
      shutterUnit := { s.shutterUnit with shutters := s.shutterUnit.shutters.map Shutter.tick }
      house :=
        { s.house with
          channels := s.house.channels.map fun v => v.map Channel.tick
          curtains := s.house.curtains.map Curtain.tick }
      links := s.links.map Link.tick }
  else s

end Sys2Proof.Machine
end

