-- ==== Sys2Proof/Safety.lean ====
section
/-! DEFINITION. What a sound state of the booth controller looks like, block by block, and the words in which the statements
about single commands are made. -/

namespace Sys2Proof

/-! ## Which commands can change a part of the state -/

/-- The commands that can change a bank, the clear queue or a rotation-pending flag. -/
def Instr.writesBanks : Instr → Bool
  | .writeHeader .. | .writeReel .. | .writeCue .. | .deleteCue .. | .commitBank .. | .reopenBank .. | .rotate ..
  | .clearComplete | .setStarts .. | .sprocketPulse .. | .douserOpenSwitchClose _ | .powerOnReset | .mainPowerLoss => true
  | _ => false

/-- The commands that can change a shutter record, the fire-active flag or the button level. -/
def Instr.writesShutters : Instr → Bool
  | .dropButtonClose | .dropButtonOpen | .dropAll .. | .releaseManual .. | .clearLink .. | .rearm ..
  | .armingTimerExpiry _ | .fireLoopActive | .fireLoopInactive | .gateHeatChange .. | .homeSwitchChange .. | .loopLost _
  | .threadedSwitchClose _ | .clearProjector .. | .rotate .. | .clearComplete | .sprocketPulse ..
  | .douserOpenSwitchClose _ | .powerOnReset | .mainPowerLoss => true
  | _ => false

/-- The commands that can change an input level, a supply, the clock, a setting, the power-restored flag, or a link other than
by a reply. -/
def Instr.writesSettings : Instr → Bool
  | .powerOnReset | .mainPowerLoss | .standbySupplyLoss | .mainsPulse | .oneSecondEvent | .setClock .. | .setCuePolicy ..
  | .setMonitor .. | .setDropMap .. | .setScene .. | .setStanding .. | .deleteStanding .. | .setCurtainTime ..
  | .readStatus .. | .receiveCharacter .. | .gapTimerExpiry _ | .replyComplete _ | .lineBreakReset _ | .rxdLevelChange ..
  | .arcPresentReport _ | .arcReportCeases _ | .craterContactChange .. | .fireLoopActive | .fireLoopInactive
  | .dropButtonClose | .dropButtonOpen | .gateHeatChange .. | .homeSwitchChange .. | .limitSwitchChange .. => true
  | _ => false

end Sys2Proof

namespace Sys2Proof.Machine

/-! ## Words of the statements -/

/-- A part with main power, between two steps. -/
structure State.Awake (s : State) : Prop where
  powered : s.powered = true
  work : s.work = .empty

/-- A part with main power, between two steps, with a station's link IDLE (Table 52) and its line at mark. -/
structure State.Ready (s : State) (st : Station) : Prop extends s.Awake where
  idle : (s.link st).state = .idle
  collection : (s.link st).collection = none
  outstanding : (s.link st).outstanding = none
  mark : (s.link st).awaitMark = false

/-- Request `c`, sent in state `s`, leaves the records of `s'`, and its answer `a` is being sent to its station (R179). -/
def Answers (c : Instr) (s s' : State) (a : Answer) : Prop :=
  ∃ st r, encodeRequest c = some (st, r) ∧ exec c s = .next (s'.reply st r a)

/-- Request `c` is refused with a status: the records are left as they were (R179). -/
def Refuses (c : Instr) (s : State) (e : Status) : Prop := Answers c s s ⟨e, []⟩

/-- Command `c` takes `s` to a state with a property. -/
def Leads (c : Instr) (s : State) (post : State → Prop) : Prop := ∃ t, exec c s = .next t ∧ post t

/-- The answer that a link is sending. -/
def State.Sends (t : State) (c : Instr) (a : Answer) : Prop :=
  ∃ st r, encodeRequest c = some (st, r) ∧ (t.link st).state = .replying ∧
    (t.link st).reply = some (replyFrame r.code r.target a)

/-- The cause set of a shutter after a trigger, and its other fields (R110). -/
def State.triggered (s : State) (k : TriggerKey) : ByShutter Shutter :=
  .ofFn fun i => if (s.retained.dropMap.entry k).get i then (s.shutter i).addCause k.cause else s.shutter i

/-- A cause offered to every record (R185). -/
def State.offered (s : State) (c : AttnCause) : ByStation Attention := s.attention.map fun a => a.offer c

/-- From `s` to `t` every record has been offered cause `a`, and no other cause of its class (R185). -/
def State.Heard (s t : State) (a : AttnCause) : Prop :=
  ∀ st, (t.attn st).pending.get a.cls = ((s.attn st).offer a).pending.get a.cls

/-- From `s` to `t` every record has been offered two causes of one class that different blocks have posted, in either order
(R186), and no other cause of the class. -/
def State.HeardBoth (s t : State) (a b : AttnCause) : Prop :=
  ∀ st, (t.attn st).pending.get a.cls = (((s.attn st).offer a).offer b).pending.get a.cls ∨
    (t.attn st).pending.get a.cls = (((s.attn st).offer b).offer a).pending.get a.cls

/-- A channel after the standing action of a key with an entry (R140, R141). -/
def Channel.stood (c : Channel) (k : StandingKey) (e : StandingEntry) (level : Option Nat) : Channel :=
  match level with
  | none => c
  | some l => if k.takes c.holder then { c.startFade l e.fade with holder := if e.hold then some k else none } else c

/-- The state that a show comes to when it is armed from its start list (R149, R150). -/
def State.armedState (s : State) (n : ScreenNo) : ShowState :=
  match s.chosenStart n with
  | some x => if x.call ≤ s.clock.boothSeconds then .called else .waiting
  | none => .waiting

/-! ## Parts of a state -/

/-- The part of the state that only the supplies, the links, the clock and the setting requests change. -/
structure Fixed where
  powered : Bool
  pins : Pins
  pending : List Instr
  links : ByStation Link
  clock : Clock
  powerRestored : Bool
  markerValid : Bool
  cuePolicy : ByScreen CuePolicy
  monitor : Monitor
  dropMap : DropMap
  scenes : ByScreen (Vector Levels 8)
  standing : StandingTable
  travelTime : ByScreen Nat
  dayOffset : Nat

def State.fixed (s : State) : Fixed :=
  ⟨s.powered, s.pins, s.pending, s.links, s.clock, s.powerRestored, s.retained.markerValid, s.retained.cuePolicy,
    s.retained.monitor, s.retained.dropMap, s.retained.scenes, s.retained.standing, s.retained.travelTime,
    s.retained.dayOffset⟩

/-- The banks with the clear queue and the rotation-pending flags. -/
structure BankView where
  banks : ByScreen (ByBank Bank)
  rotationPending : ByScreen Bool
  unit : BankUnit
  deriving DecidableEq, Repr

def State.bankView (s : State) : BankView := ⟨s.retained.banks, s.retained.rotationPending, s.bankUnit⟩

/-- What no operation below the requests changes, but for a rotation, a trigger, and the end of a step. -/
structure Calm where
  fixed : Fixed
  duty : List DutyEntry
  attention : ByStation Attention
  banks : BankView
  shutterUnit : ShutterUnit

def State.calm (s : State) : Calm := ⟨s.fixed, s.duty, s.attention, s.bankView, s.shutterUnit⟩

/-! ## Sound states -/

/-- R1, R13, R17, R18: each role once in each screen, only SPARE in CLEARING; and while main power lasts the clear queue
holds exactly the banks in CLEARING, each once, with a clear in progress while it holds any. -/
structure State.BanksSound (s : State) : Prop where
  roles : ∀ n b c, (s.bank n b).role = (s.bank n c).role → b = c
  spare : ∀ n b, (s.bank n b).state = .clearing → (s.bank n b).role = .spare
  queued : s.powered = true → ∀ n b, (⟨n, b⟩ : BankRef) ∈ s.bankUnit.queue ↔ (s.bank n b).state = .clearing
  once : s.powered = true → s.bankUnit.queue.Nodup
  clearing : s.powered = true → (s.bankUnit.clearLeft.isSome ↔ s.bankUnit.queue ≠ [])

/-- R21, R23, R28, R29, R32, R39, R44: what a run state says of the other fields of a projector, of its timers and of its run
marks; at most one projector of a screen is SHOWING, and only while its port is UP. -/
structure State.ProjectorsSound (s : State) : Prop where
  film : ∀ p, (s.projector p).runState = .empty ↔ (s.projector p).loaded = none
  halted : ∀ p, (s.projector p).runState = .halted ↔ (s.projector p).haltCause ≠ none
  assigned : ∀ p, (s.projector p).assigned ≠ none → (s.projector p).runState = .empty
  open_ : ∀ p, (s.projector p).douser = .opened → (s.projector p).runState = .running ∨ (s.projector p).runState = .showing
  still : ∀ p, (s.projector p).runState.motor = false →
    (s.tracker p).startTimer = none ∧ (s.tracker p).stallTimer = none ∧ (s.tracker p).atSpeed = false
  marks : ∀ p, (s.runMarks p).filmOn = (s.runMarks p).reel.isSome ∧ ((s.runMarks p).filmOn = false → (s.runMarks p).counter = 0)
  single : ∀ p, (s.projector p).runState = .showing → (s.projector p.other).runState ≠ .showing
  port : ∀ p, (s.projector p).runState = .showing → (s.shutter (.port p)).state = .up
  kept : s.powered = true → ∀ p, (s.runMarks p).reel = (s.projector p).loaded ∧
    (s.runMarks p).counter = (s.tracker p).counter

/-- R105, R106, Table 33: an UP or ARMING shutter has an empty cause set, the solenoid is energised outside DROPPED, and the
arming timer runs in ARMING. -/
structure State.ShuttersSound (s : State) : Prop where
  causes : ∀ i, (s.shutter i).state ≠ .dropped → (s.shutter i).causes = .empty
  solenoid : ∀ i, (s.shutter i).energised = true ↔ (s.shutter i).state ≠ .dropped
  timer : ∀ i, (s.shutter i).armingTimer.isSome = true ↔ (s.shutter i).state = .arming

/-- R92, R113: while fire is active no arc is STRIKING or BURNING, and every shutter is DROPPED and holds FIRE. -/
structure State.FireSound (s : State) : Prop where
  arcs : s.shutterUnit.fireActive = true → ∀ p, (s.arc p).state ≠ .striking ∧ (s.arc p).state ≠ .burning
  shutters : s.shutterUnit.fireActive = true → ∀ i, (s.shutter i).state = .dropped ∧ (s.shutter i).causes.fire = true

/-- R84, R96, R97, R99, R100, R102: the carbon account adds up to the trim, the settings and the history stay in range, and while main
power lasts LOW is set exactly at or below the reserve. -/
structure State.CarbonSound (s : State) : Prop where
  account : ∀ p, (s.arcStore p).remaining + (s.arcStore p).stepsSinceTrim = (s.arcStore p).trimLength
  ranges : ∀ p, (s.arcStore p).trimLength ≤ 60000 ∧ (s.arcStore p).reserve ≤ 6000 ∧ 1 ≤ (s.arcStore p).defaultRate ∧
    (s.arcStore p).defaultRate ≤ 500 ∧ 5 ≤ (s.arcStore p).highWidth ∧ (s.arcStore p).highWidth ≤ 250 ∧
    5 ≤ (s.arcStore p).lowWidth ∧ (s.arcStore p).lowWidth ≤ 250
  history : ∀ p, (s.arcStore p).history.length ≤ 3 ∧ ∀ r ∈ (s.arcStore p).history, 1 ≤ r ∧ r ≤ 500
  low : s.powered = true → ∀ p, (s.arc p).low = true ↔ (s.arcStore p).remaining ≤ (s.arcStore p).reserve

/-- R82, R83: LATE is present exactly with the late-motor flag, HELD exactly with a HELD show; the cadence runs exactly while the
bell rings, and the output is off while it does not. -/
structure State.BellSound (s : State) : Prop where
  late : ∀ n, (s.booth.bell.late.get n).isSome = (s.screen n).lateMotor
  held : ∀ n, (s.booth.bell.held.get n).isSome = true ↔ (s.showRec n).state = .held
  cadence : s.booth.bell.cadenceLeft.isSome = s.booth.bell.ringing
  quiet : s.booth.bell.ringing = false → s.booth.bell.output = false

/-- R160, R161, R162: at most sixteen entries, in ascending order of due, each key once. -/
structure DutySound (l : List DutyEntry) : Prop where
  length : l.length ≤ 16
  order : l.Pairwise fun a b => a.due ≤ b.due
  keys : (l.map (·.key)).Nodup

/-- Table 52: what a receive state says of the collection, the outstanding request and the reply. -/
structure Link.Sound (l : Link) : Prop where
  idle : l.state = .idle → l.collection = none ∧ l.outstanding = none
  inFrame : l.state = .inFrame → l.collection ≠ none ∧ l.outstanding = none
  pending : l.state = .pending → l.outstanding ≠ none
  replying : l.state = .replying → l.outstanding ≠ none ∧ l.reply ≠ none
  reply : l.reply ≠ none → l.state = .replying

/-- R135, Table 41: the travel timer runs exactly in OPENING and CLOSING. -/
def Curtain.Sound (c : Curtain) : Prop := c.timer.isSome = true ↔ c.state = .opening ∨ c.state = .closing

/-- R184: no urgent class is armed, and an entry counts 1 to 255 causes of its own class. -/
structure Attention.Sound (a : Attention) : Prop where
  armed : ∀ c, a.armed.get c = true → c.urgent = false
  entries : ∀ c e, a.pending.get c = some e → 1 ≤ e.count ∧ e.count ≤ 255 ∧ e.last.cls = c

/-- Table 21: which fields of a changeover record are present in which state. -/
structure Screen.Sound (r : Screen) : Prop where
  opening : r.opening ≠ none ↔ r.state = .starting
  showing : r.showingSide = none ↔ r.state = .dark ∨ r.state = .starting

end Sys2Proof.Machine
end

