-- ==== Sys2Proof/WellFormed.lean ====
section
/-! DEFINITION. When a command is well formed: the texts of a request have the lengths R2 and R7 give them, and a start
list fits the 56 data bytes of a frame (R191). Every other operand is of the right shape by its type. -/

namespace Sys2Proof

/-- A title has 16 characters (R2), a label 10 (R7), and a SET_STARTS frame at most 28 times (R191). -/
def Instr.wellFormed : Instr → Bool
  | .writeHeader _ _ title _ _ => title.length == 16
  | .writeReel _ _ _ _ _ _ _ _ label => label.length == 10
  | .setStarts _ _ times => decide (times.length ≤ 28)
  | _ => true

end Sys2Proof
end

