-- ==== Sys2Proof/Certificates/Slice0/Obligations.lean ====
section
/-! DEFINITION. The statements for the provers. Each docstring names the rules or the log entry that it rests on. A request
command brings its whole frame to a link that is ready, and is taken in the same step (DESIGN CHOICE, log entry 1); every
statement about a request rests on that. -/

open Sys2Proof Sys2Proof.Machine

/-! ## The block -/

/-- A step takes the command at the front of the queue and is its meaning on the state with the rest of the queue. -/
def Obligations.StepIsExecOfTheFront : Prop :=
  ∀ (c : Instr) (rest : List Instr) (s : State), s.pending = c :: rest → step s = exec c { s with pending := rest }

/-- On an empty queue a step is one millisecond, and it always goes on. With main power every timer that runs comes a
millisecond nearer to its end, and nothing else of the state changes. Without main power nothing changes. DESIGN CHOICE, log
entry 2. -/
def Obligations.EmptyQueueIsAMillisecond : Prop :=
  ∀ s : State, s.pending = [] → ∃ t, step s = .next t ∧ (s.powered = false → t = s) ∧
    (s.powered = true →
      t = { s with
        bankUnit := { s.bankUnit with clearLeft := s.bankUnit.clearLeft.map (· - 1) }
        trackers := t.trackers
        screens := t.screens
        booth := { s.booth with bell := { s.booth.bell with cadenceLeft := s.booth.bell.cadenceLeft.map (· - 1) } }
        arcs := t.arcs
        shutterUnit := { s.shutterUnit with shutters := t.shutterUnit.shutters }
        house := { s.house with channels := t.house.channels, curtains := t.house.curtains }
        links := t.links } ∧
      (∀ p, t.tracker p = { s.tracker p with
        startTimer := (s.tracker p).startTimer.map (· - 1), stallTimer := (s.tracker p).stallTimer.map (· - 1) }) ∧
      (∀ n, t.screen n = { s.screen n with
        confirmTimer := (s.screen n).confirmTimer.map fun x => { x with left := x.left - 1 }
        closeWatch := (s.screen n).closeWatch.map fun x => { x with left := x.left - 1 } }) ∧
      (∀ p, t.arc p = { s.arc p with
        phase := (s.arc p).phase.map fun x => { x with left := x.left - 1 }
        lossTimer := (s.arc p).lossTimer.map (· - 1)
        train := match (s.arc p).train with
          | .idle => .idle
          | .high h l left => .high h l (left - 1)
          | .low h l left => .low h l (left - 1) }) ∧
      (∀ i, t.shutter i = { s.shutter i with armingTimer := (s.shutter i).armingTimer.map (· - 1) }) ∧
      (∀ c, t.channel c = { s.channel c with
        fade := (s.channel c).fade.map fun x => { x with advanceLeft := x.advanceLeft - 1 } }) ∧
      (∀ n, t.curtain n = { s.curtain n with timer := (s.curtain n).timer.map (· - 1) }) ∧
      (∀ st, t.link st = { s.link st with
        collection := (s.link st).collection.map fun x => { x with gapLeft := x.gapLeft - 1 }
        breakTimer := (s.link st).breakTimer.map (· - 1) }))

/-- Every command answers a next state with the queue it was given and nothing left in progress, and no command stops the
part. Without main power nothing but a power-on reset, the losses of the supplies and the input levels changes the state
(DESIGN CHOICE, log entry 8). -/
def Obligations.EveryCommandGoesOn : Prop :=
  ∀ (c : Instr) (s : State),
    (s.work = .empty → ∃ t, exec c s = .next t ∧ t.pending = s.pending ∧ t.work = .empty) ∧
    (s.powered = false → c ≠ .powerOnReset → c ≠ .mainPowerLoss → c ≠ .standbySupplyLoss →
      ∃ q, exec c s = .next { s with pins := q })

/-! ## Requests and frames -/

/-- Every well-formed request is read back whole from its frame: station, target and every data field. -/
def Obligations.RequestsReadBackFromTheirFrames : Prop :=
  ∀ (c : Instr) (st : Station) (r : Request), c.wellFormed = true → encodeRequest c = some (st, r) →
    decodeRequest st r = some c

/-- A request that the access matrix closes to a station is refused with DENIED by its link and changes no record outside the
link (R177, R178). -/
def Obligations.ClosedRequestsAreDenied : Prop :=
  ∀ (c : Instr) (s : State) (st : Station) (r : Request) (row : RequestRow), c.wellFormed = true → s.Ready st →
    encodeRequest c = some (st, r) → requestRow r.code = some row → row.access.allows st = false →
    Refuses c s .denied

/-- A reply is a lead byte, the length, the code and target of its request, the status, the data, and a check byte that brings
the sum from the length on to 0 (R179, R191). -/
def Obligations.RepliesAreFrames : Prop :=
  ∀ (code target : Byte) (a : Answer), a.data.length ≤ 55 →
    ∃ check, replyFrame code target a =
        [0x5A, BitVec.ofNat 8 (a.data.length + 1), code, target, BitVec.ofNat 8 a.status.code] ++ a.data ++ [check] ∧
      byteSum (replyFrame code target a).tail = 0

/-! ## Reads -/

/-- A read of a screen, projector, shutter or drop map key, from any station and in every state, answers the data of the record
as it stands, or BAD_TARGET, and changes nothing. The fields that Table 63 does not lay out stand as log entry 11 has them, and
the held widths of an IDLE train as log entry 28 has them (DESIGN CHOICE). -/
def Obligations.ReadsAnswerAndChangeNothing : Prop :=
  ∀ (s : State) (st : Station) (t : Byte), s.Ready st →
    (∀ n, screenOf t = some n →
      Answers (.readBanks st t) s s (.ok (s.banksData n)) ∧ Answers (.readScreen st t) s s (.ok (s.screenData n)) ∧
      Answers (.readHouse st t) s s (.ok (s.houseData n)) ∧ Answers (.readShow st t) s s (.ok (s.showData n))) ∧
    (screenOf t = none →
      Refuses (.readBanks st t) s .badTarget ∧ Refuses (.readScreen st t) s .badTarget ∧
      Refuses (.readHouse st t) s .badTarget ∧ Refuses (.readShow st t) s .badTarget) ∧
    (∀ p, projOf t = some p →
      Answers (.readProjector st t) s s (.ok (s.projectorData p)) ∧ Answers (.readTracker st t) s s (.ok (s.trackerData p)) ∧
      Answers (.readArc st t) s s (.ok (s.arcData p))) ∧
    (projOf t = none →
      Refuses (.readProjector st t) s .badTarget ∧ Refuses (.readTracker st t) s .badTarget ∧
      Refuses (.readArc st t) s .badTarget) ∧
    (∀ i, shutterOf t = some i → Answers (.readShutter st t) s s (.ok (s.shutterData i))) ∧
    (shutterOf t = none → Refuses (.readShutter st t) s .badTarget) ∧
    (∀ k, triggerOf t = some k →
      Answers (.readDropMap st t) s s (.ok (mask2 (shutterMask (s.retained.dropMap.entry k))))) ∧
    (triggerOf t = none → Refuses (.readDropMap st t) s .badTarget) ∧
    (t = 0 → Answers (.readStanding st t) s s (.ok s.retained.standing.data)) ∧
    (t ≠ 0 → Refuses (.readStanding st t) s .badTarget)

/-- READ_BANK_ITEM, READ_SCENE and READ_DUTY judge their second field and answer one item (R4, R143, R170). HEADER and STARTS
are answered whatever the index byte (DEDUCED, log entry 12), and a selector or a reel index out of range is refused on a
CLEARING bank too (DESIGN CHOICE, log entry 26). -/
def Obligations.ItemReadsAnswerOneItem : Prop :=
  ∀ (s : State) (st : Station) (t i : Byte), s.Ready st →
    (∀ n role, bankOf t = some (n, role) →
      (∀ sel, (sel = 0 ∨ 4 < sel.toNat) → Refuses (.readBankItem st t sel i) s .range) ∧
      ((i = 0 ∨ 12 < i.toNat) → Refuses (.readBankItem st t 2 i) s .range) ∧
      ((s.bankIn n role).state = .clearing →
        Answers (.readBankItem st t 1 i) s s (.ok (s.bankHead n role)) ∧
        Answers (.readBankItem st t 3 i) s s (.ok (s.bankHead n role)) ∧
        Answers (.readBankItem st t 4 i) s s (.ok (s.bankHead n role)) ∧
        (1 ≤ i.toNat → i.toNat ≤ 12 → Answers (.readBankItem st t 2 i) s s (.ok (s.bankHead n role)))) ∧
      ((s.bankIn n role).state ≠ .clearing →
        Answers (.readBankItem st t 1 i) s s (.ok (s.bankHead n role ++ (s.bankIn n role).headerData)) ∧
        Answers (.readBankItem st t 4 i) s s (.ok (s.bankHead n role ++ startsData (s.bankIn n role).starts)) ∧
        (1 ≤ i.toNat → i.toNat ≤ 12 →
          Answers (.readBankItem st t 2 i) s s (.ok (s.bankHead n role ++ reelData ((s.bankIn n role).slot i.toNat)))) ∧
        (∀ h : 1 ≤ i.toNat ∧ i.toNat - 1 < (s.bankIn n role).cues.length,
          Answers (.readBankItem st t 3 i) s s
            (.ok (s.bankHead n role ++ ((s.bankIn n role).cues[i.toNat - 1]'h.2).data))) ∧
        ((i = 0 ∨ (s.bankIn n role).cues.length < i.toNat) → Refuses (.readBankItem st t 3 i) s .range))) ∧
    (∀ n, screenOf t = some n →
      (1 ≤ i.toNat → i.toNat ≤ 8 → Answers (.readScene st t i) s s (.ok (levelsData (s.scene n i.toNat)))) ∧
      ((i = 0 ∨ 8 < i.toNat) → Refuses (.readScene st t i) s .range)) ∧
    (i = 0 → Answers (.readDuty st i) s s (.ok s.dutySummary)) ∧
    (∀ h : 1 ≤ i.toNat ∧ i.toNat - 1 < s.duty.length,
      Answers (.readDuty st i) s s (.ok ((s.duty[i.toNat - 1]'h.2).data s.clock.boothSeconds))) ∧
    (s.duty.length < i.toNat → Refuses (.readDuty st i) s .range)

/-! ## Banks -/

/-- A content write to a NEXT in EMPTY or DRAFT writes its own part of the content, makes the bank DRAFT and replies OK with
the bank number; WRITE_CUE also gives the place (R5 to R9). Reel and frame of an anchor other than REEL_FRAME, and the fade
time of a cue without a scene, may hold anything (DEDUCED, log entry 12). -/
def Obligations.ContentWritesReplaceTheirPart : Prop :=
  ∀ (s : State) (t : Byte) (n : ScreenNo) (b : Bank), s.Ready .program → bankOf t = some (n, .next) →
    b = s.bankIn n .next → (b.state = .empty ∨ b.state = .draft) →
    (∀ (title : List Byte) (side count : Byte) (d : Side), title.length = 16 → title.all printable = true →
      sideOf side = some d → 1 ≤ count.toNat → count.toNat ≤ 12 →
      Answers (.writeHeader .program t title side count) s
        (s.setBank n (s.bankNo n .next) { b with header := some ⟨title, d, count.toNat⟩, state := .draft })
        (.ok (byte1 (s.bankNo n .next).code))) ∧
    (∀ (i : Byte) (lead m x e : Half) (marks : Byte) (label : List Byte), label.length = 10 →
      1 ≤ i.toNat → i.toNat ≤ 12 → (lead = 0xFFFF ∨ lead.toNat ≤ 480) → m.toNat ≤ 38400 → x.toNat ≤ 38400 →
      e.toNat ≤ 38400 → (marks = 0 ∨ marks = 1) → (label.all (· == 0) = true ∨ label.all printable = true) →
      Answers (.writeReel .program t i lead m x e marks label) s
        (s.setBank n (s.bankNo n .next)
          { b with
            reels := b.reels.setIfInBounds (i.toNat - 1) <| some
              ⟨if lead = 0xFFFF then none else some lead.toNat, m.toNat, x.toNat, e.toNat, decide (marks = 1),
                if label.all (· == 0) then none else some label⟩
            state := .draft })
        (.ok (byte1 (s.bankNo n .next).code))) ∧
    (∀ (anchor reel : Byte) (frame : Half) (scene : Byte) (fade : Half) (curtain : Byte) (a : Anchor)
        (k : Option SceneAction) (c : Option CurtainAction), b.cues.length < 16 →
      (anchor = 1 ∧ a = .showStart ∨ anchor = 3 ∧ a = .showEnd ∨
        anchor = 2 ∧ 1 ≤ reel.toNat ∧ reel.toNat ≤ 12 ∧ frame.toNat ≤ 38400 ∧ a = .reelFrame reel.toNat frame.toNat) →
      (scene = 0xFF ∧ k = none ∨
        1 ≤ scene.toNat ∧ scene.toNat ≤ 8 ∧ fade.toNat ≤ 6000 ∧ k = some ⟨scene.toNat, fade.toNat⟩) →
      (curtain = 0xFF ∧ c = none ∨ curtain = 1 ∧ c = some .opn ∨ curtain = 2 ∧ c = some .close) →
      (k ≠ none ∨ c ≠ none) →
      Answers (.writeCue .program t anchor reel frame scene fade curtain) s
        (s.setBank n (s.bankNo n .next) { b with cues := insertCue b.cues ⟨a, k, c⟩, state := .draft })
        (.ok (byte1 (s.bankNo n .next).code ++ byte1 ((cuesBefore b.cues ⟨a, k, c⟩).length + 1)))) ∧
    (∀ i : Byte, 1 ≤ i.toNat → i.toNat ≤ b.cues.length →
      Answers (.deleteCue .program t i) s
        (s.setBank n (s.bankNo n .next) { b with cues := b.cues.eraseIdx (i.toNat - 1), state := .draft })
        (.ok (byte1 (s.bankNo n .next).code)))

/-- A content write with a target that names no bank is refused with BAD_TARGET (R192). The shared checks of R5 follow in their
order, before any field is looked at: BANK_CLEARING, BANK_IN_USE, STATE. Then a field out of range is refused with RANGE, and a
cue for a full list with FULL (R6 to R8). WRITE_CUE looks at its reel and frame for REEL_FRAME alone, and at its fade time only
with a scene (DEDUCED, log entry 12). -/
def Obligations.ContentWritesAreRefusedInOrder : Prop :=
  let refused := fun (s : State) (t : Byte) (e : Status) =>
    (∀ title side count, title.length = 16 → Refuses (.writeHeader .program t title side count) s e) ∧
    (∀ j lead m x y marks label, label.length = 10 → Refuses (.writeReel .program t j lead m x y marks label) s e) ∧
    (∀ a r f k d c, Refuses (.writeCue .program t a r f k d c) s e) ∧ ∀ i, Refuses (.deleteCue .program t i) s e
  ∀ (s : State) (t : Byte), s.Ready .program →
    (bankOf t = none → refused s t .badTarget) ∧
    (∀ n role, bankOf t = some (n, role) →
      ((s.bankIn n role).state = .clearing → refused s t .bankClearing) ∧
      ((s.bankIn n role).state ≠ .clearing → role ≠ .next → refused s t .bankInUse) ∧
      ((s.bankIn n role).state = .complete → role = .next → refused s t .state) ∧
      ((s.bankIn n role).state = .empty ∨ (s.bankIn n role).state = .draft → role = .next →
        (∀ title side count, title.length = 16 →
          (title.all printable = false ∨ side = 0 ∨ 2 < side.toNat ∨ count = 0 ∨ 12 < count.toNat) →
          Refuses (.writeHeader .program t title side count) s .range) ∧
        (∀ j lead m x e marks label, label.length = 10 →
          (j = 0 ∨ 12 < j.toNat ∨ (lead ≠ 0xFFFF ∧ 480 < lead.toNat) ∨ 38400 < m.toNat ∨ 38400 < x.toNat ∨
            38400 < e.toNat ∨ 1 < marks.toNat ∨ (label.all (· == 0) = false ∧ label.all printable = false)) →
          Refuses (.writeReel .program t j lead m x e marks label) s .range) ∧
        (∀ a r f k d c,
          (a = 0 ∨ 3 < a.toNat ∨ (a = 2 ∧ (r = 0 ∨ 12 < r.toNat ∨ 38400 < f.toNat)) ∨ k = 0 ∨
            (k ≠ 0xFF ∧ (8 < k.toNat ∨ 6000 < d.toNat)) ∨ (c ≠ 0xFF ∧ c ≠ 1 ∧ c ≠ 2) ∨ (k = 0xFF ∧ c = 0xFF)) →
          Refuses (.writeCue .program t a r f k d c) s .range) ∧
        (∀ a r f k d c, (cueOf a r f k d c).isSome = true → 16 ≤ (s.bankIn n role).cues.length →
          Refuses (.writeCue .program t a r f k d c) s .full)))

/-- R9, on a NEXT in EMPTY or DRAFT: the entry at the place goes, the entries after it move up one place, the length falls by
one; an index outside 1 to the length is refused with RANGE and leaves the bank as it was, EMPTY or not. -/
def Obligations.DeleteCueRemovesOneEntry : Prop :=
  ∀ (s : State) (t i : Byte) (n : ScreenNo) (b : Bank), s.Ready .program → bankOf t = some (n, .next) →
    b = s.bankIn n .next → (b.state = .empty ∨ b.state = .draft) →
    (1 ≤ i.toNat → i.toNat ≤ b.cues.length → ∃ l : List Cue,
      Answers (.deleteCue .program t i) s (s.setBank n (s.bankNo n .next) { b with cues := l, state := .draft })
        (.ok (byte1 (s.bankNo n .next).code)) ∧
      l.length + 1 = b.cues.length ∧ (∀ k, k < i.toNat - 1 → l[k]? = b.cues[k]?) ∧
      (∀ k, i.toNat - 1 ≤ k → l[k]? = b.cues[k + 1]?)) ∧
    ((i = 0 ∨ b.cues.length < i.toNat) → Refuses (.deleteCue .program t i) s .range)

/-- R8: a new entry goes after every entry whose anchor is equal to or earlier than its own, and before the first whose anchor
is later, and a list in anchor order stays in anchor order. -/
def Obligations.CuesStandInAnchorOrder : Prop :=
  ∀ (l : List Cue) (c : Cue), (l.Pairwise fun a b => a.anchor.le b.anchor = true) →
    ∃ before after, l = before ++ after ∧ insertCue l c = before ++ c :: after ∧
      (∀ x ∈ before, x.anchor.le c.anchor = true) ∧ (∀ x ∈ after, x.anchor.le c.anchor = false) ∧
      (insertCue l c).Pairwise fun a b => a.anchor.le b.anchor = true

/-- COMMIT_BANK makes a NEXT in EMPTY or DRAFT COMPLETE exactly when no check of Table 7 fails, and otherwise leaves it and
names the item of the first check that does, at the first reel or cue entry that fails it; in COMPLETE it is refused with STATE
(R11). That the OK reply carries no data is DEDUCED, log entry 18. -/
def Obligations.CommitRunsTheChecks : Prop :=
  (∀ (s : State) (t : Byte) (n : ScreenNo) (b : Bank), s.Ready .program → screenOf t = some n → b = s.bankIn n .next →
    ((b.state = .empty ∨ b.state = .draft) →
      (b.commitFault = none →
        Answers (.commitBank .program t) s (s.setBank n (s.bankNo n .next) { b with state := .complete }) (.ok [])) ∧
      (∀ i, b.commitFault = some i → Answers (.commitBank .program t) s s (.incomplete i))) ∧
    (b.state = .complete → Refuses (.commitBank .program t) s .state)) ∧
  ∀ b : Bank,
    let reelFails := fun (f : Reel → Prop) (r : Nat) => ∃ x, b.slot r = some x ∧ f x
    let cueFails := fun (f : Nat → Nat → Prop) (k : Nat) =>
      ∃ c r y, b.cues[k - 1]? = some c ∧ c.anchor = .reelFrame r y ∧ f r y
    let missing := fun r => b.slot r = none
    let lead := reelFails fun x => x.motorCue ≤ x.leadIn.getD 192
    let order := reelFails fun x => ¬ (x.motorCue < x.changeoverCue ∧ x.changeoverCue < x.pictureEnd)
    let gap := reelFails fun x => x.changeoverCue - x.motorCue < 96
    (b.header = none → b.commitFault = some .header) ∧
    (∀ h, b.header = some h →
      let far := cueFails fun r _ => h.reelCount < r
      let late := cueFails fun r y => reelFails (fun x => x.pictureEnd ≤ y) r
      let first := fun (top : Nat) (f : Nat → Prop) (k : Nat) => 1 ≤ k ∧ k ≤ top ∧ f k ∧ ∀ j, 1 ≤ j → j < k → ¬ f j
      let never := fun (top : Nat) (f : Nat → Prop) => ∀ k, 1 ≤ k → k ≤ top → ¬ f k
      let c := h.reelCount
      let l := b.cues.length
      (∀ r, first c missing r → b.commitFault = some (.reelMissing r)) ∧
      (never c missing →
        (∀ r, first c lead r → b.commitFault = some (.leadIn r)) ∧
        (never c lead →
          (∀ r, first c order r → b.commitFault = some (.cueOrder r)) ∧
          (never c order →
            (∀ r, first c gap r → b.commitFault = some (.cueGap r)) ∧
            (never c gap →
              (∀ k, first l far k → b.commitFault = some (.anchorReel k)) ∧
              (never l far →
                (∀ k, first l late k → b.commitFault = some (.anchorFrame k)) ∧
                (never l late → b.commitFault = none)))))))

/-- R12: REOPEN_BANK returns a COMPLETE NEXT to DRAFT, keeps its content and the rotation-pending flag, and in EMPTY or DRAFT
is refused with STATE; a deferred rotation that then finds NEXT not COMPLETE is dropped. That the OK reply carries no data is
DEDUCED, log entry 18. -/
def Obligations.ReopenReturnsNextToDraft : Prop :=
  ∀ (s : State) (t : Byte) (n : ScreenNo), s.Ready .program → screenOf t = some n →
    ((s.bankIn n .next).state = .complete →
      Answers (.reopenBank .program t) s
        (s.setBank n (s.bankNo n .next) { s.bankIn n .next with state := .draft }) (.ok [])) ∧
    ((s.bankIn n .next).state = .empty ∨ (s.bankIn n .next).state = .draft → Refuses (.reopenBank .program t) s .state) ∧
    ((s.bankIn n .next).state ≠ .complete → s.retained.rotationPending.get n = true →
      s.deferredRotation n = s.setRotationPending n false)

/-- ROTATE, on a DARK screen whose show is WAITING or CALLED, with NEXT COMPLETE and SPARE not CLEARING, moves the three
roles, puts the retired bank into the clear queue in CLEARING, clears the rotation-pending flag and empties both projectors
(R13, R14, R17, R38). The content of the banks stays. -/
def Obligations.RotateMovesTheRoles : Prop :=
  ∀ (s : State) (st : Station) (t : Byte) (n : ScreenNo), s.Ready st → st ≠ .house → screenOf t = some n →
    (s.screen n).state = .dark → ((s.showRec n).state = .waiting ∨ (s.showRec n).state = .called) →
    (∀ b c, (s.bank n b).role = (s.bank n c).role → b = c) →
    (s.bankIn n .next).state = .complete → (s.bankIn n .spare).state ≠ .clearing →
    Leads (.rotate st t) s fun u =>
      u.Sends (.rotate st t) (.ok (byte1 (s.bankNo n .next).code)) ∧
      u.bankIn n .current = { s.bankIn n .next with role := .current } ∧
      u.bankIn n .next = { s.bankIn n .spare with role := .next } ∧
      u.bankIn n .spare = { s.bankIn n .current with role := .spare, state := .clearing } ∧
      (∀ m b, m ≠ n → u.bank m b = s.bank m b) ∧
      u.bankUnit.queue = s.bankUnit.queue ++ [⟨n, s.bankNo n .current⟩] ∧ u.retained.rotationPending.get n = false ∧
      (∀ d, (u.projector ⟨n, d⟩).runState = .empty ∧ (u.projector ⟨n, d⟩).loaded = none ∧
        (u.projector ⟨n, d⟩).assigned = u.openingReel ⟨n, d⟩ ∧ (u.tracker ⟨n, d⟩).counter = 0 ∧
        u.runMarks ⟨n, d⟩ = ⟨false, none, 0⟩)

/-- The checks of ROTATE in the order of R14. -/
def Obligations.RotateIsRefusedInOrder : Prop :=
  ∀ (s : State) (st : Station) (t : Byte) (n : ScreenNo), s.Ready st → st ≠ .house → screenOf t = some n →
    (((s.screen n).state ≠ .dark ∨ (s.showRec n).state = .held ∨ (s.showRec n).state = .playing) →
      Refuses (.rotate st t) s .notDark) ∧
    ((s.screen n).state = .dark → ((s.showRec n).state = .waiting ∨ (s.showRec n).state = .called) →
      ((s.bankIn n .next).state ≠ .complete →
        Answers (.rotate st t) s s (.incomplete (.nextState (s.bankIn n .next).state))) ∧
      ((s.bankIn n .next).state = .complete → (s.bankIn n .spare).state = .clearing →
        Refuses (.rotate st t) s .bankClearing))

/-- The end of a clear leaves its bank EMPTY with no content and its role, starts the next clear of the queue, and with no
rotation pending on the screen leaves every other bank (R18). With one pending, the rotation is made when the screen is DARK,
its show WAITING or CALLED and NEXT COMPLETE, and dropped otherwise; either way the flag is cleared (R16). -/
def Obligations.ClearCompleteEmptiesTheBank : Prop :=
  ∀ (s : State) (x : BankRef) (rest : List BankRef) (n : ScreenNo), s.Awake → s.bankUnit.queue = x :: rest →
    s.bankUnit.clearLeft ≠ none → n = x.screen →
    let cleared := Bank.blank (s.bank n x.bank).role .empty
    let free := (s.screen n).state = .dark ∧ ((s.showRec n).state = .waiting ∨ (s.showRec n).state = .called) ∧
      (s.bankIn n .next).state = .complete
    (s.retained.rotationPending.get n = false →
      Leads .clearComplete s fun u =>
        u.bank n x.bank = cleared ∧ (∀ m b, (m, b) ≠ (n, x.bank) → u.bank m b = s.bank m b) ∧
        u.bankUnit = ⟨rest, if rest = [] then none else some 2000⟩ ∧
        u.retained.rotationPending = s.retained.rotationPending ∧ u.attention = s.offered (.cleared n) ∧
        u.projectors = s.projectors ∧ u.shutterUnit = s.shutterUnit) ∧
    (s.retained.rotationPending.get n = true → (∀ b c, (s.bank n b).role = (s.bank n c).role → b = c) →
      (s.bank n x.bank).role = .spare →
      (¬ free →
        Leads .clearComplete s fun u =>
          u.bank n x.bank = cleared ∧ (∀ m b, (m, b) ≠ (n, x.bank) → u.bank m b = s.bank m b) ∧
          u.bankUnit = ⟨rest, if rest = [] then none else some 2000⟩ ∧
          u.retained.rotationPending = s.retained.rotationPending.set n false ∧ u.projectors = s.projectors) ∧
      (free →
        Leads .clearComplete s fun u =>
          u.bankIn n .current = { s.bankIn n .next with role := .current } ∧ u.bankIn n .next = .blank .next .empty ∧
          u.bankIn n .spare = { s.bankIn n .current with role := .spare, state := .clearing } ∧
          (∀ m b, m ≠ n → u.bank m b = s.bank m b) ∧
          u.bankUnit = ⟨rest ++ [⟨n, s.bankNo n .current⟩], some 2000⟩ ∧
          u.retained.rotationPending = s.retained.rotationPending.set n false ∧
          ∀ d, (u.projector ⟨n, d⟩).runState = .empty ∧ (u.projector ⟨n, d⟩).loaded = none ∧
            (u.projector ⟨n, d⟩).assigned = u.openingReel ⟨n, d⟩ ∧ (u.tracker ⟨n, d⟩).counter = 0 ∧
            u.runMarks ⟨n, d⟩ = ⟨false, none, 0⟩))

/-- Every step keeps the banks, the clear queue and the roles sound (R1, R13, R17, R18). -/
def Obligations.StepsKeepBanksSound : Prop := ∀ s t : State, s.BanksSound → step s = .next t → t.BanksSound

/-! ## Projectors -/

/-- A threaded switch closing on an EMPTY projector with an assigned reel threads that reel: fresh cue context, counter 0, run
marks written, the rest of the record as it was; and the projector is THREADED unless the end of the step has started it
(R24, R39). The arcs, shutters and banks are as they were. -/
def Obligations.ThreadingTakesTheAssignedReel : Prop :=
  ∀ (s : State) (p : ProjNo) (r : Nat), s.Awake → (s.projector p).runState = .empty → (s.projector p).assigned = some r →
    Leads (.threadedSwitchClose p) s fun t =>
      (t.projector p).loaded = some r ∧ (t.projector p).assigned = none ∧ (t.projector p).midReel = false ∧
      (t.projector p).douser = .closed ∧ (t.projector p).haltCause = (s.projector p).haltCause ∧
      ((t.projector p).runState = .threaded ∨ (t.projector p).runState = .starting) ∧
      ((s.screen p.screen).state ≠ .single → (s.screen p.screen).state ≠ .armed →
        (s.showRec p.screen).state ≠ .held → (t.projector p).runState = .threaded) ∧
      (t.tracker p).counter = 0 ∧ (t.tracker p).context = some (s.freshContext p.screen r) ∧
      t.runMarks p = ⟨true, some r, 0⟩ ∧ t.arcs = s.arcs ∧ t.shutterUnit = s.shutterUnit ∧ t.bankView = s.bankView ∧
      t.fixed = s.fixed

/-- A threaded switch closing on a HALTED projector threads it again: reel, counter and cue context kept, the mid-reel flag
set exactly with a counter above 0, and its BREAK cause cleared from every shutter (R25, R111). In THREADED and in the motor
states, and in EMPTY with no assigned reel, the closing changes nothing (R24). -/
def Obligations.ThreadingAgainKeepsTheReel : Prop :=
  ∀ (s : State) (p : ProjNo), s.Awake →
    ((s.projector p).runState = .halted →
      Leads (.threadedSwitchClose p) s fun t =>
        (t.projector p).loaded = (s.projector p).loaded ∧ (t.projector p).assigned = (s.projector p).assigned ∧
        (t.projector p).haltCause = none ∧ (t.projector p).midReel = decide (0 < (s.tracker p).counter) ∧
        ((t.projector p).runState = .threaded ∨ (t.projector p).runState = .starting) ∧
        (t.tracker p).counter = (s.tracker p).counter ∧ (t.tracker p).context = (s.tracker p).context ∧
        (∀ i, t.shutter i = { s.shutter i with causes := (s.shutter i).causes.put (.filmBreak p) false }) ∧
        t.retained = s.retained ∧ t.arcs = s.arcs ∧ t.bankView = s.bankView) ∧
    (((s.projector p).runState = .threaded ∨ (s.projector p).runState.motor = true ∨
        ((s.projector p).runState = .empty ∧ (s.projector p).assigned = none)) →
      exec (.threadedSwitchClose p) s = .next s)

/-- A lost loop below E, or on a reel without a record (DEDUCED, log entry 13), halts a projector in a motor state with BREAK,
drops the shutters of its BREAK entry, and is recorded for every station (R31, R33, R110, R117, R185). -/
def Obligations.LostLoopBelowEndBreaks : Prop :=
  ∀ (s : State) (p : ProjNo), s.Awake → (s.projector p).runState.motor = true → s.atPictureEnd p = false →
    Leads (.loopLost p) s fun t =>
      t.projector p = { s.projector p with runState := .halted, haltCause := some .filmBreak, douser := .closed } ∧
      t.tracker p = (s.tracker p).motorOff ∧ t.shutterUnit.shutters = s.triggered (.filmBreak p) ∧
      t.shutterUnit.fireActive = s.shutterUnit.fireActive ∧
      (∀ st, ∃ e, (t.attn st).pending.get .filmBreak = some e) ∧ t.bankView = s.bankView

/-- A lost loop at or above E empties the projector: no reel, counter 0, run marks clear; in WAITING, CALLED and HELD it takes
the opening reel of its side, and in PLAYING the reel two on from the one it has run, or else the opening reel (R33, R34, R35).
Outside the motor states nothing changes. -/
def Obligations.LostLoopAtEndEmpties : Prop :=
  ∀ (s : State) (p : ProjNo), s.Awake →
    ((s.projector p).runState.motor = true → s.atPictureEnd p = true →
      Leads (.loopLost p) s fun t =>
        (t.projector p).runState = .empty ∧ (t.projector p).loaded = none ∧ (t.projector p).midReel = false ∧
        (t.projector p).douser = .closed ∧ (t.tracker p).counter = 0 ∧ (t.tracker p).context = none ∧
        t.runMarks p = ⟨false, none, 0⟩ ∧
        ((s.showRec p.screen).state ≠ .playing → (t.projector p).assigned = s.openingReel p) ∧
        (∀ r c, (s.showRec p.screen).state = .playing → (s.projector p).loaded = some r →
          s.reelCount p.screen = some c →
          (t.projector p).assigned = if r + 2 ≤ c then some (r + 2) else s.openingReel p) ∧
        t.shutterUnit = s.shutterUnit) ∧
    ((s.projector p).runState.motor = false → exec (.loopLost p) s = .next s)

/-- STOP_PROJECTOR halts a projector in a motor state with cause STOP, keeps its reel, counter and cue context, and replies OK;
in EMPTY, THREADED and HALTED it replies OK and changes nothing (R31, R37). CLEAR_PROJECTOR takes a THREADED or HALTED projector
to EMPTY: in PLAYING it is to be threaded with the reel it held, otherwise with the opening reel of its side; in EMPTY and in
the motor states it is refused with STATE (R36). -/
def Obligations.StopAndClearAProjector : Prop :=
  ∀ (s : State) (t : Byte) (p : ProjNo), s.Ready .console → projOf t = some p →
    ((s.projector p).runState.motor = true →
      Leads (.stopProjector .console t) s fun u =>
        u.Sends (.stopProjector .console t) (.ok []) ∧
        u.projector p = { s.projector p with runState := .halted, haltCause := some .stop, douser := .closed } ∧
        u.tracker p = (s.tracker p).motorOff ∧ u.shutterUnit = s.shutterUnit) ∧
    ((s.projector p).runState.motor = false → Answers (.stopProjector .console t) s s (.ok [])) ∧
    (((s.projector p).runState = .threaded ∨ (s.projector p).runState = .halted) →
      Leads (.clearProjector .console t) s fun u =>
        u.Sends (.clearProjector .console t) (.ok []) ∧
        (u.projector p).runState = .empty ∧ (u.projector p).loaded = none ∧ (u.projector p).haltCause = none ∧
        (u.projector p).midReel = false ∧
        (u.projector p).assigned =
          (if (s.showRec p.screen).state = .playing then (s.projector p).loaded else s.openingReel p) ∧
        (u.tracker p).counter = 0 ∧ (u.tracker p).context = none ∧ u.runMarks p = ⟨false, none, 0⟩) ∧
    (((s.projector p).runState = .empty ∨ (s.projector p).runState.motor = true) →
      Refuses (.clearProjector .console t) s .state)

/-- A douser-open switch closing on a RUNNING projector whose douser is commanded OPEN, with its port UP and its counter below
E, takes it into SHOWING and the other projector of the screen out of SHOWING (R29). With the port not UP it halts instead. On
a projector that is not RUNNING, or whose douser is commanded CLOSED, the closing changes no record. One form is left out: a
RUNNING projector commanded OPEN, with its port UP and its counter at or above E, which R29 takes into SHOWING as well and whose
picture end is taken in the same step (R55, R71, R78). -/
def Obligations.OpenConfirmationShows : Prop :=
  ∀ (s : State) (p : ProjNo), s.Awake →
    ((s.projector p).runState = .running → (s.projector p).douser = .opened →
      ((s.shutter (.port p)).state = .up → s.atPictureEnd p = false →
        Leads (.douserOpenSwitchClose p) s fun t =>
          (t.projector p).runState = .showing ∧ (t.projector p.other).runState ≠ .showing ∧
          (t.projector p).loaded = (s.projector p).loaded ∧ (t.tracker p).counter = (s.tracker p).counter) ∧
      ((s.shutter (.port p)).state ≠ .up →
        Leads (.douserOpenSwitchClose p) s fun t =>
          t.projector p = { s.projector p with
            runState := .halted
            haltCause := some (if (s.shutter (.port p)).lastDrop = .fire then .fire else .shutter)
            douser := .closed })) ∧
    (((s.projector p).runState ≠ .running ∨ (s.projector p).douser = .closed) →
      exec (.douserOpenSwitchClose p) s = .next s)

/-- Every step keeps the projectors, their timers and their run marks sound, with at most one projector of a screen SHOWING,
and only with its port UP (R21, R23, R28, R29, R32, R39, R44). -/
def Obligations.StepsKeepProjectorsSound : Prop :=
  ∀ s t : State, s.ProjectorsSound → step s = .next t → t.ProjectorsSound

/-! ## Trackers -/

/-- A sprocket pulse in a motor state, short of the runout limit and of the picture end of a FINAL screen, is counted: the
counter and the retained counter rise by one, saturating, and from the second pulse on the interval is captured. Outside the
motor states it changes nothing (R41, R42). The tracker that the pulse leaves is the one that the speed judge gives, with the
stall timer started again, or, where the step has put the motor off, a tracker at rest (R43, R44, R46). The speed judge of R43
(the interval is the command's operand: DESIGN CHOICE, log entry 7): with the flag clear, twelve in-band intervals in a row set
it and make the start-failure timer idle, and an out-of-band one starts the run again; with the flag set, three out-of-band
intervals in a row clear it. The at-speed notice of a projector that its screen neither opens nor rolls takes it from STARTING
to RUNNING and leaves it in RUNNING (R27); the other two cases are in OpeningsAndSwapsEnd. The pulse that brings
the showing projector to E, its cues no longer PENDING, acts by the changeover state (R71, R78): it closes an unready screen,
forces the swap of a rolling one, and ends the show of a FINAL one, which then rotates at once, or is left with its rotation
pending, or does not rotate (R15). That a screen outside STARTING has no opening projector (R60), a premise where the other
projector is stopped, is kept by every step (StepsKeepRecordsSound). -/
def Obligations.PulsesAreCountedAndTimed : Prop :=
  (∀ (s : State) (p : ProjNo) (interval : Nat), s.Awake →
    ((s.projector p).runState.motor = true →
      (∀ r, s.loadedRecord p = some r → min 65535 ((s.tracker p).counter + 1) < r.pictureEnd + 320) →
      ((s.screen p.screen).state ≠ .final ∨
        ∀ r, s.loadedRecord p = some r → min 65535 ((s.tracker p).counter + 1) ≠ r.pictureEnd) →
      Leads (.sprocketPulse p interval) s fun t =>
        (t.tracker p).counter = min 65535 ((s.tracker p).counter + 1) ∧
        (t.runMarks p).counter = min 65535 ((s.tracker p).counter + 1) ∧
        (t.tracker p).lastInterval =
          (if (s.tracker p).timing then min 65535 interval else (s.tracker p).lastInterval) ∧
        t.shutterUnit = s.shutterUnit ∧
        let judged := if (s.tracker p).timing then ((s.tracker p).judge (min 65535 interval)).1 else s.tracker p
        if (t.projector p).runState.motor then
          (t.tracker p).atSpeed = judged.atSpeed ∧ (t.tracker p).inBand = judged.inBand ∧
          (t.tracker p).outBand = judged.outBand ∧ (t.tracker p).startTimer = judged.startTimer ∧
          (t.tracker p).stallTimer = some 500
        else
          (t.tracker p).atSpeed = false ∧ (t.tracker p).inBand = 0 ∧ (t.tracker p).outBand = 0 ∧
          (t.tracker p).startTimer = none ∧ (t.tracker p).stallTimer = none) ∧
    ((s.projector p).runState = .starting ∨ (s.projector p).runState = .running → (s.tracker p).timing = true →
      (s.tracker p).atSpeed = false → 400 ≤ interval → interval ≤ 434 → 11 ≤ (s.tracker p).inBand →
      ((s.screen p.screen).state = .starting → (s.screen p.screen).opening ≠ some p) →
      (s.screen p.screen).state ≠ .rolling →
      Leads (.sprocketPulse p interval) s fun t =>
        t.projector p = { s.projector p with runState := .running } ∧ (t.tracker p).atSpeed = true ∧
        (t.tracker p).inBand = 0 ∧ (t.tracker p).startTimer = none ∧ (t.tracker p).stallTimer = some 500) ∧
    ((s.projector p).runState.motor = false → exec (.sprocketPulse p interval) s = .next s) ∧
    (∀ (n : ScreenNo) (q : ProjNo) (r : Reel), n = p.screen → q = p.other → (s.projector p).runState = .showing →
      (s.screen n).showingSide = some p.side → s.loadedRecord p = some r → (s.tracker p).counter + 1 = r.pictureEnd →
      r.pictureEnd ≤ 65535 → (∀ x, (s.tracker p).context = some x → x.motor ≠ .pending ∧ x.changeover ≠ .pending) →
      let closed := fun t : State =>
        (t.screen n).state = .dark ∧ (t.screen n).showingSide = none ∧ (t.projector p).runState = .runout ∧
        (t.projector p).douser = .closed ∧
        (∀ k, (s.screen n).currentReel = some k → (s.projector p).loaded = some k → (s.projector q).loaded ≠ some k →
          (t.screen n).currentReel = some (k + 1)) ∧
        ((s.projector q).runState = .starting ∨ (s.projector q).runState = .running →
          (t.projector q).runState = .halted)
      ((s.showRec n).state ≠ .held →
        ((s.screen n).opening = none →
          ((s.screen n).state = .single ∨ (s.screen n).state = .armed ∨
            ((s.screen n).state = .rolling ∧ (s.screen n).swapFailed = true)) →
          Leads (.sprocketPulse p interval) s fun t => closed t ∧ s.Heard t (.dark n)) ∧
        ((s.screen n).state = .rolling → (s.screen n).swapFailed = false → (s.projector q).runState = .starting →
          Leads (.sprocketPulse p interval) s fun t => closed t ∧ (t.projector q).haltCause = some .douser)) ∧
      ((s.screen n).state = .rolling → (s.screen n).swapFailed = false → s.atSpeed q = true → s.permit q = true →
        Leads (.sprocketPulse p interval) s fun t =>
          t.screen n = { s.screen n with
            state := .swapping, sound := q.side, confirmTimer := some ⟨q, 250⟩, closeWatch := some ⟨p, 250⟩
            swapPending := false, immediate := false } ∧
          t.projector q = { s.projector q with douser := .opened } ∧
          t.projector p = { s.projector p with douser := .closed } ∧ s.Heard t (.late n)) ∧
      ((s.screen n).state = .final → (s.showRec n).state = .playing →
        Leads (.sprocketPulse p interval) s fun t =>
          t.screen n = { s.screen n with
            state := .dark, opening := none, showingSide := none, lateMotor := false, swapPending := false
            swapFailed := false, immediate := false, confirmTimer := none, closeWatch := none } ∧
          ((t.showRec n).state = .waiting ∨ (t.showRec n).state = .called) ∧
          ((s.bankIn n .next).state = .complete → (s.bankIn n .spare).state ≠ .clearing →
            (∀ b c, (s.bank n b).role = (s.bank n c).role → b = c) →
            t.bankIn n .current = { s.bankIn n .next with role := .current } ∧
            t.bankIn n .next = { s.bankIn n .spare with role := .next } ∧
            t.bankIn n .spare = { s.bankIn n .current with role := .spare, state := .clearing } ∧
            t.bankUnit.queue = s.bankUnit.queue ++ [⟨n, s.bankNo n .current⟩] ∧
            t.retained.rotationPending = s.retained.rotationPending.set n false ∧
            ∀ d, (t.projector ⟨n, d⟩).runState = .empty ∧ (t.tracker ⟨n, d⟩).counter = 0) ∧
          ((s.bankIn n .next).state = .complete → (s.bankIn n .spare).state = .clearing →
            t.bankView = { s.bankView with rotationPending := s.retained.rotationPending.set n true } ∧
            (t.projector p).runState = .runout) ∧
          ((s.bankIn n .next).state ≠ .complete →
            t.bankView = s.bankView ∧ (t.projector p).runState = .runout)))) ∧
  (∀ (t : Tracker) (x : Nat),
    (t.atSpeed = false → (x < 400 ∨ 434 < x) → t.judge x = ({ t with inBand := 0 }, false)) ∧
    (t.atSpeed = false → 400 ≤ x → x ≤ 434 → t.inBand < 11 → t.judge x = ({ t with inBand := t.inBand + 1 }, false)) ∧
    (t.atSpeed = false → 400 ≤ x → x ≤ 434 → 11 ≤ t.inBand →
      t.judge x = ({ t with atSpeed := true, inBand := 0, startTimer := none }, true)) ∧
    (t.atSpeed = true → 400 ≤ x → x ≤ 434 → t.judge x = ({ t with outBand := 0 }, false)) ∧
    (t.atSpeed = true → (x < 400 ∨ 434 < x) → t.outBand < 2 → t.judge x = ({ t with outBand := t.outBand + 1 }, false)) ∧
    (t.atSpeed = true → (x < 400 ∨ 434 < x) → 2 ≤ t.outBand →
      t.judge x = ({ t with atSpeed := false, inBand := 0, outBand := 0 }, false)))

/-- A cue mark in a motor state, under MARK or EITHER, is judged by Table 18: the motor or the changeover cue is taken at the
counter by MARK, a mark of a cue already taken is ignored, a stray short of the third is counted, and the third makes the
context fall back (R52, R53). A mark under COUNT, outside the motor states, or on a projector with no bound context changes
nothing. -/
def Obligations.MarksAreTakenCountedOrIgnored : Prop :=
  ∀ (s : State) (p : ProjNo), s.Awake →
    (∀ x r, (s.tracker p).context = some x → s.loadedRecord p = some r → (s.projector p).runState.motor = true →
      x.effective ≠ .count →
      (x.judgeMark r (s.tracker p).counter = .take .motor →
        Leads (.cueMarkPulse p) s fun t =>
          (t.tracker p).context = some { x with motor := .taken (s.tracker p).counter .mark } ∧
          (t.tracker p).counter = (s.tracker p).counter) ∧
      (x.judgeMark r (s.tracker p).counter = .take .changeover → (s.tracker p).counter < r.pictureEnd + 320 →
        Leads (.cueMarkPulse p) s fun t =>
          (t.tracker p).context = some { x with changeover := .taken (s.tracker p).counter .mark } ∧
          (t.tracker p).counter = (s.tracker p).counter) ∧
      (x.judgeMark r (s.tracker p).counter = .ignore → exec (.cueMarkPulse p) s = .next s) ∧
      (x.judgeMark r (s.tracker p).counter = .stray → x.strays < 2 →
        exec (.cueMarkPulse p) s = .next (s.setTracker p { s.tracker p with
          context := some { x with strays := x.strays + 1 } })) ∧
      (x.judgeMark r (s.tracker p).counter = .stray → 2 ≤ x.strays → (s.tracker p).counter < r.pictureEnd + 320 →
        Leads (.cueMarkPulse p) s fun t => ∃ y, (t.tracker p).context = some y ∧ y.strays = 3 ∧ y.fallenBack = true ∧
          (x.motor = .pending → r.motorCue ≤ (s.tracker p).counter →
            y.motor = .taken (s.tracker p).counter .count))) ∧
    (((s.projector p).runState.motor = false ∨ s.loadedRecord p = none ∨
        ∀ x, (s.tracker p).context = some x → x.effective = .count) →
      exec (.cueMarkPulse p) s = .next s)

/-- Table 18 case by case, on a mark at counter c. -/
def Obligations.MarksAreJudgedInOrder : Prop :=
  ∀ (x : CueContext) (r : Reel) (c : Nat),
    (x.motor = .pending → within c r.motorCue x.window = true → x.judgeMark r c = .take .motor) ∧
    ((x.motor ≠ .pending ∨ within c r.motorCue x.window = false) →
      (x.changeover = .pending → x.motor ≠ .pending → within c r.changeoverCue x.window = true →
        x.judgeMark r c = .take .changeover) ∧
      ((x.changeover ≠ .pending ∨ x.motor = .pending ∨ within c r.changeoverCue x.window = false) →
        (((∃ f k, x.motor = .taken f k) ∧ within c r.motorCue x.window = true ∨
            (∃ f k, x.changeover = .taken f k) ∧ within c r.changeoverCue x.window = true) →
          x.judgeMark r c = .ignore) ∧
        (¬ ((∃ f k, x.motor = .taken f k) ∧ within c r.motorCue x.window = true ∨
            (∃ f k, x.changeover = .taken f k) ∧ within c r.changeoverCue x.window = true) →
          x.judgeMark r c = .stray)))

/-- A start-failure timer that runs out in STARTING halts the projector with START_FAIL, and in another run state only becomes
idle (R45); a stall timer that runs out halts a projector in any motor state with STALL (R46). A timer that is idle does not
run out (DEDUCED, log entry 22). The sequencer takes the halt of the showing projector as R76 has it: an interruption, a rescue
by an incoming at speed, or the completion of a swap by rescue; and the halt of the standby as R77 has it: the screen falls
back to SINGLE with the motor late, or a swap whose outgoing stands at E is closed. That a screen outside STARTING has no
opening projector (R60), a premise where the standby is stopped, is kept by every step (StepsKeepRecordsSound). -/
def Obligations.FailuresHalt : Prop :=
  (∀ (s : State) (p : ProjNo), s.Awake →
    ((s.tracker p).startTimer ≠ none →
      ((s.projector p).runState = .starting →
        Leads (.startFailureTimerExpiry p) s fun t =>
          t.projector p = { s.projector p with runState := .halted, haltCause := some .startFail, douser := .closed } ∧
          (t.tracker p).counter = (s.tracker p).counter ∧ (t.tracker p).startTimer = none) ∧
      ((s.projector p).runState ≠ .starting →
        exec (.startFailureTimerExpiry p) s = .next (s.setTracker p { s.tracker p with startTimer := none }))) ∧
    ((s.tracker p).startTimer = none → exec (.startFailureTimerExpiry p) s = .next s) ∧
    ((s.tracker p).stallTimer ≠ none → (s.projector p).runState.motor = true →
      Leads (.stallTimerExpiry p) s fun t =>
        t.projector p = { s.projector p with runState := .halted, haltCause := some .stall, douser := .closed } ∧
        (t.tracker p).counter = (s.tracker p).counter ∧ (t.tracker p).stallTimer = none) ∧
    ((s.tracker p).stallTimer = none → exec (.stallTimerExpiry p) s = .next s)) ∧
  ∀ (s : State) (n : ScreenNo) (d : Side) (q p : ProjNo), s.Awake → (s.screen n).showingSide = some d → q = ⟨n, d⟩ →
    p = ⟨n, d.other⟩ →
    ((s.tracker q).stallTimer ≠ none → (s.projector q).runState = .showing →
      let dark := fun t : State =>
        (t.screen n).state = .dark ∧ (t.screen n).showingSide = none ∧ (t.screen n).lateMotor = false ∧
        (t.screen n).swapPending = false ∧ (t.screen n).swapFailed = false ∧ (t.screen n).immediate = false ∧
        (t.screen n).confirmTimer = none ∧ (t.screen n).closeWatch = none ∧ (t.screen n).sound = (s.screen n).sound ∧
        (∀ k, (s.screen n).currentReel = some k → (s.projector q).loaded = some k → (s.projector p).loaded ≠ some k →
          s.atPictureEnd q = false → (t.screen n).currentReel = some k) ∧
        ((s.projector p).runState = .starting ∨ (s.projector p).runState = .running →
          t.projector p = { s.projector p with runState := .halted, haltCause := some .stop, douser := .closed }) ∧
        s.HeardBoth t (.halt q .stall) (.dark n)
      (((s.screen n).state = .single ∨ (s.screen n).state = .armed ∨ (s.screen n).state = .final) →
        (s.screen n).opening = none → (s.showRec n).state ≠ .held → Leads (.stallTimerExpiry q) s dark) ∧
      ((s.screen n).state = .rolling → s.atSpeed p = false → (s.screen n).opening = none →
        (s.showRec n).state ≠ .held → Leads (.stallTimerExpiry q) s dark) ∧
      ((s.screen n).state = .rolling → s.atSpeed p = true →
        (s.leadIn p ≤ (s.tracker p).counter → (s.screen n).confirmTimer = none → s.permit p = true →
          Leads (.stallTimerExpiry q) s fun t =>
            t.screen n = { s.screen n with
              state := .starting, opening := some p, showingSide := none, sound := d.other, swapPending := false
              immediate := false, swapFailed := false, confirmTimer := some ⟨p, 250⟩ } ∧
            t.projector p = { s.projector p with douser := .opened } ∧ s.HeardBoth t (.halt q .stall) (.rescue n)) ∧
        ((s.tracker p).counter < s.leadIn p →
          Leads (.stallTimerExpiry q) s fun t =>
            t.screen n = { s.screen n with
              state := .starting, opening := some p, showingSide := none, sound := d.other, swapPending := false
              immediate := false, swapFailed := false } ∧
            t.projector p = s.projector p ∧ s.HeardBoth t (.halt q .stall) (.rescue n))) ∧
      ((s.screen n).state = .swapping →
        Leads (.stallTimerExpiry q) s fun t =>
          t.screen n =
            { s.screen n with state := .starting, opening := some p, showingSide := none, closeWatch := none } ∧
          s.HeardBoth t (.halt q .stall) (.rescue n))) ∧
    ((s.tracker p).stallTimer ≠ none → (s.projector p).runState.motor = true →
      (((s.screen n).state = .single ∨ (s.screen n).state = .armed) →
        Leads (.stallTimerExpiry p) s fun t =>
          t.screen n = { s.screen n with state := .single, arming := .fail .standbyState }) ∧
      ((s.screen n).state = .rolling →
        Leads (.stallTimerExpiry p) s fun t =>
          t.screen n = { s.screen n with
            state := .single, lateMotor := true, immediate := false, swapFailed := false
            arming := .fail .standbyState } ∧
          (t.booth.bell.late.get n).isSome = true) ∧
      ((s.screen n).state = .swapping → (s.projector q).runState = .showing →
        (s.atPictureEnd q = false → s.permit q = true →
          Leads (.stallTimerExpiry p) s fun t =>
            t.screen n = { s.screen n with
              state := .single, lateMotor := true, confirmTimer := none, closeWatch := none, sound := d
              arming := .fail .standbyState } ∧
            t.projector q = { s.projector q with douser := .opened } ∧ (t.booth.bell.late.get n).isSome = true) ∧
        (s.atPictureEnd q = true → s.atRunoutLimit q = false → (s.showRec n).state ≠ .held →
          Leads (.stallTimerExpiry p) s fun t =>
            (t.screen n).state = .dark ∧ (t.projector q).runState = .runout ∧
            ∀ k, (s.screen n).currentReel = some k → (s.projector q).loaded = some k → (s.projector p).loaded ≠ some k →
              (t.screen n).currentReel = some (k + 1))) ∧
      ((s.screen n).state = .final → Leads (.stallTimerExpiry p) s fun t => t.screen n = s.screen n))

/-! ## Screens, monitor, bell -/

/-- CHANGE_NOW in ARMED rolls the screen at once, sets the immediate flag and starts a THREADED standby; the screen is then the
one followed. That a standby which is not THREADED rolls the screen too is DEDUCED, log entry 23. In ROLLING it sets the
immediate flag, clears swap-failed, and starts the swap when the incoming is at speed (R72). In SINGLE it is refused with
NOT_READY and the arming result, and in DARK, STARTING, SWAPPING and FINAL with STATE (R79, R81). That an OK reply carries no
data is DEDUCED, log entry 18. -/
def Obligations.ChangeNowRollsAnArmedScreen : Prop :=
  ∀ (s : State) (t : Byte) (n : ScreenNo), s.Ready .console → screenOf t = some n →
    (∀ d, (s.screen n).state = .armed → (s.screen n).showingSide = some d →
      Leads (.changeNow .console t) s fun u =>
        u.Sends (.changeNow .console t) (.ok []) ∧
        u.screen n = { s.screen n with state := .rolling, immediate := true } ∧ u.booth.followed = n ∧
        ((s.projector ⟨n, d.other⟩).runState = .threaded → (u.projector ⟨n, d.other⟩).runState = .starting) ∧
        u.shutterUnit = s.shutterUnit ∧ u.bankView = s.bankView) ∧
    (∀ d, (s.screen n).state = .rolling → (s.screen n).showingSide = some d →
      (s.atSpeed ⟨n, d.other⟩ = false →
        Answers (.changeNow .console t) s
          (s.setScreen n { s.screen n with immediate := true, swapFailed := false }) (.ok [])) ∧
      (s.atSpeed ⟨n, d.other⟩ = true → s.permit ⟨n, d.other⟩ = true →
        Leads (.changeNow .console t) s fun u =>
          u.Sends (.changeNow .console t) (.ok []) ∧
          u.screen n = { s.screen n with
            state := .swapping, sound := d.other, confirmTimer := some ⟨⟨n, d.other⟩, 250⟩
            closeWatch := some ⟨⟨n, d⟩, 250⟩, swapPending := false, immediate := false, swapFailed := false } ∧
          u.projector ⟨n, d.other⟩ = { s.projector ⟨n, d.other⟩ with douser := .opened } ∧
          ((s.projector ⟨n, d⟩).runState = .showing →
            u.projector ⟨n, d⟩ = { s.projector ⟨n, d⟩ with douser := .closed }) ∧
          u.shutterUnit = s.shutterUnit ∧ u.bankView = s.bankView)) ∧
    ((s.screen n).state = .single → Answers (.changeNow .console t) s s (.notReady (s.screen n).arming)) ∧
    (((s.screen n).state = .dark ∨ (s.screen n).state = .starting ∨ (s.screen n).state = .swapping ∨
        (s.screen n).state = .final) → Refuses (.changeNow .console t) s .state)

/-- A douser-closed notice makes the close watch of its projector idle, and changes nothing else; a close watch that runs out
becomes idle with CHANGE(STUCK), and the changeover state, the run states and the orders given are left (R74). A confirmation
timer that runs out on a STARTING screen halts the opening projector with DOUSER and takes the screen to DARK with both timers
idle and CHANGE(DARK) (R65, R66). On a SWAPPING screen it reverts the swap while the outgoing is below E, and closes it at or
above E (R75). An idle timer does not run out (DEDUCED, log entry 22). A changeover cue that is taken by its mark starts the
swap when the incoming is at speed (R70, R72), a pulse that brings a pending incoming to speed starts it too, and the
confirmation of the incoming completes it (R73). A fire in ROLLING or SWAPPING halts both projectors with FIRE and ends DARK,
whichever halt the sequencer takes first (R32, R77, R113; log entry 3). In STARTING the pulse that brings the opening projector
to speed at or above its lead-in, or to its lead-in at speed, has it opened with the confirmation timer at 250 ms, once in a
stay; short of either nothing is opened; where its port is not UP the attempt ends as an interruption, and so it does at a halt
(R27, R64, R65). The open confirmation with its timer running completes the opening: FINAL on the last reel; otherwise ARMED
with a standby that passes the arming check, or SINGLE with one that is not THREADED, where cues already taken set the motor
late and the swap pending; and a reel that stands at its picture end is closed at once, which on the last reel ends the show
(R65, R68, R71, R78). -/
def Obligations.OpeningsAndSwapsEnd : Prop :=
  (∀ (s : State) (n : ScreenNo) (d : Side), s.Awake →
    (∀ left, (s.screen n).closeWatch = some ⟨⟨n, d⟩, left⟩ →
      exec (.douserClosedSwitchClose ⟨n, d⟩) s = .next (s.setScreen n { s.screen n with closeWatch := none }) ∧
      exec (.douserClosedSwitchClose ⟨n, d.other⟩) s = .next s ∧
      exec (.closeWatchExpiry n) s =
        .next { s.setScreen n { s.screen n with closeWatch := none } with attention := s.offered (.stuck ⟨n, d⟩) }) ∧
    ((s.screen n).closeWatch = none →
      exec (.douserClosedSwitchClose ⟨n, d⟩) s = .next s ∧ exec (.closeWatchExpiry n) s = .next s) ∧
    ((s.screen n).confirmTimer = none → exec (.confirmationTimerExpiry n) s = .next s) ∧
    (∀ left, (s.screen n).state = .starting → (s.screen n).opening = some ⟨n, d⟩ →
      (s.screen n).confirmTimer = some ⟨⟨n, d⟩, left⟩ → (s.showRec n).state ≠ .held →
      (s.projector ⟨n, d⟩).runState.motor = true →
      Leads (.confirmationTimerExpiry n) s fun t =>
        (t.screen n).state = .dark ∧ (t.screen n).opening = none ∧ (t.screen n).showingSide = none ∧
        (t.screen n).confirmTimer = none ∧ (t.screen n).closeWatch = none ∧ (t.screen n).sound = (s.screen n).sound ∧
        t.projector ⟨n, d⟩ =
          { s.projector ⟨n, d⟩ with runState := .halted, haltCause := some .douser, douser := .closed } ∧
        s.HeardBoth t (.halt ⟨n, d⟩ .douser) (.dark n) ∧ t.shutterUnit = s.shutterUnit ∧ t.bankView = s.bankView) ∧
    (∀ (q p : ProjNo), q = ⟨n, d⟩ → p = ⟨n, d.other⟩ → (s.screen n).showingSide = some d →
      (∀ left, (s.screen n).state = .swapping → (s.screen n).confirmTimer = some ⟨p, left⟩ →
        (s.projector q).runState = .showing → (s.projector p).runState = .running →
        (s.atPictureEnd q = false → s.permit q = true →
          Leads (.confirmationTimerExpiry n) s fun t =>
            t.screen n = { s.screen n with
              state := .rolling, sound := d, closeWatch := none, confirmTimer := none, swapFailed := true } ∧
            t.projector p = { s.projector p with douser := .closed } ∧
            t.projector q = { s.projector q with douser := .opened } ∧ t.booth.followed = n ∧ s.Heard t (.revert n) ∧
            t.shutterUnit = s.shutterUnit ∧ t.bankView = s.bankView) ∧
        (s.atPictureEnd q = true → s.atRunoutLimit q = false → (s.showRec n).state ≠ .held →
          Leads (.confirmationTimerExpiry n) s fun t =>
            (t.screen n).state = .dark ∧ (t.projector q).runState = .runout ∧ (t.projector q).douser = .closed ∧
            t.projector p = { s.projector p with runState := .halted, haltCause := some .douser, douser := .closed } ∧
            (∀ k, (s.screen n).currentReel = some k → (s.projector q).loaded = some k → (s.projector p).loaded ≠ some k →
              (t.screen n).currentReel = some (k + 1)) ∧
            s.HeardBoth t (.halt p .douser) (.dark n) ∧ t.shutterUnit = s.shutterUnit ∧ t.bankView = s.bankView)) ∧
      (∀ x r, (s.screen n).state = .rolling → (s.screen n).swapFailed = false → (s.projector q).runState = .showing →
        (s.tracker q).context = some x → s.loadedRecord q = some r → x.effective ≠ .count →
        x.judgeMark r (s.tracker q).counter = .take .changeover →
        (s.atSpeed p = false →
          Leads (.cueMarkPulse q) s fun t => t.screen n = { s.screen n with swapPending := true }) ∧
        (s.atSpeed p = true → s.permit p = true →
          Leads (.cueMarkPulse q) s fun t =>
            t.screen n = { s.screen n with
              state := .swapping, sound := d.other, confirmTimer := some ⟨p, 250⟩, closeWatch := some ⟨q, 250⟩
              swapPending := false, immediate := false } ∧
            t.projector p = { s.projector p with douser := .opened } ∧
            t.projector q = { s.projector q with douser := .closed })) ∧
      (∀ x : Nat, (s.screen n).state = .rolling → (s.screen n).swapFailed = false →
        (s.screen n).swapPending = true ∨ (s.screen n).immediate = true →
        (s.projector p).runState = .starting ∨ (s.projector p).runState = .running → (s.tracker p).timing = true →
        (s.tracker p).atSpeed = false → 400 ≤ x → x ≤ 434 → 11 ≤ (s.tracker p).inBand → s.permit p = true →
        Leads (.sprocketPulse p x) s fun t =>
          t.screen n = { s.screen n with
            state := .swapping, sound := d.other, confirmTimer := some ⟨p, 250⟩, closeWatch := some ⟨q, 250⟩
            swapPending := false, immediate := false } ∧
          t.projector p = { s.projector p with runState := .running, douser := .opened } ∧
          ((s.projector q).runState = .showing → t.projector q = { s.projector q with douser := .closed })) ∧
      (∀ left k, (s.screen n).state = .swapping → (s.screen n).confirmTimer = some ⟨p, left⟩ →
        (s.projector p).runState = .running → (s.projector p).douser = .opened → s.permit p = true →
        (s.projector q).runState = .showing → s.atRunoutLimit q = false → (s.projector p).loaded = some k →
        s.atPictureEnd p = false →
        (∀ x, (s.tracker p).context = some x → x.motor = .pending ∧ x.changeover = .pending) →
        Leads (.douserOpenSwitchClose p) s fun t =>
          t.screen n = { s.screen n with
            state := if s.reelCount n = some k then .final else .single
            opening := none, currentReel := some k, showingSide := some d.other, confirmTimer := none
            swapFailed := false, lateMotor := false
            arming := if s.reelCount n = some k then (s.screen n).arming else .fail .standbyState } ∧
          t.projector p = { s.projector p with runState := .showing } ∧
          t.projector q = { s.projector q with runState := .runout, douser := .closed } ∧
          (t.arc p).showing = true ∧ (t.arc q).showing = false ∧ t.booth.bell.late.get n = none ∧
          s.Heard t (.done n k)) ∧
      (s.shutterUnit.fireActive = false → (s.projector q).runState.motor = true → (s.projector p).runState.motor = true →
        (s.shutter (.port q)).state ≠ .dropped → (s.shutter (.port p)).state ≠ .dropped →
        ((s.screen n).state = .rolling ∨ (s.screen n).state = .swapping) →
        Leads .fireLoopActive s fun t =>
          (t.screen n).state = .dark ∧
          t.projector p = { s.projector p with runState := .halted, haltCause := some .fire, douser := .closed } ∧
          t.projector q = { s.projector q with runState := .halted, haltCause := some .fire, douser := .closed }))) ∧
  (∀ (s : State) (n : ScreenNo) (d : Side) (p q : ProjNo) (x : Nat), s.Awake → p = ⟨n, d⟩ → q = ⟨n, d.other⟩ →
    (s.screen n).state = .starting → (s.screen n).opening = some p →
    let counted := min 65535 ((s.tracker p).counter + 1)
    let inBand := 400 ≤ x ∧ x ≤ 434
    let waits := fun t : State =>
      t.screen n = s.screen n ∧ t.projector p = { s.projector p with runState := .running }
    let opens := fun t : State =>
      t.screen n = { s.screen n with confirmTimer := some ⟨p, 250⟩ } ∧
      t.projector p = { s.projector p with runState := .running, douser := .opened }
    let ends := fun (t : State) (c : HaltCause) =>
      (t.screen n).state = .dark ∧ (t.screen n).opening = none ∧ (t.screen n).showingSide = none ∧
      (t.screen n).confirmTimer = none ∧ (t.screen n).closeWatch = none ∧ (t.screen n).sound = (s.screen n).sound ∧
      t.projector p = { s.projector p with runState := .halted, haltCause := some c, douser := .closed } ∧
      ((s.projector q).runState = .starting ∨ (s.projector q).runState = .running →
        t.projector q = { s.projector q with runState := .halted, haltCause := some .stop, douser := .closed })
    ((s.projector p).runState = .starting ∨ (s.projector p).runState = .running → (s.tracker p).timing = true →
      (s.tracker p).atSpeed = false → inBand → 11 ≤ (s.tracker p).inBand →
      (counted < s.leadIn p ∨ (s.screen n).confirmTimer ≠ none → Leads (.sprocketPulse p x) s waits) ∧
      (s.leadIn p ≤ counted → (s.screen n).confirmTimer = none →
        (s.permit p = true → Leads (.sprocketPulse p x) s opens) ∧
        (s.permit p = false → (s.showRec n).state ≠ .held →
          Leads (.sprocketPulse p x) s fun t => ends t .douser))) ∧
    ((s.projector p).runState = .running → counted = s.leadIn p →
      (s.tracker p).atSpeed = true → (s.tracker p).timing = false ∨ inBand → (s.screen n).confirmTimer = none →
      (s.permit p = true → Leads (.sprocketPulse p x) s opens) ∧
      (s.permit p = false → (s.showRec n).state ≠ .held → Leads (.sprocketPulse p x) s fun t => ends t .douser)) ∧
    ((s.projector p).runState = .running → counted = s.leadIn p → (s.tracker p).atSpeed = false →
      ((s.tracker p).timing = false ∨ ¬ inBand ∨ (s.tracker p).inBand < 11) → Leads (.sprocketPulse p x) s waits) ∧
    ((s.tracker p).stallTimer ≠ none → (s.projector p).runState.motor = true → (s.showRec n).state ≠ .held →
      Leads (.stallTimerExpiry p) s fun t => ends t .stall)) ∧
  (∀ (s : State) (n : ScreenNo) (d : Side) (p q : ProjNo) (left k : Nat), s.Awake → p = ⟨n, d⟩ → q = ⟨n, d.other⟩ →
    (s.screen n).state = .starting → (s.screen n).opening = some p →
    (s.screen n).confirmTimer = some ⟨p, left⟩ → (s.projector p).runState = .running →
    (s.projector p).douser = .opened → s.permit p = true → (s.projector q).runState ≠ .showing →
    (s.projector p).loaded = some k →
    let shown := { s.screen n with
      opening := none, currentReel := some k, showingSide := some d, confirmTimer := none }
    let shows := fun (t : State) (r : Screen) =>
      t.screen n = r ∧ t.projector p = { s.projector p with runState := .showing } ∧ t.projector q = s.projector q ∧
      (t.arc p).showing = true
    (s.atPictureEnd p = false →
      (s.reelCount n = some k →
        Leads (.douserOpenSwitchClose p) s fun t => shows t { shown with state := .final }) ∧
      (s.reelCount n ≠ some k →
        (∀ y, (s.tracker p).context = some y → y.motor = .pending ∧ y.changeover = .pending) →
        ((s.projector q).runState ≠ .threaded →
          Leads (.douserOpenSwitchClose p) s fun t =>
            shows t { shown with state := .single, arming := .fail .standbyState }) ∧
        ((s.projector q).runState = .threaded → (s.tracker q).counter = 0 → (s.projector q).loaded = some (k + 1) →
          (s.arc q).state = .burning → s.permit q = true → s.carbonFor q (k + 1) 0 = true →
          s.shutterUnit.fireActive = false → (s.screen n).lateMotor = false →
          Leads (.douserOpenSwitchClose p) s fun t => shows t { shown with state := .armed, arming := .pass })) ∧
      (∀ y, (s.tracker p).context = some y → s.reelCount n ≠ some k → y.motor ≠ .pending →
        y.changeover.isTaken = true → (s.projector q).runState ≠ .threaded →
        Leads (.douserOpenSwitchClose p) s fun t =>
          shows t { shown with
            state := .single, arming := .fail .standbyState, lateMotor := true, swapPending := true } ∧
          (t.booth.bell.late.get n).isSome = true)) ∧
    (s.atPictureEnd p = true → s.atRunoutLimit p = false → s.reelCount n ≠ some k →
      (s.projector q).runState ≠ .threaded → (s.projector q).loaded ≠ some k → (s.showRec n).state ≠ .held →
      Leads (.douserOpenSwitchClose p) s fun t =>
        (t.screen n).state = .dark ∧ (t.screen n).showingSide = none ∧ (t.screen n).currentReel = some (k + 1) ∧
        (t.projector p).runState = .runout) ∧
    (s.atPictureEnd p = true → s.reelCount n = some k → (s.showRec n).state = .playing →
      Leads (.douserOpenSwitchClose p) s fun t =>
        (t.screen n).state = .dark ∧ (t.screen n).showingSide = none ∧ (t.screen n).currentReel = some k ∧
        ((t.showRec n).state = .waiting ∨ (t.showRec n).state = .called)))

/-- SET_MONITOR, SILENCE and a cadence phase change the selection, the silenced marks and the output, and nothing else; with
every requester silenced the output is off and the cadence idle (R81, R83). A cadence that is idle has no phase to end
(DEDUCED, log entry 22). The OK replies carry no data (DEDUCED, log entry 18). In every state the output lines follow their
records, as DEDUCED in log entry 24: the monitor carries the selected or the followed screen (R81), the motor drive is on
exactly in the four motor states (R23), the douser drive is the douser command (R21), the contactor, the striker and the feed
motor are as Table 26 and R95 have them, and the curtain drives as Table 41 has them. -/
def Obligations.MonitorAndBell : Prop :=
  (∀ (s : State), s.Ready .console →
    Answers (.setMonitor .console 0 0) s { s with retained := { s.retained with monitor := .follow } } (.ok []) ∧
    (∀ (x : Byte) (n : ScreenNo), screenOf x = some n →
      Answers (.setMonitor .console 0 x) s { s with retained := { s.retained with monitor := .screen n } } (.ok [])) ∧
    (∀ x : Byte, 4 < x.toNat → Refuses (.setMonitor .console 0 x) s .range) ∧
    (∃ b : Bell, Answers (.silence .console 0) s (s.setBell b) (.ok []) ∧ b.output = false ∧ b.cadenceLeft = none ∧
      (∀ n, b.late.get n = if (s.booth.bell.late.get n).isSome then some true else none) ∧
      (∀ n, b.held.get n = if (s.booth.bell.held.get n).isSome then some true else none)) ∧
    (∀ left, s.booth.bell.cadenceLeft = some left →
      exec .bellCadence s =
        .next (s.setBell { s.booth.bell with output := !s.booth.bell.output, cadenceLeft := some 500 })) ∧
    (s.booth.bell.cadenceLeft = none → exec .bellCadence s = .next s)) ∧
  (∀ (s : State) (n : ScreenNo) (p : ProjNo),
    (s.retained.monitor = .follow → s.monitorOutput = s.booth.followed) ∧
    (s.retained.monitor = .screen n → s.monitorOutput = n) ∧
    (s.motorDrive p = true ↔ (s.projector p).runState = .starting ∨ (s.projector p).runState = .running ∨
      (s.projector p).runState = .showing ∨ (s.projector p).runState = .runout) ∧
    (s.douserDrive p = true ↔ (s.projector p).douser = .opened) ∧
    (s.contactor p = true ↔ (s.arc p).state = .burning ∨
      ((s.arc p).state = .striking ∧ ∃ left, (s.arc p).phase = some ⟨.touch, left⟩ ∨ (s.arc p).phase = some ⟨.proof, left⟩)) ∧
    (s.striker p = true ↔ (s.arc p).state = .striking ∧ ∃ left, (s.arc p).phase = some ⟨.touch, left⟩) ∧
    (s.feedMotor p = true ↔ ∃ high low left, (s.arc p).train = .high high low left) ∧
    (s.openDrive n = true ↔ (s.curtain n).state = .opening) ∧
    (s.closeDrive n = true ↔ (s.curtain n).state = .closing))

/-! ## Settings -/

/-- SET_CUE_POLICY, SET_DROP_MAP, SET_SCENE, SET_CURTAIN_TIME, SET_STANDING and DELETE_STANDING replace their own item of the
retained store and nothing else, and refuse a value out of range with RANGE (R58, R109, R128, R138, R139). -/
def Obligations.SettingsReplaceTheirOwnItem : Prop :=
  let fits := fun x : Byte => x = 0xFF ∨ x.toNat ≤ 100
  let level := fun x : Byte => if x = 0xFF then none else some x.toNat
  ∀ (s : State) (t : Byte),
    (s.Ready .console →
      (∀ n, screenOf t = some n → ∀ w : Byte,
        (∀ q : Policy, w.toNat ≤ 240 →
          Answers (.setCuePolicy .console t (BitVec.ofNat 8 q.code) w) s
            { s with retained := { s.retained with cuePolicy := s.retained.cuePolicy.set n ⟨q, w.toNat⟩ } } (.ok [])) ∧
        (∀ q : Byte, (q = 0 ∨ 3 < q.toNat ∨ 240 < w.toNat) → Refuses (.setCuePolicy .console t q w) s .range)) ∧
      (∀ k i mask, triggerOf t = some k → k.must = some i →
        (mask.toNat < 4096 → member mask i.code = true → ∃ d : DropMap,
          Answers (.setDropMap .console t mask) s { s with retained := { s.retained with dropMap := d } } (.ok []) ∧
          (∀ j, (d.entry k).get j = member mask j.code) ∧ ∀ k', k' ≠ k → d.entry k' = s.retained.dropMap.entry k') ∧
        ((4096 ≤ mask.toNat ∨ member mask i.code = false) → Refuses (.setDropMap .console t mask) s .range)) ∧
      (∀ mask, (triggerOf t = some .fire ∨ triggerOf t = some .manual) →
        Refuses (.setDropMap .console t mask) s .range)) ∧
    (s.Ready .house →
      (∀ n, screenOf t = some n →
        (∀ (k a b c d : Byte), 1 ≤ k.toNat → k.toNat ≤ 8 → fits a → fits b → fits c → fits d →
          Answers (.setScene .house t k a b c d) s
            { s with retained := { s.retained with
                scenes := s.retained.scenes.set n <|
                  (s.retained.scenes.get n).setIfInBounds (k.toNat - 1) ⟨level a, level b, level c, level d⟩ } }
            (.ok [])) ∧
        (∀ (k a b c d : Byte), (k = 0 ∨ 8 < k.toNat ∨ ¬ fits a ∨ ¬ fits b ∨ ¬ fits c ∨ ¬ fits d) →
          Refuses (.setScene .house t k a b c d) s .range) ∧
        (∀ x : Byte, 5 ≤ x.toNat → x.toNat ≤ 60 →
          Answers (.setCurtainTime .house t x) s
            { s with retained := { s.retained with travelTime := s.retained.travelTime.set n x.toNat } } (.ok [])) ∧
        (∀ x : Byte, (x.toNat < 5 ∨ 60 < x.toNat) → Refuses (.setCurtainTime .house t x) s .range)) ∧
      (∀ k, standingOf t = some k →
        (∃ y : StandingTable,
          Answers (.deleteStanding .house t) s { s with retained := { s.retained with standing := y } } (.ok []) ∧
          y.get k = none ∧ ∀ j, j ≠ k → y.get j = s.retained.standing.get j) ∧
        (∀ (a b c d : Byte) (f : Half) (h : Byte), fits a → fits b → fits c → fits d →
          (a ≠ 0xFF ∨ b ≠ 0xFF ∨ c ≠ 0xFF ∨ d ≠ 0xFF) → f.toNat ≤ 6000 → (h = 0 ∨ h = 1) →
          ((s.retained.standing.get k ≠ none ∨ s.retained.standing.size < 8) → ∃ y : StandingTable,
            Answers (.setStanding .house t a b c d f h) s { s with retained := { s.retained with standing := y } }
              (.ok []) ∧
            y.get k = some ⟨⟨level a, level b, level c, level d⟩, f.toNat, decide (h = 1)⟩ ∧
            ∀ j, j ≠ k → y.get j = s.retained.standing.get j) ∧
          (s.retained.standing.get k = none → 8 ≤ s.retained.standing.size →
            Refuses (.setStanding .house t a b c d f h) s .full)) ∧
        (∀ (a b c d : Byte) (f : Half) (h : Byte),
          (¬ fits a ∨ ¬ fits b ∨ ¬ fits c ∨ ¬ fits d ∨ (a = 0xFF ∧ b = 0xFF ∧ c = 0xFF ∧ d = 0xFF) ∨ 6000 < f.toNat ∨
            1 < h.toNat) → Refuses (.setStanding .house t a b c d f h) s .range)))

/-! ## Arcs -/

/-- STRIKE begins a first attempt of three, in the checks of R87. EXTINGUISH puts a lamp out in STRIKING, BURNING and FAULT and
ends its measuring span, and is taken with no change in OFF and SPENT (R91). -/
def Obligations.StrikeAndExtinguish : Prop :=
  ∀ (s : State) (t : Byte) (p : ProjNo), s.Ready .console → projOf t = some p →
    ((s.arc p).state ≠ .off → Refuses (.strike .console t) s .state) ∧
    ((s.arc p).state = .off → s.shutterUnit.fireActive = true → Refuses (.strike .console t) s .fire) ∧
    ((s.arc p).state = .off → s.shutterUnit.fireActive = false →
      ((s.arcStore p).remaining ≤ (s.arcStore p).reserve → Refuses (.strike .console t) s .carbonShort) ∧
      ((s.arcStore p).reserve < (s.arcStore p).remaining →
        Leads (.strike .console t) s fun u =>
          u.Sends (.strike .console t) (.ok []) ∧
          u.arcs = s.arcs.set p { s.arc p with state := .striking, attempts := 3, phase := some ⟨.touch, 400⟩ } ∧
          u.retained = s.retained ∧ u.shutterUnit = s.shutterUnit)) ∧
    (((s.arc p).state = .striking ∨ (s.arc p).state = .burning ∨ (s.arc p).state = .fault) →
      Leads (.extinguish .console t) s fun u =>
        u.Sends (.extinguish .console t) (.ok []) ∧
        u.arcs = s.arcs.set p
          { s.arc p with
            state := .off
            phase := none
            attempts := 0
            lossTimer := none
            train := FeedTrain.idle
            mark := none
            frames := match (s.arc p).mark with
              | none => (s.arc p).frames
              | some m => min 65535 ((s.arc p).frames + ((s.tracker p).counter - m)) } ∧
        u.retained = s.retained ∧ u.shutterUnit = s.shutterUnit) ∧
    (((s.arc p).state = .off ∨ (s.arc p).state = .spent) → Answers (.extinguish .console t) s s (.ok []))

/-- A strike goes from TOUCH to BURNING when the sensor reports the arc and to PROOF when it does not, from PROOF to BURNING at
a report, from an attempt that failed to PAUSE or to FAULT, and from PAUSE to TOUCH (R88, R89). An expiry outside its phase
changes nothing (DEDUCED, log entry 22). -/
def Obligations.StrikePhasesFollow : Prop :=
  ∀ (s : State) (p : ProjNo) (left : Nat), s.Awake → (s.arc p).state = .striking →
    let lit := fun t : State =>
      (t.arc p).state = .burning ∧ (t.arc p).phase = none ∧ (t.arc p).attempts = 0 ∧ (t.arc p).lossTimer = none ∧
      (t.arc p).mark = (if (s.arc p).showing then some (s.tracker p).counter else (s.arc p).mark) ∧
      (t.arc p).sensorReported = (s.pins.craterLong.get p && s.pins.craterShort.get p) ∧
      (t.arc p).train = (if s.pins.craterLong.get p && !s.pins.craterShort.get p then
        .high (s.arcStore p).highWidth (s.arcStore p).lowWidth (s.arcStore p).highWidth else .idle) ∧
      (∀ q, q ≠ p → t.arc q = s.arc q) ∧ t.retained = s.retained
    ((s.arc p).phase = some ⟨.touch, left⟩ →
      (s.pins.arcPresent.get p = true → Leads (.touchTimerExpiry p) s lit) ∧
      (s.pins.arcPresent.get p = false →
        exec (.touchTimerExpiry p) s = .next (s.setArc p { s.arc p with phase := some ⟨.proof, 2000⟩ })) ∧
      exec (.proofTimerExpiry p) s = .next s ∧ exec (.pauseTimerExpiry p) s = .next s) ∧
    ((s.arc p).phase = some ⟨.proof, left⟩ →
      Leads (.arcPresentReport p) s lit ∧
      (1 < (s.arc p).attempts →
        exec (.proofTimerExpiry p) s = .next (s.setArc p
          { s.arc p with attempts := (s.arc p).attempts - 1, phase := some ⟨.pause, 3000⟩ })) ∧
      ((s.arc p).attempts ≤ 1 →
        Leads (.proofTimerExpiry p) s fun t =>
          t.arcs = s.arcs.set p { s.arc p with state := .fault, phase := none, attempts := 0 } ∧ t.retained = s.retained) ∧
      exec (.touchTimerExpiry p) s = .next s ∧ exec (.pauseTimerExpiry p) s = .next s) ∧
    ((s.arc p).phase = some ⟨.pause, left⟩ →
      exec (.pauseTimerExpiry p) s = .next (s.setArc p { s.arc p with phase := some ⟨.touch, 400⟩ }) ∧
      exec (.touchTimerExpiry p) s = .next s ∧ exec (.proofTimerExpiry p) s = .next s)

/-- In BURNING the report ceasing starts the loss timer, its return makes the timer idle, and the timer running out begins one
restrike attempt; a loss timer that is idle, or out of BURNING, does not run out (R90; the latter DEDUCED, log entry 22). -/
def Obligations.LostArcsRestrikeOnce : Prop :=
  ∀ (s : State) (p : ProjNo), s.Awake →
    ((s.arc p).state = .burning →
      ((s.arc p).lossTimer = none →
        exec (.arcReportCeases p) s = .next ((s.setPins { s.pins with arcPresent := s.pins.arcPresent.set p false }).setArc p
          { s.arc p with lossTimer := some 500 }) ∧
        exec (.lossTimerExpiry p) s = .next s) ∧
      ((s.arc p).lossTimer ≠ none →
        exec (.arcReportCeases p) s = .next (s.setPins { s.pins with arcPresent := s.pins.arcPresent.set p false }) ∧
        Leads (.lossTimerExpiry p) s fun t =>
          (t.arc p).state = .striking ∧ (t.arc p).attempts = 1 ∧ (t.arc p).phase = some ⟨.touch, 400⟩ ∧
          (t.arc p).lossTimer = none ∧ (t.arc p).train = .idle ∧ (t.arc p).mark = none ∧
          (∀ q, q ≠ p → t.arc q = s.arc q) ∧ t.retained = s.retained) ∧
      exec (.arcPresentReport p) s = .next ((s.setPins { s.pins with arcPresent := s.pins.arcPresent.set p true }).setArc p
        { s.arc p with lossTimer := none })) ∧
    ((s.arc p).state ≠ .burning → exec (.lossTimerExpiry p) s = .next s)

/-- A LONG reading in BURNING starts a train with the widths of the record; a HIGH phase that ends is a feed step of the carbon
account, which at its last step leaves the lamp SPENT; a LOW phase that ends is followed by a pulse or by the end of the train
(R94 to R97). Both contacts closed are reported once: a second such reading with the report made changes no record. A phase
that is not the present one does not end (DEDUCED, log entry 22). -/
def Obligations.CarbonIsFedByPulses : Prop :=
  ∀ (s : State) (p : ProjNo), s.Awake →
    (∀ h l left, (s.arc p).train = .high h l left →
      (2 ≤ (s.arcStore p).remaining →
        Leads (.feedHighPhaseEnd p) s fun t =>
          t.arcStore p = { s.arcStore p with
            remaining := (s.arcStore p).remaining - 1, stepsSinceTrim := (s.arcStore p).stepsSinceTrim + 1 } ∧
          (t.arc p).state = (s.arc p).state ∧ (t.arc p).train = .low h l l ∧
          ((s.arc p).mark ≠ none → (s.arc p).steps < 60000 → (t.arc p).steps = (s.arc p).steps + 1) ∧
          (t.arc p).low = decide ((s.arcStore p).remaining - 1 ≤ (s.arcStore p).reserve)) ∧
      ((s.arcStore p).remaining = 1 →
        Leads (.feedHighPhaseEnd p) s fun t =>
          (t.arcStore p).remaining = 0 ∧ (t.arc p).state = .spent ∧ (t.arc p).train = .idle ∧
          (t.arc p).lossTimer = none ∧ (t.arc p).mark = none ∧ (t.arc p).low = true) ∧
      exec (.feedLowPhaseEnd p) s = .next s) ∧
    (∀ h l left, (s.arc p).train = .low h l left →
      exec (.feedLowPhaseEnd p) s = .next (s.setArc p { s.arc p with
        train := if s.pins.craterLong.get p && !s.pins.craterShort.get p then .high h l h else .idle }) ∧
      exec (.feedHighPhaseEnd p) s = .next s) ∧
    (∀ k closed q, q = s.pins.crater p k closed →
      ((s.arc p).state ≠ .burning → exec (.craterContactChange p k closed) s = .next (s.setPins q)) ∧
      ((s.arc p).state = .burning →
        (q.craterLong.get p = true → q.craterShort.get p = false → (s.arc p).train = .idle →
          exec (.craterContactChange p k closed) s = .next ((s.setPins q).setArc p { s.arc p with
            train := .high (s.arcStore p).highWidth (s.arcStore p).lowWidth (s.arcStore p).highWidth })) ∧
        (q.craterLong.get p = false → exec (.craterContactChange p k closed) s = .next (s.setPins q)) ∧
        (q.craterLong.get p = true → q.craterShort.get p = true →
          (s.arc p).sensorReported = false →
          exec (.craterContactChange p k closed) s =
            .next { (s.setPins q).setArc p { s.arc p with sensorReported := true } with
              attention := s.offered (.sensor p) }) ∧
        (q.craterLong.get p = true → q.craterShort.get p = true → (s.arc p).sensorReported = true →
          exec (.craterContactChange p k closed) s = .next (s.setPins q)) ∧
        (q.craterLong.get p = true → q.craterShort.get p = false → (s.arc p).train ≠ .idle →
          exec (.craterContactChange p k closed) s = .next (s.setPins q))))

/-- RETRIM_DONE sets a fresh account from the trim length, clears LOW and leaves the lamp OFF, in the checks of R99; SET_ARC
replaces the four settings and judges LOW again at once, or none of them with RANGE (R97, R100). -/
def Obligations.TrimAndArcSettings : Prop :=
  ∀ (s : State) (t : Byte) (p : ProjNo), s.Ready .console → projOf t = some p →
    (∀ trim : Half,
      ((s.arc p).state = .striking ∨ (s.arc p).state = .burning → Refuses (.retrimDone .console t trim) s .state) ∧
      ((s.arc p).state = .off ∨ (s.arc p).state = .fault ∨ (s.arc p).state = .spent →
        ((trim = 0 ∨ 60000 < trim.toNat ∨ trim.toNat ≤ (s.arcStore p).reserve) →
          Refuses (.retrimDone .console t trim) s .range) ∧
        (trim.toNat ≤ 60000 → (s.arcStore p).reserve < trim.toNat →
          Leads (.retrimDone .console t trim) s fun u =>
            u.Sends (.retrimDone .console t trim) (.ok []) ∧
            u.arcStore p = { s.arcStore p with remaining := trim.toNat, trimLength := trim.toNat, stepsSinceTrim := 0 } ∧
            u.arc p = { s.arc p with state := .off, low := false } ∧
            ∀ q, q ≠ p → u.arcStore q = s.arcStore q ∧ u.arc q = s.arc q))) ∧
    (∀ (reserve rate : Half) (high low : Byte),
      (reserve.toNat ≤ 6000 → 1 ≤ rate.toNat → rate.toNat ≤ 500 → 5 ≤ high.toNat → high.toNat ≤ 250 → 5 ≤ low.toNat →
        low.toNat ≤ 250 →
        Leads (.setArc .console t reserve rate high low) s fun u =>
          u.Sends (.setArc .console t reserve rate high low) (.ok []) ∧
          u.arcStore p = { s.arcStore p with
            reserve := reserve.toNat, defaultRate := rate.toNat, highWidth := high.toNat, lowWidth := low.toNat } ∧
          u.arc p = { s.arc p with low := decide ((s.arcStore p).remaining ≤ reserve.toNat) } ∧
          ∀ q, q ≠ p → u.arcStore q = s.arcStore q ∧ u.arc q = s.arc q) ∧
      ((6000 < reserve.toNat ∨ rate = 0 ∨ 500 < rate.toNat ∨ high.toNat < 5 ∨ 250 < high.toNat ∨ low.toNat < 5 ∨
          250 < low.toNat) →
        Refuses (.setArc .console t reserve rate high low) s .range))

/-- Every step keeps the carbon account, the settings with the feed widths, the burn history and the LOW flag sound (R84, R96,
R97, R99, R100, R102). -/
def Obligations.StepsKeepCarbonSound : Prop := ∀ s t : State, s.CarbonSound → step s = .next t → t.CarbonSound

/-! ## Shutters -/

/-- A shutter of a trigger's entry gains the cause, and one in UP or ARMING drops with it (R110). The drop button, DROP_ALL, a
gate heat line, a fallen link and the fire loop are triggers that reach exactly the shutters of their entries; the fire loop
and a fallen link also put arcs out (R92, R93, R113, R115, R118, R119). A line that has its level already has not changed:
DESIGN CHOICE, log entry 16. -/
def Obligations.TriggersDropTheirShutters : Prop :=
  (∀ (r : Shutter) (c : DropCause),
    (r.state = .dropped → r.addCause c = { r with causes := r.causes.put c true }) ∧
    (r.state ≠ .dropped → r.addCause c =
      { r with
        state := .dropped
        causes := r.causes.put c true
        lastDrop := c
        energised := false
        armingTimer := none })) ∧
  ∀ s : State, s.Awake →
    Leads .dropButtonClose s (fun t =>
      t.shutterUnit = ⟨s.triggered .manual, s.shutterUnit.fireActive, true⟩ ∧ t.bankView = s.bankView) ∧
    (s.Ready .console →
      Leads (.dropAll .console 0) s fun t =>
        t.Sends (.dropAll .console 0) (.ok []) ∧
        t.shutterUnit = { s.shutterUnit with shutters := s.triggered .manual } ∧ t.bankView = s.bankView) ∧
    (∀ p, s.pins.gateHeat.get p = false →
      Leads (.gateHeatChange p true) s fun t =>
        t.shutterUnit = { s.shutterUnit with shutters := s.triggered (.heat p) } ∧ t.bankView = s.bankView) ∧
    (∀ i, (s.shutter i).state = .up → (s.shutter i).homeClosed = true →
      Leads (.homeSwitchChange i false) s fun t =>
        t.shutterUnit = { s.shutterUnit with
          shutters := (s.setShutter i { s.shutter i with homeClosed := false }).triggered (.link i) } ∧
        (∀ p, p.screen = i.screen → (s.arc p).state.lit = true → (t.arc p).state = .off)) ∧
    (s.shutterUnit.fireActive = false →
      Leads .fireLoopActive s fun t =>
        t.shutterUnit = ⟨s.triggered .fire, true, s.shutterUnit.buttonClosed⟩ ∧
        (∀ p, (s.arc p).state.lit = true → (t.arc p).state = .off) ∧
        (∀ st, ∃ e, (t.attn st).pending.get .fire = some e ∧ e.last = .fireActive)) ∧
    (s.shutterUnit.fireActive = true →
      exec .fireLoopActive s = .next (s.setPins { s.pins with fireLoop := true }))

/-- R120: CLEAR_LINK takes the cause LINK(s) from every shutter that holds it and replies OK, in every state; with no shutter
holding it nothing changes but the link; a code outside 1 to 12 is refused. -/
def Obligations.ClearLinkTakesItsCause : Prop :=
  ∀ (s : State) (t : Byte), s.Ready .console →
    (∀ i, shutterOf t = some i → ∃ u : State,
      Answers (.clearLink .console t) s u (.ok []) ∧
      (∀ j, u.shutter j = { s.shutter j with causes := (s.shutter j).causes.put (.link i) false }) ∧
      u = { s with shutterUnit := u.shutterUnit } ∧
      u.shutterUnit = { s.shutterUnit with shutters := u.shutterUnit.shutters } ∧
      ((∀ j, (s.shutter j).causes.links.get i = false) → u = s)) ∧
    ((t = 0 ∨ 12 < t.toNat) → Refuses (.clearLink .console t) s .badTarget)

/-- The end of a condition takes its cause from every shutter and leaves the rest of each: RELEASE_MANUAL with the button open,
a gate heat line that goes inactive, and the fire loop (R111, R114, R116, R118). The opening of the button is recorded only.
FIRE_LOOP_INACTIVE with the fire-active flag clear is no change of the loop (DESIGN CHOICE, log entry 16). -/
def Obligations.EndedConditionsClearTheirCause : Prop :=
  ∀ s : State, s.Awake →
    (s.Ready .console →
      (s.shutterUnit.buttonClosed = true → Refuses (.releaseManual .console 0) s .causeActive) ∧
      (s.shutterUnit.buttonClosed = false →
        Answers (.releaseManual .console 0) s (s.clearCause .manual) (.ok []))) ∧
    (∀ p, s.pins.gateHeat.get p = true →
      exec (.gateHeatChange p false) s =
        .next ((s.setPins { s.pins with gateHeat := s.pins.gateHeat.set p false }).clearCause (.heat p))) ∧
    (s.shutterUnit.fireActive = true →
      Leads .fireLoopInactive s fun t =>
        t.shutterUnit = { (s.clearCause .fire).shutterUnit with fireActive := false } ∧ t.bankView = s.bankView) ∧
    (s.shutterUnit.fireActive = false →
      exec .fireLoopInactive s = .next (s.setPins { s.pins with fireLoop := false })) ∧
    exec .dropButtonOpen s =
      .next { s with
        pins := { s.pins with dropButton := false }
        shutterUnit := { s.shutterUnit with buttonClosed := false } } ∧
    ∀ (k : DropCause) (i : ShutterNo),
      (s.clearCause k).shutter i = { s.shutter i with causes := (s.shutter i).causes.put k false } ∧
      ∀ c, ((s.shutter i).causes.put k false).has c = (decide (c ≠ k) && (s.shutter i).causes.has c)

/-- REARM energises the solenoid of a DROPPED shutter held by no cause but POWER, for 30 s; the home switch closing in ARMING
brings it UP; the timer running out drops it again with its cause set empty (R121 to R123). An arming timer that is idle, or
out of ARMING, does not run out (DEDUCED, log entry 22). -/
def Obligations.RearmRaisesAShutter : Prop :=
  ∀ (s : State) (i : ShutterNo), s.Awake →
    (∀ t, s.Ready .console → shutterOf t = some i →
      ((s.shutter i).state ≠ .dropped → Refuses (.rearm .console t) s .state) ∧
      ((s.shutter i).state = .dropped → (∃ c, c ≠ .power ∧ (s.shutter i).causes.has c = true) →
        Refuses (.rearm .console t) s .causeActive) ∧
      ((s.shutter i).state = .dropped → (∀ c, c ≠ .power → (s.shutter i).causes.has c = false) →
        Answers (.rearm .console t) s
          (s.setShutter i
            { s.shutter i with causes := .empty, energised := true, armingTimer := some 30000, state := .arming })
          (.ok []))) ∧
    ((s.shutter i).state = .arming →
      ((s.shutter i).homeClosed = false →
        Leads (.homeSwitchChange i true) s fun t =>
          t.shutterUnit = (s.setShutter i
            { s.shutter i with homeClosed := true, state := .up, armingTimer := none }).shutterUnit) ∧
      ((s.shutter i).armingTimer ≠ none →
        Leads (.armingTimerExpiry i) s fun t =>
          t.shutterUnit = (s.setShutter i
            { s.shutter i with energised := false, state := .dropped, armingTimer := none }).shutterUnit)) ∧
    (((s.shutter i).state ≠ .arming ∨ (s.shutter i).armingTimer = none) → exec (.armingTimerExpiry i) s = .next s)

/-- Every step keeps the shutters sound, and keeps arcs out and shutters down while fire is active (R92, R105, R106, R113). -/
def Obligations.StepsKeepShuttersSound : Prop :=
  ∀ s t : State, s.ShuttersSound → s.FireSound → step s = .next t → t.ShuttersSound ∧ t.FireSound

/-! ## House -/

/-- SET_LEVEL starts a fade unless the channel is held; a fade advances by tenths of a second, rounded toward its target, and
ends on it, and a channel without a fade does not advance (DEDUCED, log entry 22); RECALL_SCENE fades the channels with a level
that are not held and counts those held; RELEASE_HOLD frees the channels of a key whose condition has passed (R126, R127, R129,
R142). A show that starts clears the firing marks of its screen and marks the SHOW_START entries (R130, R131), and a frame
crossed by the showing reel marks the entries anchored at it (R130, R132). The fire-active notice and a BREAK halt out of
SHOWING fire their standing actions, which take the channels that their rank allows (R140, R141). The replies to SET_LEVEL and
the data of the others are laid out as R191 and Table 63 have them; that an OK reply carries no data is DEDUCED, log entry 18.
-/
def Obligations.FadesAndHolds : Prop :=
  ∀ (s : State) (c : ChannelNo), s.Awake →
    (∀ (st : Station) (t level : Byte) (fade : Half), s.Ready st → st ≠ .program → channelOf t = some c →
      ((s.channel c).holder ≠ none → Refuses (.setLevel st t level fade) s .held) ∧
      ((s.channel c).holder = none →
        ((100 < level.toNat ∨ 6000 < fade.toNat) → Refuses (.setLevel st t level fade) s .range) ∧
        (level.toNat ≤ 100 → fade = 0 →
          Answers (.setLevel st t level fade) s
            (s.setChannel c { s.channel c with level := level.toNat, fade := none }) (.ok [])) ∧
        (level.toNat ≤ 100 → fade ≠ 0 → fade.toNat ≤ 6000 →
          Answers (.setLevel st t level fade) s
            (s.setChannel c { s.channel c with fade := some ⟨(s.channel c).level, level.toNat, fade.toNat, 0, 100⟩ })
            (.ok [])))) ∧
    ((s.channel c).fade = none → exec (.fadeAdvance c) s = .next s) ∧
    (∀ f, (s.channel c).fade = some f →
      (f.total ≤ f.elapsed + 1 →
        exec (.fadeAdvance c) s = .next (s.setChannel c { s.channel c with level := f.target, fade := none })) ∧
      (f.elapsed + 1 < f.total →
        exec (.fadeAdvance c) s = .next (s.setChannel c { s.channel c with
          level :=
            if f.target < f.start then f.start - ((f.start - f.target) * (f.elapsed + 1) + f.total - 1) / f.total
            else f.start + ((f.target - f.start) * (f.elapsed + 1) + f.total - 1) / f.total
          fade := some { f with elapsed := f.elapsed + 1, advanceLeft := 100 } }))) ∧
    (∀ (st : Station) (t k : Byte) (fade : Half) (n : ScreenNo), s.Ready st → st ≠ .program → screenOf t = some n →
      ((k = 0 ∨ 8 < k.toNat ∨ 6000 < fade.toNat) → Refuses (.recallScene st t k fade) s .range) ∧
      (1 ≤ k.toNat → k.toNat ≤ 8 → fade.toNat ≤ 6000 → ∃ u : State,
        Answers (.recallScene st t k fade) s u
          (.ok [BitVec.ofNat 8 (allPositions.filter fun x =>
            ((s.scene n k.toNat).get x).isSome && (s.channel ⟨n, x⟩).holder.isSome).length]) ∧
        u = { s with house := { s.house with channels := u.house.channels } } ∧
        ∀ d : ChannelNo, u.channel d =
          if d.screen = n ∧ (s.channel d).holder = none then
            match (s.scene n k.toNat).get d.pos with
            | some l => (s.channel d).startFade l fade.toNat
            | none => s.channel d
          else s.channel d)) ∧
    (∀ (st : Station) (t : Byte) (k : StandingKey), s.Ready st → st ≠ .program → standingOf t = some k →
      (s.standingClear k = false → Refuses (.releaseHold st t) s .causeActive) ∧
      (s.standingClear k = true → ∃ u : State,
        Answers (.releaseHold st t) s u (.ok [BitVec.ofNat 8 (s.heldBy k)]) ∧
        u = { s with house := { s.house with channels := u.house.channels } } ∧
        u.channel c = if (s.channel c).holder = some k then { s.channel c with holder := none } else s.channel c)) ∧
    (∀ (t : Byte) (n : ScreenNo), s.Ready .console → screenOf t = some n → (s.showRec n).state ≠ .playing →
      s.readiness n = .pass →
      Leads (.startShow .console t) s fun u =>
        (∀ k, 1 ≤ k → k ≤ 16 → (member (u.house.marks.get n) k = true ↔
          ∃ x, (s.bankIn n .current).cues[k - 1]? = some x ∧ x.anchor = .showStart)) ∧
        ∀ m, m ≠ n → u.house.marks.get m = s.house.marks.get m) ∧
    (∀ (p : ProjNo) (interval r : Nat), (s.projector p).runState = .showing → (s.projector p).loaded = some r →
      (s.screen p.screen).showingSide = some p.side → (s.showRec p.screen).state ≠ .held →
      (s.tracker p).counter < 65535 → (∀ x, s.loadedRecord p = some x → (s.tracker p).counter + 1 < x.pictureEnd) →
      Leads (.sprocketPulse p interval) s fun t =>
        ∀ k, 1 ≤ k → k ≤ 16 → (member (t.house.marks.get p.screen) k = true ↔
          member (s.house.marks.get p.screen) k = true ∨
            ∃ x, (s.bankIn p.screen .current).cues[k - 1]? = some x ∧ x.anchor = .reelFrame r ((s.tracker p).counter + 1))) ∧
    (s.shutterUnit.fireActive = false →
      Leads .fireLoopActive s fun t =>
        t.house = { s.house with channels := t.house.channels } ∧
        t.channel c = match s.retained.standing.fire with
          | none => s.channel c
          | some e => (s.channel c).stood .fire e (e.levels.get c.pos)) ∧
    (∀ p : ProjNo, (s.projector p).runState = .showing → s.atPictureEnd p = false →
      (∀ m, (s.showRec m).state ≠ .held) →
      Leads (.loopLost p) s fun t =>
        t.house = { s.house with channels := t.house.channels } ∧
        t.channel c = match s.retained.standing.breaks.get p.screen with
          | none => s.channel c
          | some e =>
            if c.screen = p.screen then (s.channel c).stood (.filmBreak p.screen) e (e.levels.get c.pos) else s.channel c)

/-- CURTAIN moves a curtain as its state and its limits say (R136), a limit switch ends a travel at its own end and finds a
curtain moved by hand (R137), and a travel timer that runs out leaves the curtain STALLED (R138). A switch at its recorded
level has not changed (DESIGN CHOICE, log entry 16), and a travel timer that is idle does not run out (DEDUCED, log entry 22).
-/
def Obligations.CurtainsMoveBetweenLimits : Prop :=
  ∀ (s : State) (n : ScreenNo) (c : Curtain) (ms : Nat), s.Awake → c = s.curtain n →
    ms = s.retained.travelTime.get n * 1000 →
    (∀ (st : Station) (t : Byte), s.Ready st → st ≠ .program → screenOf t = some n →
      (∀ a : Byte, (a = 0 ∨ 3 < a.toNat) → Refuses (.curtain st t a) s .range) ∧
      Answers (.curtain st t 1) s
        (s.setCurtain n
          (if c.state = .opening ∨ c.state = .opened then c
          else if c.state ≠ .closing ∧ c.openLimit = true then { c with state := .opened, timer := none }
          else { c with state := .opening, timer := some ms })) (.ok []) ∧
      Answers (.curtain st t 2) s
        (s.setCurtain n
          (if c.state = .closing ∨ c.state = .closed then c
          else if c.state ≠ .opening ∧ c.closedLimit = true then { c with state := .closed, timer := none }
          else { c with state := .closing, timer := some ms })) (.ok []) ∧
      Answers (.curtain st t 3) s
        (s.setCurtain n
          (if c.state = .opening ∨ c.state = .closing then { c with state := .halfway, timer := none } else c)) (.ok [])) ∧
    (∀ (k : CurtainLimit) (closed : Bool) (q : Pins), q = s.pins.limit n k closed →
      (c.recorded k = closed → exec (.limitSwitchChange n k closed) s = .next (s.setPins q)) ∧
      (c.recorded k ≠ closed →
        exec (.limitSwitchChange n k closed) s = .next ((s.setPins q).setCurtain n
          (match k, closed with
          | .openLimit, true =>
            if c.state = .opening then { c with openLimit := true, state := .opened, timer := none }
            else { c with openLimit := true }
          | .closedLimit, true =>
            if c.state = .closing then { c with closedLimit := true, state := .closed, timer := none }
            else { c with closedLimit := true }
          | .openLimit, false => { c with openLimit := false, state := if c.state = .opened then .halfway else c.state }
          | .closedLimit, false =>
            { c with closedLimit := false, state := if c.state = .closed then .halfway else c.state })))) ∧
    (c.timer = none → exec (.travelTimerExpiry n) s = .next s) ∧
    (c.timer ≠ none →
      exec (.travelTimerExpiry n) s = .next
        { s.setCurtain n { c with state := .stalled, timer := none } with attention := s.offered (.stall n) })

/-! ## Clock and shows -/

/-- Fifty or sixty mains pulses make a group, by the MSEL strap, and the last of them is a one-second event. It raises the
booth seconds, which saturate, begins a fresh group, gives the duty unit the second notice, and has the scheduler call, start,
hold or give up each screen whose instant the new count has reached (R145, R150, R152, R153, R169). ONE_SECOND_EVENT is the
same event for a sender that does not give the single pulses (DESIGN CHOICE, log entry 6). SET_CLOCK makes the time of day what
it carries and arms the screens in WAITING and CALLED (R146, R149); that its OK reply carries no data is DEDUCED, log entry 18.
-/
def Obligations.ClockCountsSeconds : Prop :=
  ∀ s : State, s.Awake →
    (s.clock.pulses + 1 < (if s.pins.msel then 60 else 50) →
      exec .mainsPulse s = .next { s with clock := { s.clock with pulses := s.clock.pulses + 1 } }) ∧
    ((if s.pins.msel then 60 else 50) ≤ s.clock.pulses + 1 → exec .mainsPulse s = exec .oneSecondEvent s) ∧
    (∀ b, b = min 4294967295 (s.clock.boothSeconds + 1) →
      let reached := fun n => match (s.showRec n).state, (s.showRec n).next with
        | .waiting, some x => x.call ≤ b
        | .called, some x => x.start ≤ b
        | .held, some x => ∃ h, x.hold = some h ∧ h ≤ b
        | _, _ => False
      Leads .oneSecondEvent s fun t =>
        t.clock = { s.clock with boothSeconds := b, pulses := 0 } ∧ t.retained = s.retained ∧
        ((∀ n, ¬ reached n) → t.duty = s.duty.map fun e => { e with overdue := e.overdue || decide (e.due ≤ b) }) ∧
        ∀ (n : ScreenNo) (r : ShowRec), r = s.showRec n →
          (¬ reached n → t.showRec n = r ∧ t.screen n = s.screen n) ∧
          (∀ x, r.next = some x → reached n →
            (r.state = .waiting → b < x.start →
              t.showRec n = { r with state := .called, readiness := s.readiness n } ∧ t.screen n = s.screen n) ∧
            (r.state = .called → s.readiness n ≠ .pass → b < x.start + 600 →
              t.showRec n = ⟨.held, some { x with hold := some (x.start + 600) }, s.readiness n⟩ ∧
              (t.booth.bell.held.get n).isSome = true) ∧
            (∀ h, r.state = .called → s.readiness n = .pass → s.header n = some h →
              t.showRec n = ⟨.playing, none, .pass⟩ ∧ (t.screen n).state = .starting ∧
              (t.screen n).opening = some ⟨n, h.firstSide⟩ ∧ (t.screen n).currentReel = some 1 ∧
              (t.projector ⟨n, h.firstSide⟩).runState = .starting) ∧
            (r.state = .held →
              (t.showRec n).state = t.armedState n ∧ (t.showRec n).next = t.chosenStart n ∧
              t.booth.bell.held.get n = none))) ∧
    (s.Ready .program →
      (∀ x : Long, 86399 < x.toNat → Refuses (.setClock .program 0 x) s .range) ∧
      (∀ x : Long, x.toNat ≤ 86399 →
        Leads (.setClock .program 0 x) s fun u =>
          u.Sends (.setClock .program 0 x) (.ok []) ∧ u.timeOfDay = x.toNat ∧ u.retained.dayOffset < 86400 ∧
          u.retained = { s.retained with dayOffset := u.retained.dayOffset } ∧
          u.clock = { s.clock with unset := false } ∧
          (∀ n, ((s.showRec n).state = .waiting ∨ (s.showRec n).state = .called) →
            (u.showRec n).next = nextStart (s.bankIn n .current).starts x.toNat s.clock.boothSeconds ∧
            (u.showRec n).state = u.armedState n) ∧
          (∀ n, ((s.showRec n).state = .held ∨ (s.showRec n).state = .playing) → u.showRec n = s.showRec n)))

/-- A call instant calls a WAITING screen; a start instant starts a CALLED screen whose readiness test passes and holds any
other, with a hold limit ten minutes on; a hold limit gives a HELD start up and arms the next (R150, R152, R153). An instant
that is not reached, or in another show state, changes nothing. The instants are commands of their own beside the checks of a
one-second event: DESIGN CHOICE, log entry 6. -/
def Obligations.InstantsCallStartAndHold : Prop :=
  ∀ (s : State) (n : ScreenNo) (r : ShowRec) (b : Nat), s.Awake → r = s.showRec n → b = s.clock.boothSeconds →
    ((r.state ≠ .waiting ∨ r.next = none) → exec (.callInstant n) s = .next s) ∧
    ((r.state ≠ .called ∨ r.next = none) → exec (.startInstant n) s = .next s) ∧
    ((r.state ≠ .held ∨ r.next = none ∨ ∃ x, r.next = some x ∧ x.hold = none) → exec (.holdLimit n) s = .next s) ∧
    (∀ x, r.next = some x →
      (b < x.call → exec (.callInstant n) s = .next s) ∧
      (b < x.start → exec (.startInstant n) s = .next s) ∧
      (r.state = .waiting → x.call ≤ b →
        Leads (.callInstant n) s fun t =>
          t.showRec n = { r with state := .called, readiness := s.readiness n } ∧ t.projectors = s.projectors ∧
          t.screens = s.screens ∧ t.bankView = s.bankView ∧ t.fixed = s.fixed) ∧
      (r.state = .called → x.start ≤ b → s.readiness n ≠ .pass →
        Leads (.startInstant n) s fun t =>
          t.showRec n = ⟨.held, some { x with hold := some (x.start + 600) }, s.readiness n⟩ ∧
          (t.booth.bell.held.get n).isSome = true ∧ t.projectors = s.projectors ∧ t.screens = s.screens) ∧
      (∀ h, r.state = .called → x.start ≤ b → s.readiness n = .pass → s.header n = some h →
        Leads (.startInstant n) s fun t =>
          t.showRec n = ⟨.playing, none, .pass⟩ ∧
          t.screen n = { s.screen n with
            state := .starting, opening := some ⟨n, h.firstSide⟩, currentReel := some 1, sound := h.firstSide } ∧
          (t.projector ⟨n, h.firstSide⟩).runState = .starting ∧ t.bankView = s.bankView ∧
          t.shutterUnit = s.shutterUnit) ∧
      (∀ h, r.state = .held → x.hold = some h →
        (b < h → exec (.holdLimit n) s = .next s) ∧
        (h ≤ b →
          Leads (.holdLimit n) s fun t =>
            (t.showRec n).state = s.armedState n ∧ (t.showRec n).next = s.chosenStart n ∧
            t.booth.bell.held.get n = none ∧ t.projectors = s.projectors ∧ t.screens = s.screens)))

/-- START_SHOW starts a show whose readiness test passes and resumes one that PLAYS on a DARK screen, in the checks of R154 and
R155; STOP_SHOW gives up a show that PLAYS on a DARK screen and arms the next start (R156). That a start stores PASS, and a
refused START_SHOW stores nothing, is log entry 15. -/
def Obligations.ShowsStartAndStop : Prop :=
  ∀ (s : State) (t : Byte) (n : ScreenNo), s.Ready .console → screenOf t = some n →
    ((s.showRec n).state ≠ .playing →
      (s.shutterUnit.fireActive = true → Refuses (.startShow .console t) s .fire) ∧
      (s.shutterUnit.fireActive = false → s.readiness n ≠ .pass →
        ((s.showRec n).state = .waiting ∨ s.readinessFails n ≠ [.carbon]) →
        Answers (.startShow .console t) s s (.notReady (s.readiness n))) ∧
      (∀ h, s.readiness n = .pass → s.header n = some h →
        Leads (.startShow .console t) s fun u =>
          u.Sends (.startShow .console t) (.ok []) ∧ u.showRec n = ⟨.playing, none, .pass⟩ ∧
          (u.screen n).state = .starting ∧ (u.screen n).opening = some ⟨n, h.firstSide⟩ ∧
          (u.screen n).currentReel = some 1 ∧ (u.projector ⟨n, h.firstSide⟩).runState = .starting ∧
          ((s.showRec n).state = .held → u.booth.bell.held.get n = none)) ∧
      Refuses (.stopShow .console t) s .state) ∧
    ((s.showRec n).state = .playing → (s.screen n).state ≠ .dark →
      Refuses (.startShow .console t) s .state ∧ Refuses (.stopShow .console t) s .state) ∧
    ((s.showRec n).state = .playing → (s.screen n).state = .dark →
      (s.shutterUnit.fireActive = true → Refuses (.startShow .console t) s .fire) ∧
      (s.shutterUnit.fireActive = false →
        (s.resumeHolder n = none →
          Answers (.startShow .console t) s s (.notReady (.fail .projectorReel))) ∧
        (∀ p r, s.resumeHolder n = some (p, r) →
          (s.resumeTest p r = .pass →
            Leads (.startShow .console t) s fun u =>
              u.Sends (.startShow .console t) (.ok []) ∧ (u.screen n).state = .starting ∧
              (u.screen n).opening = some p ∧ (u.screen n).currentReel = some r ∧ (u.screen n).sound = p.side ∧
              (u.projector p).runState = .starting ∧ (u.showRec n).state = .playing) ∧
          (∀ x, s.resumeTest p r = .fail x → x ≠ .carbon →
            Answers (.startShow .console t) s s (.notReady (.fail x))))) ∧
      Leads (.stopShow .console t) s (fun u =>
        u.Sends (.stopShow .console t) (.ok []) ∧ (u.showRec n).state = s.armedState n ∧
        (u.showRec n).next = s.chosenStart n ∧ u.screens = s.screens ∧ u.bankView = s.bankView ∧
        ∀ d, u.projector ⟨n, d⟩ = { s.projector ⟨n, d⟩ with
          assigned := if (s.projector ⟨n, d⟩).runState = .empty then s.openingReel ⟨n, d⟩
            else (s.projector ⟨n, d⟩).assigned }))

/-- SET_STARTS writes the start list of a CURRENT or NEXT bank that is not CLEARING, in the checks of R147, makes an EMPTY bank
DRAFT (R10), and arms the screen of a CURRENT bank (R149). -/
def Obligations.StartListsAreWritten : Prop :=
  ∀ (s : State) (t : Byte) (n : ScreenNo) (role : Role) (b : Bank) (l : List Half), s.Ready .program →
    bankOf t = some (n, role) → b = s.bankIn n role → l.length ≤ 28 →
    (b.state = .clearing → Refuses (.setStarts .program t l) s .bankClearing) ∧
    (b.state ≠ .clearing → role = .spare → Refuses (.setStarts .program t l) s .bankInUse) ∧
    (b.state ≠ .clearing → role ≠ .spare →
      ((8 < l.length ∨ (∃ x ∈ l, 1439 < x.toNat) ∨ ¬ (l.map BitVec.toNat).Pairwise (· < ·)) →
        Refuses (.setStarts .program t l) s .range) ∧
      (l.length ≤ 8 → (∀ x ∈ l, x.toNat ≤ 1439) → (l.map BitVec.toNat).Pairwise (· < ·) →
        Leads (.setStarts .program t l) s fun u =>
          u.Sends (.setStarts .program t l) (.ok (byte1 (s.bankNo n role).code)) ∧
          u.bank n (s.bankNo n role) = { b with
            starts := l.map BitVec.toNat
            state := if b.state = .empty then .draft else b.state } ∧
          (∀ m x, (m, x) ≠ (n, s.bankNo n role) → u.bank m x = s.bank m x) ∧
          (role = .next → u.shows = s.shows) ∧
          (role = .current → (s.showRec n).state = .waiting ∨ (s.showRec n).state = .called → s.clock.unset = false →
            (u.showRec n).next = nextStart (l.map BitVec.toNat) s.timeOfDay s.clock.boothSeconds)))

/-! ## Duty list -/

/-- An insertion goes after the entries due no later and before those due later; a key that is present is not inserted again; a
full list loses its last entry or the new one (R161, R162). A derivation for a projector settles its THREAD and STRIKE entries
by the need times of Table 49, and leaves the other entries (R163 to R165). Threading removes the THREAD entry, and a projector
cleared for a reel that is needed gets one. LOW raises a RETRIM entry (R167), an arming timeout raises a REARM entry again, and
a shutter that comes UP loses its own (R168). -/
def Obligations.DutiesStandInDueOrder : Prop :=
  (∀ (l : List DutyEntry) (e : DutyEntry), DutySound l →
    DutySound (dutyInsert l e).1 ∧
    (e.key ∈ l.map (·.key) → dutyInsert l e = (l, none)) ∧
    (e.key ∉ l.map (·.key) →
      (l.length < 16 → ∃ before after, l = before ++ after ∧ dutyInsert l e = (before ++ e :: after, none) ∧
        (∀ x ∈ before, x.due ≤ e.due) ∧ ∀ x ∈ after, e.due < x.due) ∧
      (∀ rest last, l = rest ++ [last] → l.length = 16 →
        (last.due ≤ e.due → dutyInsert l e = (l, some e.key)) ∧
        (e.due < last.due → ∃ before after, rest = before ++ after ∧
          dutyInsert l e = (before ++ e :: after, some last.key) ∧ (∀ x ∈ before, x.due ≤ e.due) ∧
          ∀ x ∈ after, e.due < x.due)))) ∧
  (∀ (s : State) (n : ScreenNo) (r : Nat),
    (s.header n = none ∨ (s.showRec n).state = .waiting → s.needTime n r = none) ∧
    (∀ h k, s.header n = some h → (s.showRec n).state = .playing → (s.screen n).currentReel = some k →
      (r = k → s.needTime n r = some s.clock.boothSeconds) ∧ (r < k → s.needTime n r = none) ∧
      (∀ x, k < r → s.reelRecord n (r - 1) = some x →
        ((s.projector ⟨n, .a⟩).loaded ≠ some (r - 1) → (s.projector ⟨n, .b⟩).loaded ≠ some (r - 1) →
          s.needTime n r = some (s.clock.boothSeconds + (x.motorCue + 23) / 24)) ∧
        (∀ d : Side, (s.projector ⟨n, d⟩).loaded = some (r - 1) → (s.projector ⟨n, d.other⟩).loaded ≠ some (r - 1) →
          s.needTime n r =
            some (s.clock.boothSeconds + (x.motorCue - (s.tracker ⟨n, d⟩).counter + 23) / 24))) ∧
      (k < r → s.reelRecord n (r - 1) = none → s.needTime n r = none)) ∧
    (∀ h x, s.header n = some h → ((s.showRec n).state = .called ∨ (s.showRec n).state = .held) →
      (s.showRec n).next = some x →
      (r = 1 → s.needTime n r = some x.start) ∧
      (∀ y, r = 2 → s.reelRecord n 1 = some y → s.needTime n r = some (x.start + (y.motorCue + 23) / 24)) ∧
      (r = 2 → s.reelRecord n 1 = none → s.needTime n r = none) ∧ (2 < r → s.needTime n r = none))) ∧
  (∀ (s : State) (p : ProjNo) (t : State) (b : Nat), DutySound s.duty → s.duty.length ≤ 14 → t = s.derive [p] →
    b = s.clock.boothSeconds →
    let settled := fun (k : DutyKey) (r : Option Nat) (d : Nat) => ∃ e ∈ t.duty, e.key = k ∧ e.reel = r ∧
      (e.due = max d b ∨ e ∈ s.duty ∧ e.overdue = true ∧ d ≤ b)
    t = { s with duty := t.duty } ∧
    (∀ e : DutyEntry, e.key ≠ .thread p → e.key ≠ .strike p → (e ∈ t.duty ↔ e ∈ s.duty)) ∧
    (∀ r need, (s.projector p).runState = .empty → (s.projector p).assigned = some r →
      s.needTime p.screen r = some need → settled (.thread p) (some r) (min 4294967295 (need - 180))) ∧
    (((s.projector p).runState ≠ .empty ∨ ∀ r, (s.projector p).assigned = some r → s.needTime p.screen r = none) →
      ∀ e ∈ t.duty, e.key ≠ .thread p) ∧
    (∀ r need, (s.projector p).runState = .threaded → (s.arc p).state = .off → (s.projector p).loaded = some r →
      s.needTime p.screen r = some need → settled (.strike p) none (min 4294967295 (need - 120))) ∧
    (((s.projector p).runState ≠ .threaded ∨ (s.arc p).state ≠ .off ∨
        ∀ r, (s.projector p).loaded = some r → s.needTime p.screen r = none) →
      ∀ e ∈ t.duty, e.key ≠ .strike p)) ∧
  ∀ (s : State) (p : ProjNo) (i : ShutterNo), s.Awake → DutySound s.duty →
    ((s.projector p).runState = .empty → (s.projector p).assigned ≠ none →
      Leads (.threadedSwitchClose p) s fun t => ∀ e ∈ t.duty, e.key ≠ .thread p) ∧
    (∀ c r need, s.Ready .console → projOf c = some p →
      (s.projector p).runState = .threaded ∨ (s.projector p).runState = .halted → s.duty.length ≤ 8 →
      (s.showRec p.screen).state = .playing → (s.projector p).loaded = some r → s.needTime p.screen r = some need →
      (s.screen p.screen).currentReel = some r →
      Leads (.clearProjector .console c) s fun t => ∃ e ∈ t.duty, e.key = .thread p ∧ e.reel = some r) ∧
    (∀ h l left, (s.arc p).train = .high h l left → 2 ≤ (s.arcStore p).remaining →
      (s.arcStore p).remaining - 1 ≤ (s.arcStore p).reserve → (s.arc p).low = false → s.duty.length ≤ 8 →
      Leads (.feedHighPhaseEnd p) s fun t => ∃ e ∈ t.duty, e.key = .retrim p) ∧
    ((s.shutter i).state = .arming → (s.shutter i).armingTimer ≠ none → s.duty.length < 16 →
      Leads (.armingTimerExpiry i) s fun t => ⟨.rearm i, none, s.clock.boothSeconds, false⟩ ∈ t.duty) ∧
    ((s.shutter i).state = .arming → (s.shutter i).homeClosed = false →
      Leads (.homeSwitchChange i true) s fun t => ∀ e ∈ t.duty, e.key ≠ .rearm i)

/-! ## Links and attention -/

/-- A character on TXD is a start bit at space, eight data bits with the least significant first, a correct parity bit unless
the mode is NONE, and a stop bit at mark; a reply in transmission is such characters. A received character is bad with a wrong
parity bit or a stop bit at space (R173). A good lead byte opens a collection, the length byte, the code, the target and the
data join it, a length byte above 56 ends it, a complete frame that passes its checks leaves its request PENDING, and one that
is bad, or whose sum is not 0, or that fails a later check is refused by the link; a gap abandons a collection, and behind an
outstanding request a frame is discarded with LINK(OVERRUN) (R173 to R178, R180). That a refused frame is held as the
outstanding request while its reply is sent is DESIGN CHOICE, log entry 10; that RXD is left at the stop bit's level is DESIGN
CHOICE, log entry 20; that a gap timer without a collection does not run out is DEDUCED, log entry 22. -/
def Obligations.CharactersMakeFrames : Prop :=
  (∀ (m : Parity) (d : Byte) (bit : Bool),
    (m.character d).length = (if m = .none then 10 else 11) ∧ (m.character d)[0]? = some .space ∧
    (∀ i, i < 8 → (m.character d)[i + 1]? = some (if d.getLsbD i then .mark else .space)) ∧
    (m.character d).getLast? = some .mark ∧
    (m.character d)[9]? = some (match m.bit d with
      | none => .mark
      | some b => if b then .mark else .space) ∧
    (∀ b, m.bit d = some b → parityError m d b = false) ∧ (m.bit d = none ↔ m = .none) ∧
    (let sum := ((List.range 8).filter fun i => d.getLsbD i).length + bit.toNat
    parityError m d bit = match m with
      | .none => false
      | .even => decide (sum % 2 = 1)
      | .odd => decide (sum % 2 = 0)
      | .mark => !bit
      | .space => bit)) ∧
  ∀ (s : State) (st : Station) (l : Link), s.Awake → l = s.link st → s.pins.rxd.get st = .mark → l.awaitMark = false →
    (∀ cs, l.reply = some cs → s.txd st = cs.flatMap fun x => l.parity.character x) ∧
    (let err := parityError l.parity
    let broken := fun (c : Option Collection) =>
      ((s.setPins { s.pins with rxd := s.pins.rxd.set st .space }).setLink st { l with
        collection := c
        awaitMark := true
        breakTimer := if l.breakTaken then l.breakTimer else some 250 })
    (l.collection = none →
      exec (.gapTimerExpiry st) s = .next s ∧
      (∀ d bit, (d ≠ 0xA5 ∨ err d bit = true) → exec (.receiveCharacter st d bit .mark) s = .next s) ∧
      (∀ bit, err 0xA5 bit = false → exec (.receiveCharacter st 0xA5 bit .mark) s = .next (s.setLink st { l with
        collection := some ⟨[0xA5], false, 100⟩
        state := if l.state = .idle then .inFrame else l.state })) ∧
      (∀ d bit, exec (.receiveCharacter st d bit .space) s = .next (broken none))) ∧
    (∀ c : Collection, l.collection = some c →
      exec (.gapTimerExpiry st) s =
        .next { s.setLink st { l with
          collection := none, state := if l.state = .inFrame then .idle else l.state } with
            attention := s.offered (.gap st) } ∧
      (∀ d bit, c.chars = [0xA5] → d.toNat ≤ 56 →
        exec (.receiveCharacter st d bit .mark) s =
          .next (s.setLink st { l with collection := some ⟨[0xA5, d], c.bad || err d bit, 100⟩ }) ∧
        exec (.receiveCharacter st d bit .space) s = .next (broken (some ⟨[0xA5, d], true, 100⟩))) ∧
      (∀ d bit, c.chars = [0xA5] → 56 < d.toNat →
        ((l.state = .idle ∨ l.state = .inFrame) →
          exec (.receiveCharacter st d bit .mark) s = .next (s.setLink st { l with
            collection := none
            state := .replying
            outstanding := some ⟨0, 0, []⟩
            reply := some (replyFrame 0 0 ⟨.badFrame, []⟩) })) ∧
        ((l.state = .pending ∨ l.state = .replying) →
          exec (.receiveCharacter st d bit .mark) s =
            .next { s.setLink st { l with collection := none } with attention := s.offered (.overrun st) })) ∧
      (∀ (n : Byte) (rest : List Byte) (d : Byte) (bit : Bool), c.chars = 0xA5 :: n :: rest →
        rest.length + 1 < n.toNat + 3 →
        exec (.receiveCharacter st d bit .mark) s =
          .next (s.setLink st { l with collection := some ⟨c.chars ++ [d], c.bad || err d bit, 100⟩ }) ∧
        exec (.receiveCharacter st d bit .space) s = .next (broken (some ⟨c.chars ++ [d], true, 100⟩))) ∧
      (∀ (r : Request) (sum : Byte) (bit : Bool) (n : Byte), n.toNat = r.data.length → n.toNat ≤ 56 →
        c.chars = 0xA5 :: n :: r.code :: r.target :: r.data →
        let zero := byteSum (n :: r.code :: r.target :: (r.data ++ [sum])) = 0
        let refused := fun (e : Status) =>
          exec (.receiveCharacter st sum bit .mark) s = .next (s.setLink st { l with
            collection := none
            state := .replying
            outstanding := some r
            reply := some (replyFrame r.code r.target ⟨e, []⟩) })
        ((l.state = .idle ∨ l.state = .inFrame) →
          (c.bad = false → err sum bit = false → zero →
            (requestFault st r = none →
              exec (.receiveCharacter st sum bit .mark) s = .next (s.setLink st { l with
                collection := none, state := .pending, outstanding := some r })) ∧
            (∀ e, requestFault st r = some e → refused e)) ∧
          ((c.bad = true ∨ err sum bit = true ∨ ¬ zero) → refused .badFrame)) ∧
        ((l.state = .pending ∨ l.state = .replying) →
          exec (.receiveCharacter st sum bit .mark) s =
            .next { s.setLink st { l with collection := none } with attention := s.offered (.overrun st) }))))

/-- A request that is PENDING is taken by its block: every record becomes what the same request arriving whole at the idle link
makes of it, and its answer is sent. A reply that is complete leaves the link IDLE or IN_FRAME under the parity mode to apply;
a line break sets the link and its station's record up afresh; RXD starts and stops the break timer (R179, R182). That a
request command brings its whole frame to an idle link is DESIGN CHOICE, log entry 1. The wait for mark that a framing error
begins is the model's own bit, which a line break keeps and a return to mark clears (DESIGN CHOICE, log entry 20); a character
that comes in it is not received. A line at its level has not changed (DESIGN CHOICE, log entry 16); an idle break timer does
not run out, and a link that is not REPLYING completes no reply (DEDUCED, log entry 22). -/
def Obligations.LinksReplyAndBreak : Prop :=
  ∀ (s : State) (st : Station) (l : Link), s.Awake → l = s.link st →
    (∀ (c : Instr) (r : Request), l.state = .pending → l.outstanding = some r → encodeRequest c = some (st, r) →
      c.wellFormed = true → requestFault st r = none → ∃ u : State,
        exec c (s.setLink st { l with state := .idle, outstanding := none, collection := none, awaitMark := false }) =
          .next u ∧
        (u.link st).state = .replying ∧ (u.link st).outstanding = some r ∧
        exec c s = .next (u.setLink st { u.link st with collection := l.collection, awaitMark := l.awaitMark })) ∧
    (∀ t n, l.state = .pending → l.outstanding = some ⟨0x10, t, []⟩ → screenOf t = some n →
      exec (.readBanks st t) s = .next (s.reply st ⟨0x10, t, []⟩ (.ok (s.banksData n)))) ∧
    (l.state = .replying →
      exec (.replyComplete st) s = .next (s.setLink st { l with
        outstanding := none
        reply := none
        parity := l.parityToApply.getD l.parity
        parityToApply := none
        state := if l.collection.isSome then .inFrame else .idle })) ∧
    (l.state ≠ .replying → exec (.replyComplete st) s = .next s) ∧
    (l.breakTimer = none → exec (.lineBreakReset st) s = .next s) ∧
    (l.breakTimer ≠ none →
      exec (.lineBreakReset st) s = .next ((s.setLink st
        { state := .idle
          collection := none
          outstanding := none
          reply := none
          parity := .none
          parityToApply := none
          baud := (s.pins.rates.get st).baud
          breakTimer := none
          breakTaken := true
          awaitMark := l.awaitMark }).setAttn st ⟨.const none, .const false⟩)) ∧
    (s.pins.rxd.get st = .mark →
      exec (.rxdLevelChange st .mark) s = .next s ∧
      exec (.rxdLevelChange st .space) s = .next ((s.setPins { s.pins with rxd := s.pins.rxd.set st .space }).setLink st
        (if l.breakTaken then l else { l with breakTimer := some 250 }))) ∧
    (s.pins.rxd.get st = .space →
      exec (.rxdLevelChange st .space) s = .next s ∧
      exec (.rxdLevelChange st .mark) s = .next ((s.setPins { s.pins with rxd := s.pins.rxd.set st .mark }).setLink st
        { l with breakTimer := none, breakTaken := false, awaitMark := false }) ∧
      (l.awaitMark = true → ∀ d bit,
        exec (.receiveCharacter st d bit .space) s = .next s ∧
        exec (.receiveCharacter st d bit .mark) s = exec (.rxdLevelChange st .mark) s))

/-- SET_LINE, READ_STATUS, ARM_ATTENTION and READ_ATTENTION, open to every station for its own link and record (R181, R183,
R188, R189). That SET_LINE with a target other than 0 is refused with BAD_TARGET whatever its mode, out of the list too, is
DESIGN CHOICE, log entry 25. -/
def Obligations.StationsServeThemselves : Prop :=
  ∀ (s : State) (st : Station), s.Ready st →
    (∀ m : Parity,
      Answers (.setLine st 0 (BitVec.ofNat 8 m.code)) s (s.setLink st { s.link st with parityToApply := some m })
        (.ok [])) ∧
    (∀ x : Byte, (x = 0 ∨ 5 < x.toNat) → Refuses (.setLine st 0 x) s .range) ∧
    (∀ t x, t ≠ 0 → Refuses (.setLine st t x) s .badTarget ∧ Refuses (.readStatus st t) s .badTarget) ∧
    Answers (.readStatus st 0) s { s with powerRestored := s.powerRestored && decide (st ≠ .console) }
      (.ok s.statusData) ∧
    (∀ x : Half, 512 ≤ x.toNat → Refuses (.armAttention st 0 x) s .range) ∧
    (∀ x : Half, x.toNat < 512 → ∃ a : Attention,
      Answers (.armAttention st 0 x) s (s.setAttn st a) (.ok (mask2 (classMask a.armed.get))) ∧
      a.pending = (s.attn st).pending ∧
      ∀ c, a.armed.get c = ((s.attn st).armed.get c || (member x c.code && !c.urgent))) ∧
    Answers (.readAttention st 0) s (s.setAttn st ⟨.const none, (s.attn st).armed⟩) (.ok (s.attn st).data)

/-- R185, cause by cause and record by record: a cause that a block posts reaches every record at the end of the step, and each
record judges it by its own class and armed set. -/
def Obligations.CausesAreOffered : Prop :=
  ∀ (s : State) (who : Block) (c : AttnCause) (st : Station) (a b : Attention), s.work = .empty → a = s.attn st →
    b = ((s.post who c).settle).attn st →
    (∀ k, k ≠ c.cls → b.pending.get k = a.pending.get k ∧ b.armed.get k = a.armed.get k) ∧
    ((c.cls = .fire ∨ c.cls = .filmBreak ∨ a.armed.get c.cls = true) →
      (a.pending.get c.cls = none → b.pending.get c.cls = some ⟨1, c⟩) ∧
      (∀ e, a.pending.get c.cls = some e → b.pending.get c.cls = some ⟨min 255 (e.count + 1), c⟩) ∧
      ((c.cls = .fire ∨ c.cls = .filmBreak) → b.armed = a.armed) ∧
      (c.cls ≠ .fire → c.cls ≠ .filmBreak → b.armed.get c.cls = false)) ∧
    (c.cls ≠ .fire → c.cls ≠ .filmBreak → a.armed.get c.cls = false → b = a)

/-- R187: a station's line is asserted exactly while its pending set is not empty; a recording asserts it and leaves it
asserted, a cause that is not recorded leaves it, emptying the set releases it, and the lines of the other stations are their
own. -/
def Obligations.AttentionLinesFollowPendingSets : Prop :=
  ∀ (s : State) (st : Station),
    (s.attentionLine st = true ↔ ∃ c, (s.attn st).pending.get c ≠ none) ∧
    (∀ c, (s.offer c).attn st = s.attn st → (s.offer c).attentionLine st = s.attentionLine st) ∧
    (∀ c, (s.offer c).attn st ≠ s.attn st → (s.offer c).attentionLine st = true) ∧
    (∀ x, (s.setAttn st ⟨.const none, x⟩).attentionLine st = false ∧
      ∀ r, r ≠ st → (s.setAttn st ⟨.const none, x⟩).attentionLine r = s.attentionLine r)

/-! ## Supplies -/

/-- A power-on reset keeps a valid retained store, but for the rotation-pending flags, which it clears, and writes the defaults
over an invalid one, empties the queue of clears but for the banks found in CLEARING, brings a projector with film up HALTED
with cause POWER, drops every shutter with POWER, and sets up the rest (R20, R39, R59, R60, R84, R104, R124, R145, R148, R171,
R183, R190). The loss of the main power keeps the retained store; the loss of the standby supply makes an unpowered store
invalid (log entry 8). -/
def Obligations.SuppliesComeAndGo : Prop :=
  ∀ s : State,
    Leads .powerOnReset s (fun t =>
      t.powered = true ∧ t.pins = s.pins ∧ t.pending = s.pending ∧
      (s.retained.markerValid = true → t.retained = { s.retained with rotationPending := .const false }) ∧
      (s.retained.markerValid = false → t.retained = .default) ∧
      (∀ x, x ∈ t.bankUnit.queue ↔ (t.bank x.screen x.bank).state = .clearing) ∧
      (t.bankUnit.clearLeft = if t.bankUnit.queue = [] then none else some 2000) ∧
      (∀ p, ((t.runMarks p).filmOn = true → (t.projector p).runState = .halted ∧
          (t.projector p).haltCause = some .power ∧ (t.projector p).loaded = (t.runMarks p).reel ∧
          (t.tracker p).counter = (t.runMarks p).counter) ∧
        ((t.runMarks p).filmOn = false → (t.projector p).runState = .empty ∧
          (t.projector p).assigned = t.openingReel p ∧ (t.tracker p).counter = 0)) ∧
      (∀ p, (t.arc p).state = (if (t.arcStore p).remaining = 0 then .spent else .off)) ∧
      (∀ i, (t.shutter i).state = .dropped ∧ (t.shutter i).causes.power = true ∧ (t.shutter i).energised = false ∧
        (t.shutter i).causes.fire = s.pins.fireLoop ∧ (t.shutter i).causes.manual = s.pins.dropButton) ∧
      t.shutterUnit.fireActive = s.pins.fireLoop ∧
      (∀ n, (t.screen n).state = .dark ∧ (t.showRec n).next = none ∧
        ((t.showRec n).state = .waiting ∨ (t.showRec n).state = .playing)) ∧
      t.clock.boothSeconds = 0 ∧ t.clock.pulses = 0 ∧ t.clock.unset = true ∧ t.powerRestored = true ∧
      t.duty = allShutters.map (fun i => ⟨.rearm i, none, 0, false⟩) ∧
      (∀ st, (t.link st).state = .idle ∧ (t.link st).baud = (s.pins.rates.get st).baud ∧
        t.attentionLine st = false)) ∧
    (s.retained.markerValid = false → s.pins = .quiet →
      exec .powerOnReset s = .next { State.reset with free := s.free, pending := s.pending }) ∧
    Leads .mainPowerLoss s (fun t => t.powered = false ∧ t.retained = s.retained ∧ t.pins = s.pins ∧
      t.pending = s.pending ∧ t.free = s.free) ∧
    (s.powered = true → exec .standbySupplyLoss s = .next s) ∧
    (s.powered = false →
      exec .standbySupplyLoss s = .next { s with retained := { s.retained with markerValid := false } })

/-! ## What commands leave alone, and what steps keep -/

/-- A bank, the clear queue and the rotation-pending flags change by the commands of `writesBanks` only; a shutter record, the
fire-active flag and the button level by those of `writesShutters` only; the supplies, the input levels, the clock and the
settings by those of `writesSettings` only; and of the links, every request changes its own station's alone. -/
def Obligations.OtherCommandsLeaveThemAlone : Prop :=
  ∀ (c : Instr) (s : State), ∃ t, exec c s = .next t ∧
    (c.writesBanks = false → t.bankView = s.bankView) ∧
    (c.writesShutters = false → t.shutterUnit = s.shutterUnit) ∧
    (∀ st r, encodeRequest c = some (st, r) → t.links = s.links.set st (t.link st)) ∧
    (c.writesSettings = false →
      (encodeRequest c = none → t.fixed = s.fixed) ∧
      ∀ st r, encodeRequest c = some (st, r) → t.fixed = { s.fixed with links := s.links.set st (t.link st) })

/-- Every step keeps each changeover record as Table 21 has it, each curtain's timer as Table 41 has it, each link record as
Table 52 has it, each attention record as R184 has it, the bell with its requesters, its cadence and its output (R82, R83), and
the duty list in order (R160 to R162). -/
def Obligations.StepsKeepRecordsSound : Prop :=
  ∀ s t : State, step s = .next t →
    ((∀ n, (s.screen n).Sound) → ∀ n, (t.screen n).Sound) ∧
    ((∀ n, (s.curtain n).Sound) → ∀ n, (t.curtain n).Sound) ∧
    ((∀ st, (s.link st).Sound) → ∀ st, (t.link st).Sound) ∧
    ((∀ st, (s.attn st).Sound) → ∀ st, (t.attn st).Sound) ∧
    (s.BellSound → t.BellSound) ∧ (DutySound s.duty → DutySound t.duty)

/-- The state after a power-on reset that finds the store invalid meets every invariant of the model. -/
def Obligations.ResetIsSound : Prop :=
  State.reset.BanksSound ∧ State.reset.ProjectorsSound ∧ State.reset.ShuttersSound ∧ State.reset.FireSound ∧
    State.reset.CarbonSound ∧ State.reset.BellSound ∧ DutySound State.reset.duty ∧
    (∀ n, (State.reset.screen n).Sound ∧ (State.reset.curtain n).Sound) ∧
    ∀ st, (State.reset.link st).Sound ∧ (State.reset.attn st).Sound
end

