-- ==== Sys2Proof/Laws/State.lean ====
section
/-! SUPPORT. One lemma for each field of the state under each update of Machine/Ops.lean, each true by rfl. No proof above
this file needs to unfold a record update. -/

namespace Sys2Proof.Machine

variable (s : State)

/-! ### setProjector -/

@[simp] theorem State.setProjector_retained (p : ProjNo) (r : Projector) :
    (s.setProjector p r).retained = s.retained := rfl
@[simp] theorem State.setProjector_powered (p : ProjNo) (r : Projector) :
    (s.setProjector p r).powered = s.powered := rfl
@[simp] theorem State.setProjector_bankUnit (p : ProjNo) (r : Projector) :
    (s.setProjector p r).bankUnit = s.bankUnit := rfl
@[simp] theorem State.setProjector_projectors (p : ProjNo) (r : Projector) :
    (s.setProjector p r).projectors = s.projectors.set p r := rfl
@[simp] theorem State.setProjector_trackers (p : ProjNo) (r : Projector) :
    (s.setProjector p r).trackers = s.trackers := rfl
@[simp] theorem State.setProjector_screens (p : ProjNo) (r : Projector) :
    (s.setProjector p r).screens = s.screens := rfl
@[simp] theorem State.setProjector_booth (p : ProjNo) (r : Projector) : (s.setProjector p r).booth = s.booth := rfl
@[simp] theorem State.setProjector_arcs (p : ProjNo) (r : Projector) : (s.setProjector p r).arcs = s.arcs := rfl
@[simp] theorem State.setProjector_shutterUnit (p : ProjNo) (r : Projector) :
    (s.setProjector p r).shutterUnit = s.shutterUnit := rfl
@[simp] theorem State.setProjector_house (p : ProjNo) (r : Projector) : (s.setProjector p r).house = s.house := rfl
@[simp] theorem State.setProjector_clock (p : ProjNo) (r : Projector) : (s.setProjector p r).clock = s.clock := rfl
@[simp] theorem State.setProjector_shows (p : ProjNo) (r : Projector) : (s.setProjector p r).shows = s.shows := rfl
@[simp] theorem State.setProjector_duty (p : ProjNo) (r : Projector) : (s.setProjector p r).duty = s.duty := rfl
@[simp] theorem State.setProjector_links (p : ProjNo) (r : Projector) : (s.setProjector p r).links = s.links := rfl
@[simp] theorem State.setProjector_powerRestored (p : ProjNo) (r : Projector) :
    (s.setProjector p r).powerRestored = s.powerRestored := rfl
@[simp] theorem State.setProjector_attention (p : ProjNo) (r : Projector) :
    (s.setProjector p r).attention = s.attention := rfl
@[simp] theorem State.setProjector_pins (p : ProjNo) (r : Projector) : (s.setProjector p r).pins = s.pins := rfl
@[simp] theorem State.setProjector_work (p : ProjNo) (r : Projector) : (s.setProjector p r).work = s.work := rfl
@[simp] theorem State.setProjector_free (p : ProjNo) (r : Projector) : (s.setProjector p r).free = s.free := rfl
@[simp] theorem State.setProjector_pending (p : ProjNo) (r : Projector) :
    (s.setProjector p r).pending = s.pending := rfl

/-! ### setTracker -/

@[simp] theorem State.setTracker_retained (p : ProjNo) (r : Tracker) : (s.setTracker p r).retained = s.retained := rfl
@[simp] theorem State.setTracker_powered (p : ProjNo) (r : Tracker) : (s.setTracker p r).powered = s.powered := rfl
@[simp] theorem State.setTracker_bankUnit (p : ProjNo) (r : Tracker) : (s.setTracker p r).bankUnit = s.bankUnit := rfl
@[simp] theorem State.setTracker_projectors (p : ProjNo) (r : Tracker) :
    (s.setTracker p r).projectors = s.projectors := rfl
@[simp] theorem State.setTracker_trackers (p : ProjNo) (r : Tracker) :
    (s.setTracker p r).trackers = s.trackers.set p r := rfl
@[simp] theorem State.setTracker_screens (p : ProjNo) (r : Tracker) : (s.setTracker p r).screens = s.screens := rfl
@[simp] theorem State.setTracker_booth (p : ProjNo) (r : Tracker) : (s.setTracker p r).booth = s.booth := rfl
@[simp] theorem State.setTracker_arcs (p : ProjNo) (r : Tracker) : (s.setTracker p r).arcs = s.arcs := rfl
@[simp] theorem State.setTracker_shutterUnit (p : ProjNo) (r : Tracker) :
    (s.setTracker p r).shutterUnit = s.shutterUnit := rfl
@[simp] theorem State.setTracker_house (p : ProjNo) (r : Tracker) : (s.setTracker p r).house = s.house := rfl
@[simp] theorem State.setTracker_clock (p : ProjNo) (r : Tracker) : (s.setTracker p r).clock = s.clock := rfl
@[simp] theorem State.setTracker_shows (p : ProjNo) (r : Tracker) : (s.setTracker p r).shows = s.shows := rfl
@[simp] theorem State.setTracker_duty (p : ProjNo) (r : Tracker) : (s.setTracker p r).duty = s.duty := rfl
@[simp] theorem State.setTracker_links (p : ProjNo) (r : Tracker) : (s.setTracker p r).links = s.links := rfl
@[simp] theorem State.setTracker_powerRestored (p : ProjNo) (r : Tracker) :
    (s.setTracker p r).powerRestored = s.powerRestored := rfl
@[simp] theorem State.setTracker_attention (p : ProjNo) (r : Tracker) :
    (s.setTracker p r).attention = s.attention := rfl
@[simp] theorem State.setTracker_pins (p : ProjNo) (r : Tracker) : (s.setTracker p r).pins = s.pins := rfl
@[simp] theorem State.setTracker_work (p : ProjNo) (r : Tracker) : (s.setTracker p r).work = s.work := rfl
@[simp] theorem State.setTracker_free (p : ProjNo) (r : Tracker) : (s.setTracker p r).free = s.free := rfl
@[simp] theorem State.setTracker_pending (p : ProjNo) (r : Tracker) : (s.setTracker p r).pending = s.pending := rfl

/-! ### setScreen -/

@[simp] theorem State.setScreen_retained (n : ScreenNo) (r : Screen) : (s.setScreen n r).retained = s.retained := rfl
@[simp] theorem State.setScreen_powered (n : ScreenNo) (r : Screen) : (s.setScreen n r).powered = s.powered := rfl
@[simp] theorem State.setScreen_bankUnit (n : ScreenNo) (r : Screen) : (s.setScreen n r).bankUnit = s.bankUnit := rfl
@[simp] theorem State.setScreen_projectors (n : ScreenNo) (r : Screen) :
    (s.setScreen n r).projectors = s.projectors := rfl
@[simp] theorem State.setScreen_trackers (n : ScreenNo) (r : Screen) : (s.setScreen n r).trackers = s.trackers := rfl
@[simp] theorem State.setScreen_screens (n : ScreenNo) (r : Screen) :
    (s.setScreen n r).screens = s.screens.set n r := rfl
@[simp] theorem State.setScreen_booth (n : ScreenNo) (r : Screen) : (s.setScreen n r).booth = s.booth := rfl
@[simp] theorem State.setScreen_arcs (n : ScreenNo) (r : Screen) : (s.setScreen n r).arcs = s.arcs := rfl
@[simp] theorem State.setScreen_shutterUnit (n : ScreenNo) (r : Screen) :
    (s.setScreen n r).shutterUnit = s.shutterUnit := rfl
@[simp] theorem State.setScreen_house (n : ScreenNo) (r : Screen) : (s.setScreen n r).house = s.house := rfl
@[simp] theorem State.setScreen_clock (n : ScreenNo) (r : Screen) : (s.setScreen n r).clock = s.clock := rfl
@[simp] theorem State.setScreen_shows (n : ScreenNo) (r : Screen) : (s.setScreen n r).shows = s.shows := rfl
@[simp] theorem State.setScreen_duty (n : ScreenNo) (r : Screen) : (s.setScreen n r).duty = s.duty := rfl
@[simp] theorem State.setScreen_links (n : ScreenNo) (r : Screen) : (s.setScreen n r).links = s.links := rfl
@[simp] theorem State.setScreen_powerRestored (n : ScreenNo) (r : Screen) :
    (s.setScreen n r).powerRestored = s.powerRestored := rfl
@[simp] theorem State.setScreen_attention (n : ScreenNo) (r : Screen) : (s.setScreen n r).attention = s.attention := rfl
@[simp] theorem State.setScreen_pins (n : ScreenNo) (r : Screen) : (s.setScreen n r).pins = s.pins := rfl
@[simp] theorem State.setScreen_work (n : ScreenNo) (r : Screen) : (s.setScreen n r).work = s.work := rfl
@[simp] theorem State.setScreen_free (n : ScreenNo) (r : Screen) : (s.setScreen n r).free = s.free := rfl
@[simp] theorem State.setScreen_pending (n : ScreenNo) (r : Screen) : (s.setScreen n r).pending = s.pending := rfl

/-! ### setBell -/

@[simp] theorem State.setBell_retained (b : Bell) : (s.setBell b).retained = s.retained := rfl
@[simp] theorem State.setBell_powered (b : Bell) : (s.setBell b).powered = s.powered := rfl
@[simp] theorem State.setBell_bankUnit (b : Bell) : (s.setBell b).bankUnit = s.bankUnit := rfl
@[simp] theorem State.setBell_projectors (b : Bell) : (s.setBell b).projectors = s.projectors := rfl
@[simp] theorem State.setBell_trackers (b : Bell) : (s.setBell b).trackers = s.trackers := rfl
@[simp] theorem State.setBell_screens (b : Bell) : (s.setBell b).screens = s.screens := rfl
@[simp] theorem State.setBell_booth (b : Bell) : (s.setBell b).booth = { s.booth with bell := b } := rfl
@[simp] theorem State.setBell_arcs (b : Bell) : (s.setBell b).arcs = s.arcs := rfl
@[simp] theorem State.setBell_shutterUnit (b : Bell) : (s.setBell b).shutterUnit = s.shutterUnit := rfl
@[simp] theorem State.setBell_house (b : Bell) : (s.setBell b).house = s.house := rfl
@[simp] theorem State.setBell_clock (b : Bell) : (s.setBell b).clock = s.clock := rfl
@[simp] theorem State.setBell_shows (b : Bell) : (s.setBell b).shows = s.shows := rfl
@[simp] theorem State.setBell_duty (b : Bell) : (s.setBell b).duty = s.duty := rfl
@[simp] theorem State.setBell_links (b : Bell) : (s.setBell b).links = s.links := rfl
@[simp] theorem State.setBell_powerRestored (b : Bell) : (s.setBell b).powerRestored = s.powerRestored := rfl
@[simp] theorem State.setBell_attention (b : Bell) : (s.setBell b).attention = s.attention := rfl
@[simp] theorem State.setBell_pins (b : Bell) : (s.setBell b).pins = s.pins := rfl
@[simp] theorem State.setBell_work (b : Bell) : (s.setBell b).work = s.work := rfl
@[simp] theorem State.setBell_free (b : Bell) : (s.setBell b).free = s.free := rfl
@[simp] theorem State.setBell_pending (b : Bell) : (s.setBell b).pending = s.pending := rfl

/-! ### setArc -/

@[simp] theorem State.setArc_retained (p : ProjNo) (r : Arc) : (s.setArc p r).retained = s.retained := rfl
@[simp] theorem State.setArc_powered (p : ProjNo) (r : Arc) : (s.setArc p r).powered = s.powered := rfl
@[simp] theorem State.setArc_bankUnit (p : ProjNo) (r : Arc) : (s.setArc p r).bankUnit = s.bankUnit := rfl
@[simp] theorem State.setArc_projectors (p : ProjNo) (r : Arc) : (s.setArc p r).projectors = s.projectors := rfl
@[simp] theorem State.setArc_trackers (p : ProjNo) (r : Arc) : (s.setArc p r).trackers = s.trackers := rfl
@[simp] theorem State.setArc_screens (p : ProjNo) (r : Arc) : (s.setArc p r).screens = s.screens := rfl
@[simp] theorem State.setArc_booth (p : ProjNo) (r : Arc) : (s.setArc p r).booth = s.booth := rfl
@[simp] theorem State.setArc_arcs (p : ProjNo) (r : Arc) : (s.setArc p r).arcs = s.arcs.set p r := rfl
@[simp] theorem State.setArc_shutterUnit (p : ProjNo) (r : Arc) : (s.setArc p r).shutterUnit = s.shutterUnit := rfl
@[simp] theorem State.setArc_house (p : ProjNo) (r : Arc) : (s.setArc p r).house = s.house := rfl
@[simp] theorem State.setArc_clock (p : ProjNo) (r : Arc) : (s.setArc p r).clock = s.clock := rfl
@[simp] theorem State.setArc_shows (p : ProjNo) (r : Arc) : (s.setArc p r).shows = s.shows := rfl
@[simp] theorem State.setArc_duty (p : ProjNo) (r : Arc) : (s.setArc p r).duty = s.duty := rfl
@[simp] theorem State.setArc_links (p : ProjNo) (r : Arc) : (s.setArc p r).links = s.links := rfl
@[simp] theorem State.setArc_powerRestored (p : ProjNo) (r : Arc) :
    (s.setArc p r).powerRestored = s.powerRestored := rfl
@[simp] theorem State.setArc_attention (p : ProjNo) (r : Arc) : (s.setArc p r).attention = s.attention := rfl
@[simp] theorem State.setArc_pins (p : ProjNo) (r : Arc) : (s.setArc p r).pins = s.pins := rfl
@[simp] theorem State.setArc_work (p : ProjNo) (r : Arc) : (s.setArc p r).work = s.work := rfl
@[simp] theorem State.setArc_free (p : ProjNo) (r : Arc) : (s.setArc p r).free = s.free := rfl
@[simp] theorem State.setArc_pending (p : ProjNo) (r : Arc) : (s.setArc p r).pending = s.pending := rfl

/-! ### setArcStore -/

@[simp] theorem State.setArcStore_retained (p : ProjNo) (r : ArcStore) :
    (s.setArcStore p r).retained = { s.retained with arcs := s.retained.arcs.set p r } := rfl
@[simp] theorem State.setArcStore_powered (p : ProjNo) (r : ArcStore) : (s.setArcStore p r).powered = s.powered := rfl
@[simp] theorem State.setArcStore_bankUnit (p : ProjNo) (r : ArcStore) :
    (s.setArcStore p r).bankUnit = s.bankUnit := rfl
@[simp] theorem State.setArcStore_projectors (p : ProjNo) (r : ArcStore) :
    (s.setArcStore p r).projectors = s.projectors := rfl
@[simp] theorem State.setArcStore_trackers (p : ProjNo) (r : ArcStore) :
    (s.setArcStore p r).trackers = s.trackers := rfl
@[simp] theorem State.setArcStore_screens (p : ProjNo) (r : ArcStore) : (s.setArcStore p r).screens = s.screens := rfl
@[simp] theorem State.setArcStore_booth (p : ProjNo) (r : ArcStore) : (s.setArcStore p r).booth = s.booth := rfl
@[simp] theorem State.setArcStore_arcs (p : ProjNo) (r : ArcStore) : (s.setArcStore p r).arcs = s.arcs := rfl
@[simp] theorem State.setArcStore_shutterUnit (p : ProjNo) (r : ArcStore) :
    (s.setArcStore p r).shutterUnit = s.shutterUnit := rfl
@[simp] theorem State.setArcStore_house (p : ProjNo) (r : ArcStore) : (s.setArcStore p r).house = s.house := rfl
@[simp] theorem State.setArcStore_clock (p : ProjNo) (r : ArcStore) : (s.setArcStore p r).clock = s.clock := rfl
@[simp] theorem State.setArcStore_shows (p : ProjNo) (r : ArcStore) : (s.setArcStore p r).shows = s.shows := rfl
@[simp] theorem State.setArcStore_duty (p : ProjNo) (r : ArcStore) : (s.setArcStore p r).duty = s.duty := rfl
@[simp] theorem State.setArcStore_links (p : ProjNo) (r : ArcStore) : (s.setArcStore p r).links = s.links := rfl
@[simp] theorem State.setArcStore_powerRestored (p : ProjNo) (r : ArcStore) :
    (s.setArcStore p r).powerRestored = s.powerRestored := rfl
@[simp] theorem State.setArcStore_attention (p : ProjNo) (r : ArcStore) :
    (s.setArcStore p r).attention = s.attention := rfl
@[simp] theorem State.setArcStore_pins (p : ProjNo) (r : ArcStore) : (s.setArcStore p r).pins = s.pins := rfl
@[simp] theorem State.setArcStore_work (p : ProjNo) (r : ArcStore) : (s.setArcStore p r).work = s.work := rfl
@[simp] theorem State.setArcStore_free (p : ProjNo) (r : ArcStore) : (s.setArcStore p r).free = s.free := rfl
@[simp] theorem State.setArcStore_pending (p : ProjNo) (r : ArcStore) : (s.setArcStore p r).pending = s.pending := rfl

/-! ### setRunMarks -/

@[simp] theorem State.setRunMarks_retained (p : ProjNo) (r : RunMarks) :
    (s.setRunMarks p r).retained = { s.retained with runMarks := s.retained.runMarks.set p r } := rfl
@[simp] theorem State.setRunMarks_powered (p : ProjNo) (r : RunMarks) : (s.setRunMarks p r).powered = s.powered := rfl
@[simp] theorem State.setRunMarks_bankUnit (p : ProjNo) (r : RunMarks) :
    (s.setRunMarks p r).bankUnit = s.bankUnit := rfl
@[simp] theorem State.setRunMarks_projectors (p : ProjNo) (r : RunMarks) :
    (s.setRunMarks p r).projectors = s.projectors := rfl
@[simp] theorem State.setRunMarks_trackers (p : ProjNo) (r : RunMarks) :
    (s.setRunMarks p r).trackers = s.trackers := rfl
@[simp] theorem State.setRunMarks_screens (p : ProjNo) (r : RunMarks) : (s.setRunMarks p r).screens = s.screens := rfl
@[simp] theorem State.setRunMarks_booth (p : ProjNo) (r : RunMarks) : (s.setRunMarks p r).booth = s.booth := rfl
@[simp] theorem State.setRunMarks_arcs (p : ProjNo) (r : RunMarks) : (s.setRunMarks p r).arcs = s.arcs := rfl
@[simp] theorem State.setRunMarks_shutterUnit (p : ProjNo) (r : RunMarks) :
    (s.setRunMarks p r).shutterUnit = s.shutterUnit := rfl
@[simp] theorem State.setRunMarks_house (p : ProjNo) (r : RunMarks) : (s.setRunMarks p r).house = s.house := rfl
@[simp] theorem State.setRunMarks_clock (p : ProjNo) (r : RunMarks) : (s.setRunMarks p r).clock = s.clock := rfl
@[simp] theorem State.setRunMarks_shows (p : ProjNo) (r : RunMarks) : (s.setRunMarks p r).shows = s.shows := rfl
@[simp] theorem State.setRunMarks_duty (p : ProjNo) (r : RunMarks) : (s.setRunMarks p r).duty = s.duty := rfl
@[simp] theorem State.setRunMarks_links (p : ProjNo) (r : RunMarks) : (s.setRunMarks p r).links = s.links := rfl
@[simp] theorem State.setRunMarks_powerRestored (p : ProjNo) (r : RunMarks) :
    (s.setRunMarks p r).powerRestored = s.powerRestored := rfl
@[simp] theorem State.setRunMarks_attention (p : ProjNo) (r : RunMarks) :
    (s.setRunMarks p r).attention = s.attention := rfl
@[simp] theorem State.setRunMarks_pins (p : ProjNo) (r : RunMarks) : (s.setRunMarks p r).pins = s.pins := rfl
@[simp] theorem State.setRunMarks_work (p : ProjNo) (r : RunMarks) : (s.setRunMarks p r).work = s.work := rfl
@[simp] theorem State.setRunMarks_free (p : ProjNo) (r : RunMarks) : (s.setRunMarks p r).free = s.free := rfl
@[simp] theorem State.setRunMarks_pending (p : ProjNo) (r : RunMarks) : (s.setRunMarks p r).pending = s.pending := rfl

/-! ### setRotationPending -/

@[simp] theorem State.setRotationPending_retained (n : ScreenNo) (v : Bool) :
    (s.setRotationPending n v).retained = { s.retained with rotationPending := s.retained.rotationPending.set n v } := rfl
@[simp] theorem State.setRotationPending_powered (n : ScreenNo) (v : Bool) : (s.setRotationPending n v).powered = s.powered := rfl
@[simp] theorem State.setRotationPending_bankUnit (n : ScreenNo) (v : Bool) :
    (s.setRotationPending n v).bankUnit = s.bankUnit := rfl
@[simp] theorem State.setRotationPending_projectors (n : ScreenNo) (v : Bool) :
    (s.setRotationPending n v).projectors = s.projectors := rfl
@[simp] theorem State.setRotationPending_trackers (n : ScreenNo) (v : Bool) :
    (s.setRotationPending n v).trackers = s.trackers := rfl
@[simp] theorem State.setRotationPending_screens (n : ScreenNo) (v : Bool) : (s.setRotationPending n v).screens = s.screens := rfl
@[simp] theorem State.setRotationPending_booth (n : ScreenNo) (v : Bool) : (s.setRotationPending n v).booth = s.booth := rfl
@[simp] theorem State.setRotationPending_arcs (n : ScreenNo) (v : Bool) : (s.setRotationPending n v).arcs = s.arcs := rfl
@[simp] theorem State.setRotationPending_shutterUnit (n : ScreenNo) (v : Bool) :
    (s.setRotationPending n v).shutterUnit = s.shutterUnit := rfl
@[simp] theorem State.setRotationPending_house (n : ScreenNo) (v : Bool) : (s.setRotationPending n v).house = s.house := rfl
@[simp] theorem State.setRotationPending_clock (n : ScreenNo) (v : Bool) : (s.setRotationPending n v).clock = s.clock := rfl
@[simp] theorem State.setRotationPending_shows (n : ScreenNo) (v : Bool) : (s.setRotationPending n v).shows = s.shows := rfl
@[simp] theorem State.setRotationPending_duty (n : ScreenNo) (v : Bool) : (s.setRotationPending n v).duty = s.duty := rfl
@[simp] theorem State.setRotationPending_links (n : ScreenNo) (v : Bool) : (s.setRotationPending n v).links = s.links := rfl
@[simp] theorem State.setRotationPending_powerRestored (n : ScreenNo) (v : Bool) :
    (s.setRotationPending n v).powerRestored = s.powerRestored := rfl
@[simp] theorem State.setRotationPending_attention (n : ScreenNo) (v : Bool) :
    (s.setRotationPending n v).attention = s.attention := rfl
@[simp] theorem State.setRotationPending_pins (n : ScreenNo) (v : Bool) : (s.setRotationPending n v).pins = s.pins := rfl
@[simp] theorem State.setRotationPending_work (n : ScreenNo) (v : Bool) : (s.setRotationPending n v).work = s.work := rfl
@[simp] theorem State.setRotationPending_free (n : ScreenNo) (v : Bool) : (s.setRotationPending n v).free = s.free := rfl
@[simp] theorem State.setRotationPending_pending (n : ScreenNo) (v : Bool) : (s.setRotationPending n v).pending = s.pending := rfl

/-! ### setShutter -/

@[simp] theorem State.setShutter_retained (i : ShutterNo) (r : Shutter) :
    (s.setShutter i r).retained = s.retained := rfl
@[simp] theorem State.setShutter_powered (i : ShutterNo) (r : Shutter) : (s.setShutter i r).powered = s.powered := rfl
@[simp] theorem State.setShutter_bankUnit (i : ShutterNo) (r : Shutter) :
    (s.setShutter i r).bankUnit = s.bankUnit := rfl
@[simp] theorem State.setShutter_projectors (i : ShutterNo) (r : Shutter) :
    (s.setShutter i r).projectors = s.projectors := rfl
@[simp] theorem State.setShutter_trackers (i : ShutterNo) (r : Shutter) :
    (s.setShutter i r).trackers = s.trackers := rfl
@[simp] theorem State.setShutter_screens (i : ShutterNo) (r : Shutter) : (s.setShutter i r).screens = s.screens := rfl
@[simp] theorem State.setShutter_booth (i : ShutterNo) (r : Shutter) : (s.setShutter i r).booth = s.booth := rfl
@[simp] theorem State.setShutter_arcs (i : ShutterNo) (r : Shutter) : (s.setShutter i r).arcs = s.arcs := rfl
@[simp] theorem State.setShutter_shutterUnit (i : ShutterNo) (r : Shutter) :
    (s.setShutter i r).shutterUnit = { s.shutterUnit with shutters := s.shutterUnit.shutters.set i r } := rfl
@[simp] theorem State.setShutter_house (i : ShutterNo) (r : Shutter) : (s.setShutter i r).house = s.house := rfl
@[simp] theorem State.setShutter_clock (i : ShutterNo) (r : Shutter) : (s.setShutter i r).clock = s.clock := rfl
@[simp] theorem State.setShutter_shows (i : ShutterNo) (r : Shutter) : (s.setShutter i r).shows = s.shows := rfl
@[simp] theorem State.setShutter_duty (i : ShutterNo) (r : Shutter) : (s.setShutter i r).duty = s.duty := rfl
@[simp] theorem State.setShutter_links (i : ShutterNo) (r : Shutter) : (s.setShutter i r).links = s.links := rfl
@[simp] theorem State.setShutter_powerRestored (i : ShutterNo) (r : Shutter) :
    (s.setShutter i r).powerRestored = s.powerRestored := rfl
@[simp] theorem State.setShutter_attention (i : ShutterNo) (r : Shutter) :
    (s.setShutter i r).attention = s.attention := rfl
@[simp] theorem State.setShutter_pins (i : ShutterNo) (r : Shutter) : (s.setShutter i r).pins = s.pins := rfl
@[simp] theorem State.setShutter_work (i : ShutterNo) (r : Shutter) : (s.setShutter i r).work = s.work := rfl
@[simp] theorem State.setShutter_free (i : ShutterNo) (r : Shutter) : (s.setShutter i r).free = s.free := rfl
@[simp] theorem State.setShutter_pending (i : ShutterNo) (r : Shutter) : (s.setShutter i r).pending = s.pending := rfl

/-! ### setChannel -/

@[simp] theorem State.setChannel_retained (c : ChannelNo) (r : Channel) :
    (s.setChannel c r).retained = s.retained := rfl
@[simp] theorem State.setChannel_powered (c : ChannelNo) (r : Channel) : (s.setChannel c r).powered = s.powered := rfl
@[simp] theorem State.setChannel_bankUnit (c : ChannelNo) (r : Channel) :
    (s.setChannel c r).bankUnit = s.bankUnit := rfl
@[simp] theorem State.setChannel_projectors (c : ChannelNo) (r : Channel) :
    (s.setChannel c r).projectors = s.projectors := rfl
@[simp] theorem State.setChannel_trackers (c : ChannelNo) (r : Channel) :
    (s.setChannel c r).trackers = s.trackers := rfl
@[simp] theorem State.setChannel_screens (c : ChannelNo) (r : Channel) : (s.setChannel c r).screens = s.screens := rfl
@[simp] theorem State.setChannel_booth (c : ChannelNo) (r : Channel) : (s.setChannel c r).booth = s.booth := rfl
@[simp] theorem State.setChannel_arcs (c : ChannelNo) (r : Channel) : (s.setChannel c r).arcs = s.arcs := rfl
@[simp] theorem State.setChannel_shutterUnit (c : ChannelNo) (r : Channel) :
    (s.setChannel c r).shutterUnit = s.shutterUnit := rfl
@[simp] theorem State.setChannel_house (c : ChannelNo) (r : Channel) :
    (s.setChannel c r).house =
    { s.house with channels := s.house.channels.set c.screen ((s.house.channels.get c.screen).set c.pos r) } := rfl
@[simp] theorem State.setChannel_clock (c : ChannelNo) (r : Channel) : (s.setChannel c r).clock = s.clock := rfl
@[simp] theorem State.setChannel_shows (c : ChannelNo) (r : Channel) : (s.setChannel c r).shows = s.shows := rfl
@[simp] theorem State.setChannel_duty (c : ChannelNo) (r : Channel) : (s.setChannel c r).duty = s.duty := rfl
@[simp] theorem State.setChannel_links (c : ChannelNo) (r : Channel) : (s.setChannel c r).links = s.links := rfl
@[simp] theorem State.setChannel_powerRestored (c : ChannelNo) (r : Channel) :
    (s.setChannel c r).powerRestored = s.powerRestored := rfl
@[simp] theorem State.setChannel_attention (c : ChannelNo) (r : Channel) :
    (s.setChannel c r).attention = s.attention := rfl
@[simp] theorem State.setChannel_pins (c : ChannelNo) (r : Channel) : (s.setChannel c r).pins = s.pins := rfl
@[simp] theorem State.setChannel_work (c : ChannelNo) (r : Channel) : (s.setChannel c r).work = s.work := rfl
@[simp] theorem State.setChannel_free (c : ChannelNo) (r : Channel) : (s.setChannel c r).free = s.free := rfl
@[simp] theorem State.setChannel_pending (c : ChannelNo) (r : Channel) : (s.setChannel c r).pending = s.pending := rfl

/-! ### setCurtain -/

@[simp] theorem State.setCurtain_retained (n : ScreenNo) (r : Curtain) : (s.setCurtain n r).retained = s.retained := rfl
@[simp] theorem State.setCurtain_powered (n : ScreenNo) (r : Curtain) : (s.setCurtain n r).powered = s.powered := rfl
@[simp] theorem State.setCurtain_bankUnit (n : ScreenNo) (r : Curtain) : (s.setCurtain n r).bankUnit = s.bankUnit := rfl
@[simp] theorem State.setCurtain_projectors (n : ScreenNo) (r : Curtain) :
    (s.setCurtain n r).projectors = s.projectors := rfl
@[simp] theorem State.setCurtain_trackers (n : ScreenNo) (r : Curtain) : (s.setCurtain n r).trackers = s.trackers := rfl
@[simp] theorem State.setCurtain_screens (n : ScreenNo) (r : Curtain) : (s.setCurtain n r).screens = s.screens := rfl
@[simp] theorem State.setCurtain_booth (n : ScreenNo) (r : Curtain) : (s.setCurtain n r).booth = s.booth := rfl
@[simp] theorem State.setCurtain_arcs (n : ScreenNo) (r : Curtain) : (s.setCurtain n r).arcs = s.arcs := rfl
@[simp] theorem State.setCurtain_shutterUnit (n : ScreenNo) (r : Curtain) :
    (s.setCurtain n r).shutterUnit = s.shutterUnit := rfl
@[simp] theorem State.setCurtain_house (n : ScreenNo) (r : Curtain) :
    (s.setCurtain n r).house = { s.house with curtains := s.house.curtains.set n r } := rfl
@[simp] theorem State.setCurtain_clock (n : ScreenNo) (r : Curtain) : (s.setCurtain n r).clock = s.clock := rfl
@[simp] theorem State.setCurtain_shows (n : ScreenNo) (r : Curtain) : (s.setCurtain n r).shows = s.shows := rfl
@[simp] theorem State.setCurtain_duty (n : ScreenNo) (r : Curtain) : (s.setCurtain n r).duty = s.duty := rfl
@[simp] theorem State.setCurtain_links (n : ScreenNo) (r : Curtain) : (s.setCurtain n r).links = s.links := rfl
@[simp] theorem State.setCurtain_powerRestored (n : ScreenNo) (r : Curtain) :
    (s.setCurtain n r).powerRestored = s.powerRestored := rfl
@[simp] theorem State.setCurtain_attention (n : ScreenNo) (r : Curtain) :
    (s.setCurtain n r).attention = s.attention := rfl
@[simp] theorem State.setCurtain_pins (n : ScreenNo) (r : Curtain) : (s.setCurtain n r).pins = s.pins := rfl
@[simp] theorem State.setCurtain_work (n : ScreenNo) (r : Curtain) : (s.setCurtain n r).work = s.work := rfl
@[simp] theorem State.setCurtain_free (n : ScreenNo) (r : Curtain) : (s.setCurtain n r).free = s.free := rfl
@[simp] theorem State.setCurtain_pending (n : ScreenNo) (r : Curtain) : (s.setCurtain n r).pending = s.pending := rfl

/-! ### setMarks -/

@[simp] theorem State.setMarks_retained (n : ScreenNo) (m : Half) : (s.setMarks n m).retained = s.retained := rfl
@[simp] theorem State.setMarks_powered (n : ScreenNo) (m : Half) : (s.setMarks n m).powered = s.powered := rfl
@[simp] theorem State.setMarks_bankUnit (n : ScreenNo) (m : Half) : (s.setMarks n m).bankUnit = s.bankUnit := rfl
@[simp] theorem State.setMarks_projectors (n : ScreenNo) (m : Half) : (s.setMarks n m).projectors = s.projectors := rfl
@[simp] theorem State.setMarks_trackers (n : ScreenNo) (m : Half) : (s.setMarks n m).trackers = s.trackers := rfl
@[simp] theorem State.setMarks_screens (n : ScreenNo) (m : Half) : (s.setMarks n m).screens = s.screens := rfl
@[simp] theorem State.setMarks_booth (n : ScreenNo) (m : Half) : (s.setMarks n m).booth = s.booth := rfl
@[simp] theorem State.setMarks_arcs (n : ScreenNo) (m : Half) : (s.setMarks n m).arcs = s.arcs := rfl
@[simp] theorem State.setMarks_shutterUnit (n : ScreenNo) (m : Half) :
    (s.setMarks n m).shutterUnit = s.shutterUnit := rfl
@[simp] theorem State.setMarks_house (n : ScreenNo) (m : Half) :
    (s.setMarks n m).house = { s.house with marks := s.house.marks.set n m } := rfl
@[simp] theorem State.setMarks_clock (n : ScreenNo) (m : Half) : (s.setMarks n m).clock = s.clock := rfl
@[simp] theorem State.setMarks_shows (n : ScreenNo) (m : Half) : (s.setMarks n m).shows = s.shows := rfl
@[simp] theorem State.setMarks_duty (n : ScreenNo) (m : Half) : (s.setMarks n m).duty = s.duty := rfl
@[simp] theorem State.setMarks_links (n : ScreenNo) (m : Half) : (s.setMarks n m).links = s.links := rfl
@[simp] theorem State.setMarks_powerRestored (n : ScreenNo) (m : Half) :
    (s.setMarks n m).powerRestored = s.powerRestored := rfl
@[simp] theorem State.setMarks_attention (n : ScreenNo) (m : Half) : (s.setMarks n m).attention = s.attention := rfl
@[simp] theorem State.setMarks_pins (n : ScreenNo) (m : Half) : (s.setMarks n m).pins = s.pins := rfl
@[simp] theorem State.setMarks_work (n : ScreenNo) (m : Half) : (s.setMarks n m).work = s.work := rfl
@[simp] theorem State.setMarks_free (n : ScreenNo) (m : Half) : (s.setMarks n m).free = s.free := rfl
@[simp] theorem State.setMarks_pending (n : ScreenNo) (m : Half) : (s.setMarks n m).pending = s.pending := rfl

/-! ### setShow -/

@[simp] theorem State.setShow_retained (n : ScreenNo) (r : ShowRec) : (s.setShow n r).retained = s.retained := rfl
@[simp] theorem State.setShow_powered (n : ScreenNo) (r : ShowRec) : (s.setShow n r).powered = s.powered := rfl
@[simp] theorem State.setShow_bankUnit (n : ScreenNo) (r : ShowRec) : (s.setShow n r).bankUnit = s.bankUnit := rfl
@[simp] theorem State.setShow_projectors (n : ScreenNo) (r : ShowRec) : (s.setShow n r).projectors = s.projectors := rfl
@[simp] theorem State.setShow_trackers (n : ScreenNo) (r : ShowRec) : (s.setShow n r).trackers = s.trackers := rfl
@[simp] theorem State.setShow_screens (n : ScreenNo) (r : ShowRec) : (s.setShow n r).screens = s.screens := rfl
@[simp] theorem State.setShow_booth (n : ScreenNo) (r : ShowRec) : (s.setShow n r).booth = s.booth := rfl
@[simp] theorem State.setShow_arcs (n : ScreenNo) (r : ShowRec) : (s.setShow n r).arcs = s.arcs := rfl
@[simp] theorem State.setShow_shutterUnit (n : ScreenNo) (r : ShowRec) :
    (s.setShow n r).shutterUnit = s.shutterUnit := rfl
@[simp] theorem State.setShow_house (n : ScreenNo) (r : ShowRec) : (s.setShow n r).house = s.house := rfl
@[simp] theorem State.setShow_clock (n : ScreenNo) (r : ShowRec) : (s.setShow n r).clock = s.clock := rfl
@[simp] theorem State.setShow_shows (n : ScreenNo) (r : ShowRec) : (s.setShow n r).shows = s.shows.set n r := rfl
@[simp] theorem State.setShow_duty (n : ScreenNo) (r : ShowRec) : (s.setShow n r).duty = s.duty := rfl
@[simp] theorem State.setShow_links (n : ScreenNo) (r : ShowRec) : (s.setShow n r).links = s.links := rfl
@[simp] theorem State.setShow_powerRestored (n : ScreenNo) (r : ShowRec) :
    (s.setShow n r).powerRestored = s.powerRestored := rfl
@[simp] theorem State.setShow_attention (n : ScreenNo) (r : ShowRec) : (s.setShow n r).attention = s.attention := rfl
@[simp] theorem State.setShow_pins (n : ScreenNo) (r : ShowRec) : (s.setShow n r).pins = s.pins := rfl
@[simp] theorem State.setShow_work (n : ScreenNo) (r : ShowRec) : (s.setShow n r).work = s.work := rfl
@[simp] theorem State.setShow_free (n : ScreenNo) (r : ShowRec) : (s.setShow n r).free = s.free := rfl
@[simp] theorem State.setShow_pending (n : ScreenNo) (r : ShowRec) : (s.setShow n r).pending = s.pending := rfl

/-! ### setLink -/

@[simp] theorem State.setLink_retained (st : Station) (r : Link) : (s.setLink st r).retained = s.retained := rfl
@[simp] theorem State.setLink_powered (st : Station) (r : Link) : (s.setLink st r).powered = s.powered := rfl
@[simp] theorem State.setLink_bankUnit (st : Station) (r : Link) : (s.setLink st r).bankUnit = s.bankUnit := rfl
@[simp] theorem State.setLink_projectors (st : Station) (r : Link) : (s.setLink st r).projectors = s.projectors := rfl
@[simp] theorem State.setLink_trackers (st : Station) (r : Link) : (s.setLink st r).trackers = s.trackers := rfl
@[simp] theorem State.setLink_screens (st : Station) (r : Link) : (s.setLink st r).screens = s.screens := rfl
@[simp] theorem State.setLink_booth (st : Station) (r : Link) : (s.setLink st r).booth = s.booth := rfl
@[simp] theorem State.setLink_arcs (st : Station) (r : Link) : (s.setLink st r).arcs = s.arcs := rfl
@[simp] theorem State.setLink_shutterUnit (st : Station) (r : Link) :
    (s.setLink st r).shutterUnit = s.shutterUnit := rfl
@[simp] theorem State.setLink_house (st : Station) (r : Link) : (s.setLink st r).house = s.house := rfl
@[simp] theorem State.setLink_clock (st : Station) (r : Link) : (s.setLink st r).clock = s.clock := rfl
@[simp] theorem State.setLink_shows (st : Station) (r : Link) : (s.setLink st r).shows = s.shows := rfl
@[simp] theorem State.setLink_duty (st : Station) (r : Link) : (s.setLink st r).duty = s.duty := rfl
@[simp] theorem State.setLink_links (st : Station) (r : Link) : (s.setLink st r).links = s.links.set st r := rfl
@[simp] theorem State.setLink_powerRestored (st : Station) (r : Link) :
    (s.setLink st r).powerRestored = s.powerRestored := rfl
@[simp] theorem State.setLink_attention (st : Station) (r : Link) : (s.setLink st r).attention = s.attention := rfl
@[simp] theorem State.setLink_pins (st : Station) (r : Link) : (s.setLink st r).pins = s.pins := rfl
@[simp] theorem State.setLink_work (st : Station) (r : Link) : (s.setLink st r).work = s.work := rfl
@[simp] theorem State.setLink_free (st : Station) (r : Link) : (s.setLink st r).free = s.free := rfl
@[simp] theorem State.setLink_pending (st : Station) (r : Link) : (s.setLink st r).pending = s.pending := rfl

/-! ### setAttn -/

@[simp] theorem State.setAttn_retained (st : Station) (r : Attention) : (s.setAttn st r).retained = s.retained := rfl
@[simp] theorem State.setAttn_powered (st : Station) (r : Attention) : (s.setAttn st r).powered = s.powered := rfl
@[simp] theorem State.setAttn_bankUnit (st : Station) (r : Attention) : (s.setAttn st r).bankUnit = s.bankUnit := rfl
@[simp] theorem State.setAttn_projectors (st : Station) (r : Attention) :
    (s.setAttn st r).projectors = s.projectors := rfl
@[simp] theorem State.setAttn_trackers (st : Station) (r : Attention) : (s.setAttn st r).trackers = s.trackers := rfl
@[simp] theorem State.setAttn_screens (st : Station) (r : Attention) : (s.setAttn st r).screens = s.screens := rfl
@[simp] theorem State.setAttn_booth (st : Station) (r : Attention) : (s.setAttn st r).booth = s.booth := rfl
@[simp] theorem State.setAttn_arcs (st : Station) (r : Attention) : (s.setAttn st r).arcs = s.arcs := rfl
@[simp] theorem State.setAttn_shutterUnit (st : Station) (r : Attention) :
    (s.setAttn st r).shutterUnit = s.shutterUnit := rfl
@[simp] theorem State.setAttn_house (st : Station) (r : Attention) : (s.setAttn st r).house = s.house := rfl
@[simp] theorem State.setAttn_clock (st : Station) (r : Attention) : (s.setAttn st r).clock = s.clock := rfl
@[simp] theorem State.setAttn_shows (st : Station) (r : Attention) : (s.setAttn st r).shows = s.shows := rfl
@[simp] theorem State.setAttn_duty (st : Station) (r : Attention) : (s.setAttn st r).duty = s.duty := rfl
@[simp] theorem State.setAttn_links (st : Station) (r : Attention) : (s.setAttn st r).links = s.links := rfl
@[simp] theorem State.setAttn_powerRestored (st : Station) (r : Attention) :
    (s.setAttn st r).powerRestored = s.powerRestored := rfl
@[simp] theorem State.setAttn_attention (st : Station) (r : Attention) :
    (s.setAttn st r).attention = s.attention.set st r := rfl
@[simp] theorem State.setAttn_pins (st : Station) (r : Attention) : (s.setAttn st r).pins = s.pins := rfl
@[simp] theorem State.setAttn_work (st : Station) (r : Attention) : (s.setAttn st r).work = s.work := rfl
@[simp] theorem State.setAttn_free (st : Station) (r : Attention) : (s.setAttn st r).free = s.free := rfl
@[simp] theorem State.setAttn_pending (st : Station) (r : Attention) : (s.setAttn st r).pending = s.pending := rfl

/-! ### setPins -/

@[simp] theorem State.setPins_retained (q : Pins) : (s.setPins q).retained = s.retained := rfl
@[simp] theorem State.setPins_powered (q : Pins) : (s.setPins q).powered = s.powered := rfl
@[simp] theorem State.setPins_bankUnit (q : Pins) : (s.setPins q).bankUnit = s.bankUnit := rfl
@[simp] theorem State.setPins_projectors (q : Pins) : (s.setPins q).projectors = s.projectors := rfl
@[simp] theorem State.setPins_trackers (q : Pins) : (s.setPins q).trackers = s.trackers := rfl
@[simp] theorem State.setPins_screens (q : Pins) : (s.setPins q).screens = s.screens := rfl
@[simp] theorem State.setPins_booth (q : Pins) : (s.setPins q).booth = s.booth := rfl
@[simp] theorem State.setPins_arcs (q : Pins) : (s.setPins q).arcs = s.arcs := rfl
@[simp] theorem State.setPins_shutterUnit (q : Pins) : (s.setPins q).shutterUnit = s.shutterUnit := rfl
@[simp] theorem State.setPins_house (q : Pins) : (s.setPins q).house = s.house := rfl
@[simp] theorem State.setPins_clock (q : Pins) : (s.setPins q).clock = s.clock := rfl
@[simp] theorem State.setPins_shows (q : Pins) : (s.setPins q).shows = s.shows := rfl
@[simp] theorem State.setPins_duty (q : Pins) : (s.setPins q).duty = s.duty := rfl
@[simp] theorem State.setPins_links (q : Pins) : (s.setPins q).links = s.links := rfl
@[simp] theorem State.setPins_powerRestored (q : Pins) : (s.setPins q).powerRestored = s.powerRestored := rfl
@[simp] theorem State.setPins_attention (q : Pins) : (s.setPins q).attention = s.attention := rfl
@[simp] theorem State.setPins_pins (q : Pins) : (s.setPins q).pins = q := rfl
@[simp] theorem State.setPins_work (q : Pins) : (s.setPins q).work = s.work := rfl
@[simp] theorem State.setPins_free (q : Pins) : (s.setPins q).free = s.free := rfl
@[simp] theorem State.setPins_pending (q : Pins) : (s.setPins q).pending = s.pending := rfl

/-! ### setDuty -/

@[simp] theorem State.setDuty_retained (l : List DutyEntry) : (s.setDuty l).retained = s.retained := rfl
@[simp] theorem State.setDuty_powered (l : List DutyEntry) : (s.setDuty l).powered = s.powered := rfl
@[simp] theorem State.setDuty_bankUnit (l : List DutyEntry) : (s.setDuty l).bankUnit = s.bankUnit := rfl
@[simp] theorem State.setDuty_projectors (l : List DutyEntry) : (s.setDuty l).projectors = s.projectors := rfl
@[simp] theorem State.setDuty_trackers (l : List DutyEntry) : (s.setDuty l).trackers = s.trackers := rfl
@[simp] theorem State.setDuty_screens (l : List DutyEntry) : (s.setDuty l).screens = s.screens := rfl
@[simp] theorem State.setDuty_booth (l : List DutyEntry) : (s.setDuty l).booth = s.booth := rfl
@[simp] theorem State.setDuty_arcs (l : List DutyEntry) : (s.setDuty l).arcs = s.arcs := rfl
@[simp] theorem State.setDuty_shutterUnit (l : List DutyEntry) : (s.setDuty l).shutterUnit = s.shutterUnit := rfl
@[simp] theorem State.setDuty_house (l : List DutyEntry) : (s.setDuty l).house = s.house := rfl
@[simp] theorem State.setDuty_clock (l : List DutyEntry) : (s.setDuty l).clock = s.clock := rfl
@[simp] theorem State.setDuty_shows (l : List DutyEntry) : (s.setDuty l).shows = s.shows := rfl
@[simp] theorem State.setDuty_duty (l : List DutyEntry) : (s.setDuty l).duty = l := rfl
@[simp] theorem State.setDuty_links (l : List DutyEntry) : (s.setDuty l).links = s.links := rfl
@[simp] theorem State.setDuty_powerRestored (l : List DutyEntry) : (s.setDuty l).powerRestored = s.powerRestored := rfl
@[simp] theorem State.setDuty_attention (l : List DutyEntry) : (s.setDuty l).attention = s.attention := rfl
@[simp] theorem State.setDuty_pins (l : List DutyEntry) : (s.setDuty l).pins = s.pins := rfl
@[simp] theorem State.setDuty_work (l : List DutyEntry) : (s.setDuty l).work = s.work := rfl
@[simp] theorem State.setDuty_free (l : List DutyEntry) : (s.setDuty l).free = s.free := rfl
@[simp] theorem State.setDuty_pending (l : List DutyEntry) : (s.setDuty l).pending = s.pending := rfl

/-! ### setBank -/

@[simp] theorem State.setBank_retained (n : ScreenNo) (b : BankNo) (r : Bank) :
    (s.setBank n b r).retained =
    { s.retained with banks := s.retained.banks.set n ((s.retained.banks.get n).set b r) } := rfl
@[simp] theorem State.setBank_powered (n : ScreenNo) (b : BankNo) (r : Bank) :
    (s.setBank n b r).powered = s.powered := rfl
@[simp] theorem State.setBank_bankUnit (n : ScreenNo) (b : BankNo) (r : Bank) :
    (s.setBank n b r).bankUnit = s.bankUnit := rfl
@[simp] theorem State.setBank_projectors (n : ScreenNo) (b : BankNo) (r : Bank) :
    (s.setBank n b r).projectors = s.projectors := rfl
@[simp] theorem State.setBank_trackers (n : ScreenNo) (b : BankNo) (r : Bank) :
    (s.setBank n b r).trackers = s.trackers := rfl
@[simp] theorem State.setBank_screens (n : ScreenNo) (b : BankNo) (r : Bank) :
    (s.setBank n b r).screens = s.screens := rfl
@[simp] theorem State.setBank_booth (n : ScreenNo) (b : BankNo) (r : Bank) : (s.setBank n b r).booth = s.booth := rfl
@[simp] theorem State.setBank_arcs (n : ScreenNo) (b : BankNo) (r : Bank) : (s.setBank n b r).arcs = s.arcs := rfl
@[simp] theorem State.setBank_shutterUnit (n : ScreenNo) (b : BankNo) (r : Bank) :
    (s.setBank n b r).shutterUnit = s.shutterUnit := rfl
@[simp] theorem State.setBank_house (n : ScreenNo) (b : BankNo) (r : Bank) : (s.setBank n b r).house = s.house := rfl
@[simp] theorem State.setBank_clock (n : ScreenNo) (b : BankNo) (r : Bank) : (s.setBank n b r).clock = s.clock := rfl
@[simp] theorem State.setBank_shows (n : ScreenNo) (b : BankNo) (r : Bank) : (s.setBank n b r).shows = s.shows := rfl
@[simp] theorem State.setBank_duty (n : ScreenNo) (b : BankNo) (r : Bank) : (s.setBank n b r).duty = s.duty := rfl
@[simp] theorem State.setBank_links (n : ScreenNo) (b : BankNo) (r : Bank) : (s.setBank n b r).links = s.links := rfl
@[simp] theorem State.setBank_powerRestored (n : ScreenNo) (b : BankNo) (r : Bank) :
    (s.setBank n b r).powerRestored = s.powerRestored := rfl
@[simp] theorem State.setBank_attention (n : ScreenNo) (b : BankNo) (r : Bank) :
    (s.setBank n b r).attention = s.attention := rfl
@[simp] theorem State.setBank_pins (n : ScreenNo) (b : BankNo) (r : Bank) : (s.setBank n b r).pins = s.pins := rfl
@[simp] theorem State.setBank_work (n : ScreenNo) (b : BankNo) (r : Bank) : (s.setBank n b r).work = s.work := rfl
@[simp] theorem State.setBank_free (n : ScreenNo) (b : BankNo) (r : Bank) : (s.setBank n b r).free = s.free := rfl
@[simp] theorem State.setBank_pending (n : ScreenNo) (b : BankNo) (r : Bank) :
    (s.setBank n b r).pending = s.pending := rfl

/-! ### noteArm -/

@[simp] theorem State.noteArm_retained (n : ScreenNo) : (s.noteArm n).retained = s.retained := rfl
@[simp] theorem State.noteArm_powered (n : ScreenNo) : (s.noteArm n).powered = s.powered := rfl
@[simp] theorem State.noteArm_bankUnit (n : ScreenNo) : (s.noteArm n).bankUnit = s.bankUnit := rfl
@[simp] theorem State.noteArm_projectors (n : ScreenNo) : (s.noteArm n).projectors = s.projectors := rfl
@[simp] theorem State.noteArm_trackers (n : ScreenNo) : (s.noteArm n).trackers = s.trackers := rfl
@[simp] theorem State.noteArm_screens (n : ScreenNo) : (s.noteArm n).screens = s.screens := rfl
@[simp] theorem State.noteArm_booth (n : ScreenNo) : (s.noteArm n).booth = s.booth := rfl
@[simp] theorem State.noteArm_arcs (n : ScreenNo) : (s.noteArm n).arcs = s.arcs := rfl
@[simp] theorem State.noteArm_shutterUnit (n : ScreenNo) : (s.noteArm n).shutterUnit = s.shutterUnit := rfl
@[simp] theorem State.noteArm_house (n : ScreenNo) : (s.noteArm n).house = s.house := rfl
@[simp] theorem State.noteArm_clock (n : ScreenNo) : (s.noteArm n).clock = s.clock := rfl
@[simp] theorem State.noteArm_shows (n : ScreenNo) : (s.noteArm n).shows = s.shows := rfl
@[simp] theorem State.noteArm_duty (n : ScreenNo) : (s.noteArm n).duty = s.duty := rfl
@[simp] theorem State.noteArm_links (n : ScreenNo) : (s.noteArm n).links = s.links := rfl
@[simp] theorem State.noteArm_powerRestored (n : ScreenNo) : (s.noteArm n).powerRestored = s.powerRestored := rfl
@[simp] theorem State.noteArm_attention (n : ScreenNo) : (s.noteArm n).attention = s.attention := rfl
@[simp] theorem State.noteArm_pins (n : ScreenNo) : (s.noteArm n).pins = s.pins := rfl
@[simp] theorem State.noteArm_work (n : ScreenNo) :
    (s.noteArm n).work = { s.work with arm := s.work.arm.set n true } := rfl
@[simp] theorem State.noteArm_free (n : ScreenNo) : (s.noteArm n).free = s.free := rfl
@[simp] theorem State.noteArm_pending (n : ScreenNo) : (s.noteArm n).pending = s.pending := rfl

/-! ### noteRetest -/

@[simp] theorem State.noteRetest_retained (n : ScreenNo) : (s.noteRetest n).retained = s.retained := rfl
@[simp] theorem State.noteRetest_powered (n : ScreenNo) : (s.noteRetest n).powered = s.powered := rfl
@[simp] theorem State.noteRetest_bankUnit (n : ScreenNo) : (s.noteRetest n).bankUnit = s.bankUnit := rfl
@[simp] theorem State.noteRetest_projectors (n : ScreenNo) : (s.noteRetest n).projectors = s.projectors := rfl
@[simp] theorem State.noteRetest_trackers (n : ScreenNo) : (s.noteRetest n).trackers = s.trackers := rfl
@[simp] theorem State.noteRetest_screens (n : ScreenNo) : (s.noteRetest n).screens = s.screens := rfl
@[simp] theorem State.noteRetest_booth (n : ScreenNo) : (s.noteRetest n).booth = s.booth := rfl
@[simp] theorem State.noteRetest_arcs (n : ScreenNo) : (s.noteRetest n).arcs = s.arcs := rfl
@[simp] theorem State.noteRetest_shutterUnit (n : ScreenNo) : (s.noteRetest n).shutterUnit = s.shutterUnit := rfl
@[simp] theorem State.noteRetest_house (n : ScreenNo) : (s.noteRetest n).house = s.house := rfl
@[simp] theorem State.noteRetest_clock (n : ScreenNo) : (s.noteRetest n).clock = s.clock := rfl
@[simp] theorem State.noteRetest_shows (n : ScreenNo) : (s.noteRetest n).shows = s.shows := rfl
@[simp] theorem State.noteRetest_duty (n : ScreenNo) : (s.noteRetest n).duty = s.duty := rfl
@[simp] theorem State.noteRetest_links (n : ScreenNo) : (s.noteRetest n).links = s.links := rfl
@[simp] theorem State.noteRetest_powerRestored (n : ScreenNo) : (s.noteRetest n).powerRestored = s.powerRestored := rfl
@[simp] theorem State.noteRetest_attention (n : ScreenNo) : (s.noteRetest n).attention = s.attention := rfl
@[simp] theorem State.noteRetest_pins (n : ScreenNo) : (s.noteRetest n).pins = s.pins := rfl
@[simp] theorem State.noteRetest_work (n : ScreenNo) :
    (s.noteRetest n).work = { s.work with retest := s.work.retest.set n true } := rfl
@[simp] theorem State.noteRetest_free (n : ScreenNo) : (s.noteRetest n).free = s.free := rfl
@[simp] theorem State.noteRetest_pending (n : ScreenNo) : (s.noteRetest n).pending = s.pending := rfl

/-! ### tellDuty -/

@[simp] theorem State.tellDuty_retained (d : DutyNotice) : (s.tellDuty d).retained = s.retained := rfl
@[simp] theorem State.tellDuty_powered (d : DutyNotice) : (s.tellDuty d).powered = s.powered := rfl
@[simp] theorem State.tellDuty_bankUnit (d : DutyNotice) : (s.tellDuty d).bankUnit = s.bankUnit := rfl
@[simp] theorem State.tellDuty_projectors (d : DutyNotice) : (s.tellDuty d).projectors = s.projectors := rfl
@[simp] theorem State.tellDuty_trackers (d : DutyNotice) : (s.tellDuty d).trackers = s.trackers := rfl
@[simp] theorem State.tellDuty_screens (d : DutyNotice) : (s.tellDuty d).screens = s.screens := rfl
@[simp] theorem State.tellDuty_booth (d : DutyNotice) : (s.tellDuty d).booth = s.booth := rfl
@[simp] theorem State.tellDuty_arcs (d : DutyNotice) : (s.tellDuty d).arcs = s.arcs := rfl
@[simp] theorem State.tellDuty_shutterUnit (d : DutyNotice) : (s.tellDuty d).shutterUnit = s.shutterUnit := rfl
@[simp] theorem State.tellDuty_house (d : DutyNotice) : (s.tellDuty d).house = s.house := rfl
@[simp] theorem State.tellDuty_clock (d : DutyNotice) : (s.tellDuty d).clock = s.clock := rfl
@[simp] theorem State.tellDuty_shows (d : DutyNotice) : (s.tellDuty d).shows = s.shows := rfl
@[simp] theorem State.tellDuty_duty (d : DutyNotice) : (s.tellDuty d).duty = s.duty := rfl
@[simp] theorem State.tellDuty_links (d : DutyNotice) : (s.tellDuty d).links = s.links := rfl
@[simp] theorem State.tellDuty_powerRestored (d : DutyNotice) : (s.tellDuty d).powerRestored = s.powerRestored := rfl
@[simp] theorem State.tellDuty_attention (d : DutyNotice) : (s.tellDuty d).attention = s.attention := rfl
@[simp] theorem State.tellDuty_pins (d : DutyNotice) : (s.tellDuty d).pins = s.pins := rfl
@[simp] theorem State.tellDuty_work (d : DutyNotice) :
    (s.tellDuty d).work = { s.work with duty := s.work.duty ++ [d] } := rfl
@[simp] theorem State.tellDuty_free (d : DutyNotice) : (s.tellDuty d).free = s.free := rfl
@[simp] theorem State.tellDuty_pending (d : DutyNotice) : (s.tellDuty d).pending = s.pending := rfl

/-! ### post -/

@[simp] theorem State.post_retained (b : Block) (c : AttnCause) : (s.post b c).retained = s.retained := rfl
@[simp] theorem State.post_powered (b : Block) (c : AttnCause) : (s.post b c).powered = s.powered := rfl
@[simp] theorem State.post_bankUnit (b : Block) (c : AttnCause) : (s.post b c).bankUnit = s.bankUnit := rfl
@[simp] theorem State.post_projectors (b : Block) (c : AttnCause) : (s.post b c).projectors = s.projectors := rfl
@[simp] theorem State.post_trackers (b : Block) (c : AttnCause) : (s.post b c).trackers = s.trackers := rfl
@[simp] theorem State.post_screens (b : Block) (c : AttnCause) : (s.post b c).screens = s.screens := rfl
@[simp] theorem State.post_booth (b : Block) (c : AttnCause) : (s.post b c).booth = s.booth := rfl
@[simp] theorem State.post_arcs (b : Block) (c : AttnCause) : (s.post b c).arcs = s.arcs := rfl
@[simp] theorem State.post_shutterUnit (b : Block) (c : AttnCause) : (s.post b c).shutterUnit = s.shutterUnit := rfl
@[simp] theorem State.post_house (b : Block) (c : AttnCause) : (s.post b c).house = s.house := rfl
@[simp] theorem State.post_clock (b : Block) (c : AttnCause) : (s.post b c).clock = s.clock := rfl
@[simp] theorem State.post_shows (b : Block) (c : AttnCause) : (s.post b c).shows = s.shows := rfl
@[simp] theorem State.post_duty (b : Block) (c : AttnCause) : (s.post b c).duty = s.duty := rfl
@[simp] theorem State.post_links (b : Block) (c : AttnCause) : (s.post b c).links = s.links := rfl
@[simp] theorem State.post_powerRestored (b : Block) (c : AttnCause) :
    (s.post b c).powerRestored = s.powerRestored := rfl
@[simp] theorem State.post_attention (b : Block) (c : AttnCause) : (s.post b c).attention = s.attention := rfl
@[simp] theorem State.post_pins (b : Block) (c : AttnCause) : (s.post b c).pins = s.pins := rfl
@[simp] theorem State.post_work (b : Block) (c : AttnCause) :
    (s.post b c).work = { s.work with posts := s.work.posts ++ [(b, c)] } := rfl
@[simp] theorem State.post_free (b : Block) (c : AttnCause) : (s.post b c).free = s.free := rfl
@[simp] theorem State.post_pending (b : Block) (c : AttnCause) : (s.post b c).pending = s.pending := rfl

/-! ### begin -/

@[simp] theorem State.begin_retained : (s.begin).retained = s.retained := rfl
@[simp] theorem State.begin_powered : (s.begin).powered = s.powered := rfl
@[simp] theorem State.begin_bankUnit : (s.begin).bankUnit = s.bankUnit := rfl
@[simp] theorem State.begin_projectors : (s.begin).projectors = s.projectors := rfl
@[simp] theorem State.begin_trackers : (s.begin).trackers = s.trackers := rfl
@[simp] theorem State.begin_screens : (s.begin).screens = s.screens := rfl
@[simp] theorem State.begin_booth : (s.begin).booth = s.booth := rfl
@[simp] theorem State.begin_arcs : (s.begin).arcs = s.arcs := rfl
@[simp] theorem State.begin_shutterUnit : (s.begin).shutterUnit = s.shutterUnit := rfl
@[simp] theorem State.begin_house : (s.begin).house = s.house := rfl
@[simp] theorem State.begin_clock : (s.begin).clock = s.clock := rfl
@[simp] theorem State.begin_shows : (s.begin).shows = s.shows := rfl
@[simp] theorem State.begin_duty : (s.begin).duty = s.duty := rfl
@[simp] theorem State.begin_links : (s.begin).links = s.links := rfl
@[simp] theorem State.begin_powerRestored : (s.begin).powerRestored = s.powerRestored := rfl
@[simp] theorem State.begin_attention : (s.begin).attention = s.attention := rfl
@[simp] theorem State.begin_pins : (s.begin).pins = s.pins := rfl
@[simp] theorem State.begin_work : (s.begin).work = .empty := rfl
@[simp] theorem State.begin_free : (s.begin).free = s.free := rfl
@[simp] theorem State.begin_pending : (s.begin).pending = s.pending := rfl

end Sys2Proof.Machine
end

