-- ==== Sys2Proof/Laws/Tables.lean ====
section
/-! SUPPORT. Reading a table that has been written: what `get` answers after `set`, `map`, `ofFn` and `const`. -/

namespace Sys2Proof.Machine

variable {α β : Type}

@[simp] theorem ByScreen.get_set (v : ByScreen α) (i j : ScreenNo) (x : α) :
    (v.set i x).get j = if j = i then x else v.get j := by cases i <;> cases j <;> rfl

@[simp] theorem ByScreen.get_const (x : α) (i : ScreenNo) : (ByScreen.const x).get i = x := by cases i <;> rfl

@[simp] theorem ByScreen.get_map (f : α → β) (v : ByScreen α) (i : ScreenNo) : (v.map f).get i = f (v.get i) := by
  cases i <;> rfl

@[simp] theorem ByScreen.get_ofFn (f : ScreenNo → α) (i : ScreenNo) : (ByScreen.ofFn f).get i = f i := by
  cases i <;> rfl

theorem ByScreen.ext_get {v w : ByScreen α} (h : ∀ i, v.get i = w.get i) : v = w := by
  have h1 := h .s1; have h2 := h .s2; have h3 := h .s3; have h4 := h .s4
  cases v; cases w; simp only [ByScreen.get] at h1 h2 h3 h4; subst h1 h2 h3 h4; rfl

@[simp] theorem ByProj.get_set (v : ByProj α) (p q : ProjNo) (x : α) :
    (v.set p x).get q = if q = p then x else v.get q := by
  obtain ⟨e, f⟩ := p; obtain ⟨g, h⟩ := q; cases e <;> cases f <;> cases g <;> cases h <;> rfl

@[simp] theorem ByProj.get_const (x : α) (p : ProjNo) : (ByProj.const x).get p = x := by
  obtain ⟨e, f⟩ := p; cases e <;> cases f <;> rfl

@[simp] theorem ByProj.get_ofFn (f : ProjNo → α) (p : ProjNo) : (ByProj.ofFn f).get p = f p := by
  obtain ⟨e, f⟩ := p; cases e <;> cases f <;> rfl

@[simp] theorem ByProj.get_map (f : α → β) (v : ByProj α) (p : ProjNo) : (v.map f).get p = f (v.get p) := by
  simp [ByProj.map]

theorem ByProj.ext_get {v w : ByProj α} (h : ∀ p, v.get p = w.get p) : v = w := by
  have h1 := h ⟨.s1, .a⟩; have h2 := h ⟨.s1, .b⟩; have h3 := h ⟨.s2, .a⟩; have h4 := h ⟨.s2, .b⟩
  have h5 := h ⟨.s3, .a⟩; have h6 := h ⟨.s3, .b⟩; have h7 := h ⟨.s4, .a⟩; have h8 := h ⟨.s4, .b⟩
  cases v; cases w; simp only [ByProj.get] at *; subst h1 h2 h3 h4 h5 h6 h7 h8; rfl

@[simp] theorem ByShutter.get_set (v : ByShutter α) (i j : ShutterNo) (x : α) :
    (v.set i x).get j = if j = i then x else v.get j := by
  cases i <;> cases j <;> simp [ByShutter.set, ByShutter.get]

@[simp] theorem ByShutter.get_const (x : α) (i : ShutterNo) : (ByShutter.const x).get i = x := by
  cases i <;> simp [ByShutter.const, ByShutter.get]

@[simp] theorem ByShutter.get_map (f : α → β) (v : ByShutter α) (i : ShutterNo) : (v.map f).get i = f (v.get i) := by
  cases i <;> simp [ByShutter.map, ByShutter.get]

@[simp] theorem ByShutter.get_ofFn (f : ShutterNo → α) (i : ShutterNo) : (ByShutter.ofFn f).get i = f i := by
  cases i <;> simp [ByShutter.ofFn, ByShutter.get]

theorem ByShutter.ext_get {v w : ByShutter α} (h : ∀ i, v.get i = w.get i) : v = w := by
  cases v; cases w
  congr
  · exact ByProj.ext_get fun p => h (.port p)
  · exact ByScreen.ext_get fun n => h (.observation n)

@[simp] theorem ByPos.get_set (v : ByPos α) (i j : ChannelPos) (x : α) :
    (v.set i x).get j = if j = i then x else v.get j := by cases i <;> cases j <;> rfl

@[simp] theorem ByPos.get_const (x : α) (i : ChannelPos) : (ByPos.const x).get i = x := by cases i <;> rfl

@[simp] theorem ByPos.get_map (f : α → β) (v : ByPos α) (i : ChannelPos) : (v.map f).get i = f (v.get i) := by
  cases i <;> rfl

@[simp] theorem ByStation.get_set (v : ByStation α) (i j : Station) (x : α) :
    (v.set i x).get j = if j = i then x else v.get j := by cases i <;> cases j <;> rfl

@[simp] theorem ByStation.get_const (x : α) (i : Station) : (ByStation.const x).get i = x := by cases i <;> rfl

@[simp] theorem ByStation.get_map (f : α → β) (v : ByStation α) (i : Station) : (v.map f).get i = f (v.get i) := by
  cases i <;> rfl

theorem ByStation.ext_get {v w : ByStation α} (h : ∀ i, v.get i = w.get i) : v = w := by
  have h1 := h .console; have h2 := h .house; have h3 := h .program
  cases v; cases w; simp only [ByStation.get] at h1 h2 h3; subst h1 h2 h3; rfl

@[simp] theorem ByBank.get_set (v : ByBank α) (i j : BankNo) (x : α) :
    (v.set i x).get j = if j = i then x else v.get j := by cases i <;> cases j <;> rfl

@[simp] theorem ByBank.get_const (x : α) (i : BankNo) : (ByBank.const x).get i = x := by cases i <;> rfl

@[simp] theorem ByClass.get_set (v : ByClass α) (i j : AttnClass) (x : α) :
    (v.set i x).get j = if j = i then x else v.get j := by cases i <;> cases j <;> rfl

@[simp] theorem ByClass.get_const (x : α) (i : AttnClass) : (ByClass.const x).get i = x := by cases i <;> rfl


/-- A fold of a function that keeps a view of its state keeps it. -/
theorem foldl_keeps {σ ι γ : Type} (view : σ → γ) (f : σ → ι → σ) (h : ∀ t x, view (f t x) = view t) (l : List ι) (s : σ) :
    view (l.foldl f s) = view s := by
  induction l generalizing s with
  | nil => rfl
  | cons x rest ih => simp [List.foldl, ih, h]

end Sys2Proof.Machine
end

