-- ==== Sys2Proof/Laws/Records.lean ====
section
/-! SUPPORT. Reading one record after one of its kind has been replaced. -/

namespace Sys2Proof.Machine

variable (s : State)

@[simp] theorem State.projector_setProjector (p q : ProjNo) (r : Projector) :
    (s.setProjector p r).projector q = if q = p then r else s.projector q := by simp [State.projector]

@[simp] theorem State.tracker_setTracker (p q : ProjNo) (r : Tracker) :
    (s.setTracker p r).tracker q = if q = p then r else s.tracker q := by simp [State.tracker]

@[simp] theorem State.screen_setScreen (n m : ScreenNo) (r : Screen) :
    (s.setScreen n r).screen m = if m = n then r else s.screen m := by simp [State.screen]

@[simp] theorem State.arc_setArc (p q : ProjNo) (r : Arc) : (s.setArc p r).arc q = if q = p then r else s.arc q := by
  simp [State.arc]

@[simp] theorem State.arcStore_setArcStore (p q : ProjNo) (r : ArcStore) :
    (s.setArcStore p r).arcStore q = if q = p then r else s.arcStore q := by simp [State.arcStore]

@[simp] theorem State.runMarks_setRunMarks (p q : ProjNo) (r : RunMarks) :
    (s.setRunMarks p r).runMarks q = if q = p then r else s.runMarks q := by simp [State.runMarks]

@[simp] theorem State.shutter_setShutter (i j : ShutterNo) (r : Shutter) :
    (s.setShutter i r).shutter j = if j = i then r else s.shutter j := by simp [State.shutter]

@[simp] theorem State.channel_setChannel (c d : ChannelNo) (r : Channel) :
    (s.setChannel c r).channel d = if d = c then r else s.channel d := by
  obtain ⟨u, v⟩ := c
  obtain ⟨e, f⟩ := d
  by_cases h : e = u <;> by_cases k : f = v <;> simp [State.channel, h, k]

@[simp] theorem State.curtain_setCurtain (n m : ScreenNo) (r : Curtain) :
    (s.setCurtain n r).curtain m = if m = n then r else s.curtain m := by simp [State.curtain]

@[simp] theorem State.showRec_setShow (n m : ScreenNo) (r : ShowRec) :
    (s.setShow n r).showRec m = if m = n then r else s.showRec m := by simp [State.showRec]

@[simp] theorem State.link_setLink (st u : Station) (r : Link) :
    (s.setLink st r).link u = if u = st then r else s.link u := by simp [State.link]

@[simp] theorem State.attn_setAttn (st u : Station) (r : Attention) :
    (s.setAttn st r).attn u = if u = st then r else s.attn u := by simp [State.attn]

@[simp] theorem State.bank_setBank (n m : ScreenNo) (b c : BankNo) (r : Bank) :
    (s.setBank n b r).bank m c = if m = n ∧ c = b then r else s.bank m c := by
  by_cases h : m = n <;> by_cases k : c = b <;> simp [State.bank, h, k]

end Sys2Proof.Machine
end

