-- ==== Sys2Proof/Laws/Frames.lean ====
section
/-! SUPPORT. What the shared operations leave alone. `State.fixed` gathers what no operation below the requests changes;
`State.calm` adds the banks, the shutters, the duty list and the attention records. One lemma for each operation says that it
keeps them. -/

namespace Sys2Proof.Machine

variable (s : State)

/-! ## The updates -/

@[simp] theorem State.setProjector_calm (p : ProjNo) (r : Projector) : (s.setProjector p r).calm = s.calm := rfl
@[simp] theorem State.setTracker_calm (p : ProjNo) (r : Tracker) : (s.setTracker p r).calm = s.calm := rfl
@[simp] theorem State.setScreen_calm (n : ScreenNo) (r : Screen) : (s.setScreen n r).calm = s.calm := rfl
@[simp] theorem State.setBell_calm (b : Bell) : (s.setBell b).calm = s.calm := rfl
@[simp] theorem State.setArc_calm (p : ProjNo) (r : Arc) : (s.setArc p r).calm = s.calm := rfl
@[simp] theorem State.setArcStore_calm (p : ProjNo) (r : ArcStore) : (s.setArcStore p r).calm = s.calm := rfl
@[simp] theorem State.setRunMarks_calm (p : ProjNo) (r : RunMarks) : (s.setRunMarks p r).calm = s.calm := rfl
@[simp] theorem State.setChannel_calm (c : ChannelNo) (r : Channel) : (s.setChannel c r).calm = s.calm := rfl
@[simp] theorem State.setCurtain_calm (n : ScreenNo) (r : Curtain) : (s.setCurtain n r).calm = s.calm := rfl
@[simp] theorem State.setMarks_calm (n : ScreenNo) (m : Half) : (s.setMarks n m).calm = s.calm := rfl
@[simp] theorem State.setShow_calm (n : ScreenNo) (r : ShowRec) : (s.setShow n r).calm = s.calm := rfl
@[simp] theorem State.noteArm_calm (n : ScreenNo) : (s.noteArm n).calm = s.calm := rfl
@[simp] theorem State.noteRetest_calm (n : ScreenNo) : (s.noteRetest n).calm = s.calm := rfl
@[simp] theorem State.tellDuty_calm (d : DutyNotice) : (s.tellDuty d).calm = s.calm := rfl
@[simp] theorem State.post_calm (b : Block) (c : AttnCause) : (s.post b c).calm = s.calm := rfl
@[simp] theorem State.begin_calm : s.begin.calm = s.calm := rfl
@[simp] theorem State.takeBit_calm : s.takeBit.2.calm = s.calm := rfl

/-! ## Notices -/

@[simp] theorem State.noteRunState_calm (n : ScreenNo) : (s.noteRunState n).calm = s.calm := by
  unfold State.noteRunState
  try dsimp only
  simp

@[simp] theorem State.noteArmIfStandby_calm (p : ProjNo) : (s.noteArmIfStandby p).calm = s.calm := by
  unfold State.noteArmIfStandby
  try dsimp only
  (repeat' split) <;> simp


/-! ## House unit -/

@[simp] theorem State.actCurtain_calm (n : ScreenNo) (a : CurtainAction) : (s.actCurtain n a).calm = s.calm := by
  unfold State.actCurtain
  try dsimp only
  (repeat' split) <;> simp

theorem recallChannel_calm (lv : Levels) (f : Nat) (n : ScreenNo) (a : State × Nat) (k : ChannelPos) :
    (recallChannel lv f n a k).1.calm = a.1.calm := by
  unfold recallChannel; split <;> [skip; split] <;> simp

@[simp] theorem State.recallScene_calm (n : ScreenNo) (k f : Nat) : (s.recallScene n k f).1.calm = s.calm := by
  simp only [State.recallScene, allPositions, List.foldl]
  have h := recallChannel_calm (s.scene n k) f n
  simp [h]

@[simp] theorem State.fireEntry_calm (n : ScreenNo) (k : Nat) (c : Cue) : (s.fireEntry n k c).calm = s.calm := by
  unfold State.fireEntry
  try dsimp only
  (repeat' split) <;> simp

@[simp] theorem State.fireWhere_calm (n : ScreenNo) (f : Cue → Bool) : (s.fireWhere n f).calm = s.calm := by
  refine foldl_keeps State.calm _ (fun t x => ?_) _ s
  split <;> simp

@[simp] theorem State.houseShowStart_calm (n : ScreenNo) : (s.houseShowStart n).calm = s.calm := by
  unfold State.houseShowStart
  try dsimp only
  simp

@[simp] theorem State.houseShowEnd_calm (n : ScreenNo) : (s.houseShowEnd n).calm = s.calm := by
  unfold State.houseShowEnd
  try dsimp only
  simp

theorem standingChannel_calm (k : StandingKey) (e : StandingEntry) (a : State × Bool) (c : ChannelNo) :
    (standingChannel k e a c).1.calm = a.1.calm := by
  unfold standingChannel; split <;> [skip; split] <;> simp

@[simp] theorem State.applyStanding_calm (k : StandingKey) (e : StandingEntry) : (s.applyStanding k e).1.calm = s.calm := by
  unfold State.applyStanding
  exact foldl_keeps (fun a : State × Bool => a.1.calm) _ (fun a c => standingChannel_calm k e a c) _ (s, false)

@[simp] theorem State.fireStanding_calm (k : StandingKey) : (s.fireStanding k).calm = s.calm := by
  unfold State.fireStanding
  try dsimp only
  (repeat' split) <;> simp


/-! ## Arc unit -/

@[simp] theorem State.arcNotice_calm (p : ProjNo) : (s.arcNotice p).calm = s.calm := by
  unfold State.arcNotice
  try dsimp only
  simp

@[simp] theorem State.retrimNotice_calm (p : ProjNo) : (s.retrimNotice p).calm = s.calm := by
  unfold State.retrimNotice
  try dsimp only
  simp

@[simp] theorem State.arcFaultNotice_calm (p : ProjNo) : (s.arcFaultNotice p).calm = s.calm := by
  unfold State.arcFaultNotice
  try dsimp only
  (repeat' split) <;> simp

@[simp] theorem State.beginSpan_calm (p : ProjNo) : (s.beginSpan p).calm = s.calm := by
  unfold State.beginSpan
  try dsimp only
  simp

@[simp] theorem State.arcShowing_calm (p : ProjNo) : (s.arcShowing p).calm = s.calm := by
  unfold State.arcShowing
  try dsimp only
  (repeat' split) <;> simp

@[simp] theorem State.arcShowingEnded_calm (p : ProjNo) : (s.arcShowingEnded p).calm = s.calm := by
  unfold State.arcShowingEnded
  try dsimp only
  (repeat' split) <;> simp

@[simp] theorem State.readCrater_calm (p : ProjNo) : (s.readCrater p).calm = s.calm := by
  unfold State.readCrater
  try dsimp only
  (repeat' split) <;> simp

@[simp] theorem State.establish_calm (p : ProjNo) : (s.establish p).calm = s.calm := by
  unfold State.establish
  try dsimp only
  (repeat' split) <;> simp

@[simp] theorem State.putOut_calm (p : ProjNo) : (s.putOut p).calm = s.calm := by
  unfold State.putOut
  try dsimp only
  simp

@[simp] theorem State.fireOut_calm (p : ProjNo) : (s.fireOut p).calm = s.calm := by
  unfold State.fireOut
  try dsimp only
  (repeat' split) <;> simp

@[simp] theorem State.linkOut_calm (p : ProjNo) (i : ShutterNo) : (s.linkOut i p).calm = s.calm := by
  unfold State.linkOut
  try dsimp only
  (repeat' split) <;> simp

@[simp] theorem State.settleLow_calm (p : ProjNo) : (s.settleLow p).calm = s.calm := by
  unfold State.settleLow
  try dsimp only
  (repeat' split) <;> simp

@[simp] theorem State.becomeSpent_calm (p : ProjNo) : (s.becomeSpent p).calm = s.calm := by
  unfold State.becomeSpent
  try dsimp only
  simp

@[simp] theorem State.feedStep_calm (p : ProjNo) : (s.feedStep p).calm = s.calm := by
  unfold State.feedStep
  try dsimp only
  (repeat' split) <;> simp


/-! ## Projector unit -/

@[simp] theorem State.becomeEmpty_calm (p : ProjNo) (r : Option Nat) : (s.becomeEmpty p r).calm = s.calm := by
  unfold State.becomeEmpty
  try dsimp only
  simp

@[simp] theorem State.endShowing_calm (p : ProjNo) : (s.endShowing p).calm = s.calm := by
  unfold State.endShowing
  try dsimp only
  (repeat' split) <;> simp

@[simp] theorem State.emptyRun_calm (p : ProjNo) : (s.emptyRun p).calm = s.calm := by
  unfold State.emptyRun
  try dsimp only
  (repeat' split) <;> simp

@[simp] theorem State.haltCore_calm (p : ProjNo) (c : HaltCause) : (s.haltCore p c).calm = s.calm := by
  unfold State.haltCore
  try dsimp only
  (repeat' split) <;> simp

@[simp] theorem State.startOrder_calm (p : ProjNo) : (s.startOrder p).1.calm = s.calm := by
  unfold State.startOrder
  try dsimp only
  (repeat' split) <;> simp

@[simp] theorem State.openOrder_calm (p : ProjNo) : (s.openOrder p).1.calm = s.calm := by
  unfold State.openOrder
  try dsimp only
  (repeat' split) <;> simp

@[simp] theorem State.douseOrder_calm (p : ProjNo) : (s.douseOrder p).calm = s.calm := by
  unfold State.douseOrder
  try dsimp only
  (repeat' split) <;> simp

@[simp] theorem State.enterRunout_calm (p : ProjNo) : (s.enterRunout p).calm = s.calm := by
  unfold State.enterRunout
  try dsimp only
  (repeat' split) <;> simp

@[simp] theorem State.closeOrder_calm (p : ProjNo) : (s.closeOrder p).calm = s.calm := by
  unfold State.closeOrder
  try dsimp only
  (repeat' split) <;> simp


/-! ## Scheduler -/

@[simp] theorem State.carbonNotice_calm (n : ScreenNo) : (s.carbonNotice n).calm = s.calm := by
  unfold State.carbonNotice
  try dsimp only
  (repeat' split) <;> simp

@[simp] theorem State.storeReadiness_calm (n : ScreenNo) : (s.storeReadiness n).calm = s.calm := by
  unfold State.storeReadiness
  try dsimp only
  simp

@[simp] theorem State.setShowState_calm (n : ScreenNo) (x : ShowState) : (s.setShowState n x).calm = s.calm := by
  unfold State.setShowState
  try dsimp only
  simp

@[simp] theorem State.callScreen_calm (n : ScreenNo) (m : Nat) : (s.callScreen n m).calm = s.calm := by
  unfold State.callScreen
  try dsimp only
  simp

@[simp] theorem State.uncall_calm (n : ScreenNo) : (s.uncall n).calm = s.calm := by
  unfold State.uncall
  try dsimp only
  (repeat' split) <;> simp

@[simp] theorem State.armNext_calm (n : ScreenNo) : (s.armNext n).calm = s.calm := by
  unfold State.armNext
  try dsimp only
  (repeat' split) <;> simp

@[simp] theorem State.schedulerRotation_calm (n : ScreenNo) : (s.schedulerRotation n).calm = s.calm := by
  unfold State.schedulerRotation
  try dsimp only
  simp

@[simp] theorem State.schedulerShowEnd_calm (n : ScreenNo) : (s.schedulerShowEnd n).calm = s.calm := by
  unfold State.schedulerShowEnd
  try dsimp only
  (repeat' split) <;> simp


/-! ## Sequencer -/

@[simp] theorem State.modScreen_calm (n : ScreenNo) (f : Screen → Screen) : (s.modScreen n f).calm = s.calm := by
  unfold State.modScreen
  try dsimp only
  simp

@[simp] theorem State.setScreenState_calm (n : ScreenNo) (x : ScreenState) :
    (s.setScreenState n x).calm = s.calm := by
  unfold State.setScreenState; dsimp only; split <;> [skip; split] <;> simp <;> rfl

@[simp] theorem State.setLate_calm (n : ScreenNo) : (s.setLate n).calm = s.calm := by
  unfold State.setLate
  try dsimp only
  simp

@[simp] theorem State.clearLate_calm (n : ScreenNo) : (s.clearLate n).calm = s.calm := by
  unfold State.clearLate
  try dsimp only
  simp

@[simp] theorem State.stopIdle_calm (n : ScreenNo) : (s.stopIdle n).calm = s.calm := by
  unfold State.stopIdle
  try dsimp only
  (repeat' split) <;> simp

@[simp] theorem State.interrupt_calm (n : ScreenNo) : (s.interrupt n).calm = s.calm := by
  unfold State.interrupt
  try dsimp only
  (repeat' split) <;> simp

@[simp] theorem State.roll_calm (n : ScreenNo) (p : ProjNo) : (s.roll n p).calm = s.calm := by
  unfold State.roll
  try dsimp only
  simp

@[simp] theorem State.actOnArming_calm (n : ScreenNo) (p : ProjNo) (b : Bool) :
    (s.actOnArming n p b).calm = s.calm := by
  unfold State.actOnArming
  try dsimp only
  (repeat' split) <;> simp

@[simp] theorem State.armingCheck_calm (n : ScreenNo) : (s.armingCheck n).calm = s.calm := by
  unfold State.armingCheck
  try dsimp only
  (repeat' split) <;> simp

@[simp] theorem State.openFailed_calm (n : ScreenNo) (p : ProjNo) : (s.openFailed n p).calm = s.calm := by
  unfold State.openFailed
  try dsimp only
  simp

@[simp] theorem State.openTest_calm (n : ScreenNo) : (s.openTest n).calm = s.calm := by
  unfold State.openTest
  try dsimp only
  (repeat' split) <;> simp

@[simp] theorem State.beginOpening_calm (n : ScreenNo) (p : ProjNo) (r : Option Nat) :
    (s.beginOpening n p r).calm = s.calm := by
  unfold State.beginOpening
  try dsimp only
  (repeat' split) <;> simp

@[simp] theorem State.rescueRolling_calm (n : ScreenNo) (p : ProjNo) : (s.rescueRolling n p).calm = s.calm := by
  unfold State.rescueRolling
  try dsimp only
  simp

@[simp] theorem State.rescueSwapping_calm (n : ScreenNo) (p : ProjNo) : (s.rescueSwapping n p).calm = s.calm := by
  unfold State.rescueSwapping
  try dsimp only
  simp

@[simp] theorem State.showingHalt_calm (n : ScreenNo) : (s.showingHalt n).calm = s.calm := by
  unfold State.showingHalt
  try dsimp only
  (repeat' split) <;> simp

@[simp] theorem State.backToSingle_calm (n : ScreenNo) : (s.backToSingle n).calm = s.calm := by
  unfold State.backToSingle
  try dsimp only
  simp

@[simp] theorem State.swapIncomingHalt_calm (n : ScreenNo) (q : ProjNo) : (s.swapIncomingHalt n q).calm = s.calm := by
  unfold State.swapIncomingHalt
  try dsimp only
  (repeat' split) <;> simp

@[simp] theorem State.standbyHalt_calm (n : ScreenNo) : (s.standbyHalt n).calm = s.calm := by
  unfold State.standbyHalt
  try dsimp only
  (repeat' split) <;> simp

@[simp] theorem State.onHalt_calm (p : ProjNo) : (s.onHalt p).calm = s.calm := by
  unfold State.onHalt
  try dsimp only
  (repeat' split) <;> simp

@[simp] theorem State.haltEvent_calm (p : ProjNo) (c : HaltCause) : (s.haltEvent p c).calm = s.calm := by
  unfold State.haltEvent
  try dsimp only
  (repeat' split) <;> simp

@[simp] theorem State.swapFail_calm (n : ScreenNo) (p q : ProjNo) : (s.swapFail n p q).calm = s.calm := by
  unfold State.swapFail
  try dsimp only
  (repeat' split) <;> simp

@[simp] theorem State.swapStart_calm (n : ScreenNo) (p q : ProjNo) (b : Bool) :
    (s.swapStart n p q b).calm = s.calm := by
  unfold State.swapStart
  try dsimp only
  (repeat' split) <;> simp

@[simp] theorem State.swapIfReady_calm (n : ScreenNo) : (s.swapIfReady n).calm = s.calm := by
  unfold State.swapIfReady
  try dsimp only
  (repeat' split) <;> simp

@[simp] theorem State.onSpeed_calm (p : ProjNo) : (s.onSpeed p).calm = s.calm := by
  unfold State.onSpeed
  try dsimp only
  (repeat' split) <;> simp

@[simp] theorem State.onLeadIn_calm (p : ProjNo) : (s.onLeadIn p).calm = s.calm := by
  unfold State.onLeadIn
  try dsimp only
  (repeat' split) <;> simp

@[simp] theorem State.onMotorCue_calm (p : ProjNo) : (s.onMotorCue p).calm = s.calm := by
  unfold State.onMotorCue
  try dsimp only
  (repeat' split) <;> simp

@[simp] theorem State.onChangeoverCue_calm (p : ProjNo) : (s.onChangeoverCue p).calm = s.calm := by
  unfold State.onChangeoverCue
  try dsimp only
  (repeat' split) <;> simp


/-! ## Show opening -/

@[simp] theorem State.giveStart_calm (n : ScreenNo) : (s.giveStart n).calm = s.calm := by
  unfold State.giveStart
  try dsimp only
  (repeat' split) <;> simp

@[simp] theorem State.holdBell_calm (n : ScreenNo) : (s.holdBell n).calm = s.calm := by
  unfold State.holdBell
  try dsimp only
  simp

@[simp] theorem State.releaseBell_calm (n : ScreenNo) : (s.releaseBell n).calm = s.calm := by
  unfold State.releaseBell
  try dsimp only
  simp

@[simp] theorem State.startShow_calm (n : ScreenNo) : (s.startShow n).calm = s.calm := by
  unfold State.startShow
  try dsimp only
  (repeat' split) <;> simp

@[simp] theorem State.holdShow_calm (n : ScreenNo) : (s.holdShow n).calm = s.calm := by
  unfold State.holdShow
  try dsimp only
  simp

@[simp] theorem State.retest_calm (n : ScreenNo) : (s.retest n).calm = s.calm := by
  unfold State.retest
  try dsimp only
  (repeat' split) <;> simp

@[simp] theorem State.missStart_calm (n : ScreenNo) (m : Nat) : (s.missStart n m).calm = s.calm := by
  unfold State.missStart
  try dsimp only
  simp

@[simp] theorem State.reassign_calm (p : ProjNo) : (s.reassign p).calm = s.calm := by
  unfold State.reassign
  try dsimp only
  (repeat' split) <;> simp

@[simp] theorem State.stopShow_calm (n : ScreenNo) : (s.stopShow n).calm = s.calm := by
  unfold State.stopShow
  try dsimp only
  simp

end Sys2Proof.Machine
end

