-- ==== Sys2Proof/Laws/Settle.lean ====
section
/-! SUPPORT. The trigger of the shutter unit and the end of a step: each keeps what it does not name, and the end of a step does
no more than start THREADED projectors, write the show, screen and duty records, and record attention causes. -/

namespace Sys2Proof.Machine

variable (s : State)

/-! ## Triggers -/

@[simp] theorem State.clearCause_calm (k : DropCause) :
    (s.clearCause k).calm = { s.calm with shutterUnit := (s.clearCause k).shutterUnit } := rfl

@[simp] theorem State.setFire_calm (v : Bool) :
    (s.setFire v).calm = { s.calm with shutterUnit := { s.shutterUnit with fireActive := v } } := rfl

@[simp] theorem State.noteLeftUp_calm (p : ProjNo) : (s.noteLeftUp p).calm = s.calm := by simp [State.noteLeftUp]

/-- On a screen without an opening projector an interruption stops the standby (R66, step 1). -/
theorem State.idleProj_of_no_opening {n : ScreenNo} (h : (s.screen n).opening = none) : s.idleProj n = s.standby n := by
  simp [State.idleProj, h]

@[simp] theorem State.haltPorts_calm (l : List ProjNo) (c : HaltCause) : (s.haltPorts l c).calm = s.calm :=
  foldl_keeps State.calm _ (fun t p => State.haltCore_calm t p c) l s

theorem State.takeHalts_calm (l : List ProjNo) (n : ScreenNo) : (State.takeHalts l s n).calm = s.calm := by
  have h := fun t p => State.onHalt_calm t p
  unfold State.takeHalts
  dsimp only
  split
  · rw [foldl_keeps State.calm _ h]; rfl
  · exact foldl_keeps State.calm _ h _ s

/-- A trigger changes no more of `calm` than the shutters of its entry, whatever halt has raised it. -/
theorem State.triggerAfter_calm (k : TriggerKey) (first : Option ProjNo) :
    (s.triggerAfter k first).calm = (s.addCauses k).calm := by
  have h1 := fun l t => foldl_keeps State.calm State.onHalt (fun t p => State.onHalt_calm t p) l t
  have h2 := fun l t => foldl_keeps State.calm (State.takeHalts l) (fun t n => State.takeHalts_calm t l n) allScreens t
  have h3 := fun l t => foldl_keeps State.calm State.noteLeftUp (fun t p => State.noteLeftUp_calm t p) l t
  have h4 := fun t => foldl_keeps State.calm (fun (t : State) i => t.tellDuty (.dropped i)) (fun _ _ => rfl) (s.droppedBy k) t
  unfold State.triggerAfter
  dsimp only
  split <;> simp only [State.post_calm, h1, h2, h3, h4, State.haltPorts_calm]

theorem State.trigger_calm (k : TriggerKey) : (s.trigger k).calm = (s.addCauses k).calm := State.triggerAfter_calm s k none

theorem State.addCauses_calm (k : TriggerKey) :
    (s.addCauses k).calm = { s.calm with shutterUnit := (s.addCauses k).shutterUnit } := rfl

@[simp] theorem State.noteFire_calm : s.noteFire.calm = s.calm := by
  simp [State.noteFire, allScreens]

/-! ## The end of a step -/

@[simp] theorem State.settleArming_calm : s.settleArming.calm = s.calm := by
  refine foldl_keeps State.calm _ (fun t n => ?_) _ s
  split <;> simp

@[simp] theorem State.settleTests_calm : s.settleTests.calm = s.calm := by
  refine foldl_keeps State.calm _ (fun t n => ?_) _ s
  split <;> simp

/-- All but the duty list and the notices: what the duty unit reads and leaves. -/
def State.outsideDuty (s : State) : State := { s with duty := [], work := .empty, free := 0 }

theorem State.insertDuty_outside (e : DutyEntry) : (s.insertDuty e).outsideDuty = s.outsideDuty := by
  unfold State.insertDuty; dsimp only; split <;> rfl

theorem State.removeDuty_outside (k : DutyKey) : (s.removeDuty k).outsideDuty = s.outsideDuty := rfl

theorem State.derive_outside (ps : List ProjNo) : (s.derive ps).outsideDuty = s.outsideDuty := by
  unfold State.derive
  exact foldl_keeps State.outsideDuty _ (fun t w => State.insertDuty_outside t _) _ _

theorem State.deriveScreen_outside (n : ScreenNo) : (s.deriveScreen n).outsideDuty = s.outsideDuty := by
  unfold State.deriveScreen
  rw [foldl_keeps State.outsideDuty State.restoreRearm (fun t i => ?_), State.derive_outside]
  unfold State.restoreRearm
  split
  · exact State.insertDuty_outside t _
  · rfl

theorem State.takeDuty_outside (d : DutyNotice) : (s.takeDuty d).outsideDuty = s.outsideDuty := by
  cases d <;> simp only [State.takeDuty, State.raiseRetrim, State.raiseRearm, State.derive_outside,
    State.deriveScreen_outside, State.insertDuty_outside, State.removeDuty_outside]
  split
  · rfl
  · rfl

theorem State.shuffleRetrim_outside (p : ProjNo) : (s.shuffleRetrim p).outsideDuty = s.outsideDuty := by
  unfold State.shuffleRetrim; dsimp only; split
  · split <;> rfl
  · rfl

/-- The duty unit changes the duty list and the step's own notices. -/
theorem State.settleDuty_outside : s.settleDuty.outsideDuty = s.outsideDuty := by
  unfold State.settleDuty
  rw [foldl_keeps State.outsideDuty State.takeDuty (fun t d => State.takeDuty_outside t d)]
  exact foldl_keeps State.outsideDuty _ (fun t p => State.shuffleRetrim_outside t p) _ s

/-- All but the attention records and the free choices. -/
def State.outsidePosts (s : State) : State := { s with attention := .const .blank, free := 0 }

/-- The attention unit changes the attention records. -/
theorem State.settlePosts_outside : s.settlePosts.outsidePosts = s.outsidePosts := by
  refine foldl_keeps State.outsidePosts _ (fun t c => ?_) _ s
  unfold State.offerClass
  dsimp only
  rw [foldl_keeps State.outsidePosts State.offer (fun _ _ => rfl)]
  rfl

/-- What the end of a step leaves to the arming checks and the readiness tests: every field but the duty list, the
attention records, the free choices and the step's own notices. -/
theorem State.settle_rest : s.settle.retained = s.settleArming.settleTests.retained ∧
    s.settle.powered = s.settleArming.settleTests.powered ∧ s.settle.bankUnit = s.settleArming.settleTests.bankUnit ∧
    s.settle.projectors = s.settleArming.settleTests.projectors ∧
    s.settle.trackers = s.settleArming.settleTests.trackers ∧ s.settle.screens = s.settleArming.settleTests.screens ∧
    s.settle.booth = s.settleArming.settleTests.booth ∧ s.settle.arcs = s.settleArming.settleTests.arcs ∧
    s.settle.shutterUnit = s.settleArming.settleTests.shutterUnit ∧
    s.settle.house = s.settleArming.settleTests.house ∧ s.settle.shows = s.settleArming.settleTests.shows := by
  have h1 := State.settleDuty_outside s.settleArming.settleTests
  have h2 := State.settlePosts_outside s.settleArming.settleTests.settleDuty
  simp only [State.outsideDuty, State.outsidePosts, State.mk.injEq] at h1 h2
  simp only [State.settle, State.begin_retained, State.begin_powered, State.begin_bankUnit, State.begin_projectors,
    State.begin_trackers, State.begin_screens, State.begin_booth, State.begin_arcs, State.begin_shutterUnit,
    State.begin_house, State.begin_shows]
  simp [h1, h2]

/-- The end of a step leaves the supplies, pins, queue, links, clock and settings. -/
@[simp] theorem State.settle_fixed : s.settle.fixed = s.fixed := by
  have h1 := State.settleDuty_outside s.settleArming.settleTests
  have h2 := State.settlePosts_outside s.settleArming.settleTests.settleDuty
  have h3 : s.settleArming.settleTests.fixed = s.fixed := congrArg Calm.fixed (show s.settleArming.settleTests.calm = s.calm by simp)
  simp only [State.outsideDuty, State.outsidePosts, State.mk.injEq] at h1 h2
  rw [← h3]
  simp [State.settle, State.fixed, h1, h2]

@[simp] theorem State.settle_bankView : s.settle.bankView = s.bankView := by
  have h := State.settle_rest s
  have h3 : s.settleArming.settleTests.bankView = s.bankView := congrArg Calm.banks (show s.settleArming.settleTests.calm = s.calm by simp)
  rw [← h3]
  simp [State.bankView, h]

@[simp] theorem State.settle_shutterUnit : s.settle.shutterUnit = s.shutterUnit := by
  have h := State.settle_rest s
  have h3 : s.settleArming.settleTests.shutterUnit = s.shutterUnit := congrArg Calm.shutterUnit (show s.settleArming.settleTests.calm = s.calm by simp)
  rw [← h3]
  simp [h]

@[simp] theorem State.settle_work : s.settle.work = .empty := rfl

theorem State.offerClass_of_nil (c : AttnClass) (h : s.work.posts = []) : s.offerClass c = s := by
  simp [State.offerClass, h, mergePosts]

/-- With nothing sent in it, a step ends as it stands. -/
theorem State.settle_of_empty (h : s.work = .empty) : s.settle = s := by
  have ha : s.settleArming = s := by simp [State.settleArming, allScreens, h, Work.empty]
  have ht : s.settleTests = s := by simp [State.settleTests, allScreens, h, Work.empty]
  have hd : s.settleDuty = s := by
    simp [State.settleDuty, State.shuffleRetrim, allProjectors, allScreens, projectorsOf, h, Work.empty]
  have hp : s.settlePosts = s := by
    have hc := fun c => State.offerClass_of_nil s c (by rw [h]; rfl)
    simp [State.settlePosts, allClasses, hc]
  rw [State.settle, ha, ht, hd, hp, State.begin, ← h]

/-- The causes of a class that has one cause, or none, reach the records without a free choice. -/
theorem State.offerClass_of_post {s : State} {b : Block} {c : AttnCause} (k : AttnClass) (h : s.work.posts = [(b, c)]) :
    s.offerClass k = if c.cls = k then { s with attention := s.offered c } else s := by
  have he : [b].eraseDups = [b] := by simp [List.eraseDups_cons]
  by_cases hk : c.cls = k <;> simp [State.offerClass, h, hk, mergePosts, blocksOf, he, State.offer, State.offered]

/-- With one cause posted in it and nothing else sent, a step ends with the cause offered to the records. -/
theorem State.settle_of_post {s : State} {b : Block} {c : AttnCause}
    (h : s.work = { Work.empty with posts := [(b, c)] }) :
    s.settle = { s with attention := s.offered c, work := .empty } := by
  have ha : s.settleArming = s := by simp [State.settleArming, allScreens, h, Work.empty]
  have ht : s.settleTests = s := by simp [State.settleTests, allScreens, h, Work.empty]
  have hd : s.settleDuty = s := by
    simp [State.settleDuty, State.shuffleRetrim, allProjectors, allScreens, projectorsOf, h, Work.empty]
  have hp : s.settlePosts = { s with attention := s.offered c } := by
    have hc : ∀ (t : State) (k : AttnClass), t.work = s.work →
        t.offerClass k = if c.cls = k then { t with attention := t.offered c } else t :=
      fun t k ht => State.offerClass_of_post k (by rw [ht, h])
    simp only [State.settlePosts, allClasses, List.foldl_cons, List.foldl_nil]
    cases hk : c.cls <;> simp [hc, hk]
  rw [State.settle, ha, ht, hd, hp, State.begin]

end Sys2Proof.Machine
end

