-- ==== Sys2Proof/Laws/Starts.lean ====
section
/-! SUPPORT. What the end of a step does to projectors, trackers, arcs and the retained store: a THREADED projector may be
started, by an arming check that passes or by a held start that becomes ready, and nothing else changes. -/

namespace Sys2Proof.Machine

/-- From `s` to `t` some THREADED projectors have taken the Start order, and the retained store and the arcs are as they
were. -/
structure Starts (s t : State) : Prop where
  retained : t.retained = s.retained
  arcs : t.arcs = s.arcs
  projectors : ∀ q, (t.projector q = s.projector q ∧ t.tracker q = s.tracker q) ∨
    ((s.projector q).runState = .threaded ∧ t.projector q = { s.projector q with runState := .starting } ∧
      t.tracker q = (s.tracker q).motorOn)

theorem Starts.same {s t : State} (h1 : t.retained = s.retained) (h2 : t.arcs = s.arcs)
    (h3 : t.projectors = s.projectors) (h4 : t.trackers = s.trackers) : Starts s t :=
  ⟨h1, h2, fun q => Or.inl ⟨by simp [State.projector, h3], by simp [State.tracker, h4]⟩⟩

theorem Starts.refl (s : State) : Starts s s := .same rfl rfl rfl rfl

theorem Starts.trans {s t u : State} (h : Starts s t) (k : Starts t u) : Starts s u := by
  refine ⟨k.retained.trans h.retained, k.arcs.trans h.arcs, fun q => ?_⟩
  rcases h.projectors q with ⟨a, b⟩ | ⟨a, b, c⟩ <;> rcases k.projectors q with ⟨d, e⟩ | ⟨d, e, f⟩
  · exact .inl ⟨d.trans a, e.trans b⟩
  · exact .inr ⟨a ▸ d, by rw [e, a], by rw [f, b]⟩
  · exact .inr ⟨a, by rw [d, b], by rw [e, c]⟩
  · rw [b] at d; simp at d

theorem Starts.foldl {ι : Type} (f : State → ι → State) (h : ∀ t x, Starts t (f t x)) (l : List ι) (s : State) :
    Starts s (l.foldl f s) := by
  induction l generalizing s with
  | nil => exact .refl s
  | cons x rest ih => exact (h s x).trans (ih _)

/-- The header of CURRENT is read from the retained store. -/
theorem State.header_congr {s t : State} (h : t.retained = s.retained) (n : ScreenNo) : t.header n = s.header n := by
  unfold State.header State.bankIn State.bankNo State.bank
  rw [h]

variable (s : State)

/-- The Start order is a start, or a refusal. -/
theorem State.startOrder_starts (p : ProjNo) : Starts s (s.startOrder p).1 := by
  unfold State.startOrder
  split
  next h =>
    refine ⟨rfl, rfl, fun q => ?_⟩
    by_cases hq : q = p
    · subst hq
      exact .inr ⟨h, by simp [State.projector], by simp [State.tracker]⟩
    · exact .inl ⟨by simp [State.projector, hq], by simp [State.tracker, hq]⟩
  next => exact .refl s

theorem State.setScreenState_starts (n : ScreenNo) (x : ScreenState) : Starts s (s.setScreenState n x) := by
  unfold State.setScreenState
  dsimp only
  split <;> [skip; split] <;> exact .same rfl rfl rfl rfl

theorem State.roll_starts (n : ScreenNo) (p : ProjNo) : Starts s (s.roll n p) :=
  (State.startOrder_starts s p).trans (State.setScreenState_starts _ n _)

theorem State.actOnArming_starts (n : ScreenNo) (p : ProjNo) (b : Bool) : Starts s (s.actOnArming n p b) := by
  unfold State.actOnArming
  split
  · split
    · exact Starts.trans (t := s.clearLate n) (.same rfl rfl rfl rfl) (State.roll_starts _ n p)
    · exact State.setScreenState_starts s n _
  · exact State.setScreenState_starts s n _
  · exact .refl s

theorem State.armingCheck_starts (n : ScreenNo) : Starts s (s.armingCheck n) := by
  unfold State.armingCheck
  split
  · split
    · exact .refl s
    · dsimp only
      refine Starts.trans (t := _) ?_ (State.actOnArming_starts _ n _ _)
      split <;> exact .same rfl rfl rfl rfl
  · exact .refl s

/-- The arming check of a standby that is not THREADED fails on condition 1, and the screen stands in SINGLE (R67, R68). -/
theorem State.armingCheck_of_not_threaded {n : ScreenNo} {p : ProjNo} (hp : s.standby n = some p)
    (ht : (s.projector p).runState ≠ .threaded)
    (hn : (s.screen n).state = .single ∨ (s.screen n).state = .armed) :
    (s.armingCheck n).screen n = { s.screen n with state := .single, arming := .fail .standbyState } := by
  obtain ⟨l, hl⟩ : ∃ l, s.armingFails n p = .standbyState :: l := ⟨_, by simp [State.armingFails, failing, ht]; rfl⟩
  have hk : ∀ (t : State) (x : DutyNotice), ((t.noteRetest n).tellDuty x).screen n = t.screen n := fun _ _ => rfl
  rcases hn with hn | hn <;>
    simp [State.armingCheck, hn, hp, hl, resultOf, State.actOnArming, State.modScreen, State.setScreenState, hk]

theorem State.carbonNotice_starts (n : ScreenNo) : Starts s (s.carbonNotice n) := by
  unfold State.carbonNotice
  split <;> [split; skip] <;> exact .same rfl rfl rfl rfl

theorem State.storeReadiness_starts (n : ScreenNo) : Starts s (s.storeReadiness n) := by
  refine Starts.trans ?_ (State.carbonNotice_starts _ n)
  exact .same rfl rfl rfl rfl

/-- A state that differs from another in the house and the bell alone has started nothing. -/
theorem State.fireWhere_starts (n : ScreenNo) (f : Cue → Bool) : Starts s (s.fireWhere n f) := by
  have hc : ∀ (lv : Levels) (k : Nat) (a : State × Nat) (c : ChannelPos), Starts a.1 (recallChannel lv k n a c).1 := by
    intro lv k a c
    unfold recallChannel
    split <;> [skip; split] <;> exact .same rfl rfl rfl rfl
  have hr : ∀ (t : State) (k j : Nat), Starts t (t.recallScene n k j).1 := by
    intro t k j
    simp only [State.recallScene, allPositions, List.foldl]
    exact (((hc _ _ (t, 0) _).trans (hc _ _ _ _)).trans (hc _ _ _ _)).trans (hc _ _ _ _)
  have he : ∀ (t : State) (k : Nat) (c : Cue), Starts t (t.fireEntry n k c) := by
    intro t k c
    unfold State.fireEntry
    dsimp only
    split
    · exact .refl t
    · have h1 : Starts t (t.setMarks n (t.house.marks.get n ||| (1#16 <<< (k - 1)))) := .same rfl rfl rfl rfl
      split <;> split
      · exact h1
      · exact h1.trans (hr _ _ _)
      · refine h1.trans ?_
        exact .same rfl rfl rfl rfl
      next _ _ _ _ a _ =>
        refine (h1.trans (hr _ a.scene a.fade)).trans ?_
        exact .same rfl rfl rfl rfl
  refine Starts.foldl _ (fun t x => ?_) _ s
  split
  · exact he t _ _
  · exact .refl t

theorem State.houseShowStart_starts (n : ScreenNo) : Starts s (s.houseShowStart n) := by
  refine Starts.trans ?_ (State.fireWhere_starts _ n _)
  exact .same rfl rfl rfl rfl

/-- A passing readiness test has found the first-side projector THREADED on a DARK screen. -/
theorem State.readiness_pass {n : ScreenNo} (h : s.readiness n = .pass) :
    ∃ x, s.header n = some x ∧ (s.screen n).state = .dark ∧ (s.projector ⟨n, x.firstSide⟩).runState = .threaded := by
  unfold State.readiness State.readinessFails at h
  split at h
  · simp [resultOf] at h
  next x hx =>
    refine ⟨x, hx, ?_⟩
    by_cases h1 : (s.screen n).state = .dark
    · by_cases h2 : (s.projector ⟨n, x.firstSide⟩).runState = .threaded
      · exact ⟨h1, h2⟩
      · exfalso
        revert h
        by_cases h3 : (s.bankIn n .current).state = .complete <;> simp [failing, resultOf, h1, h2, h3]
    · exfalso
      revert h
      by_cases h3 : (s.bankIn n .current).state = .complete <;> simp [failing, resultOf, h1, h3]

/-- A show that starts on a passing test starts its first-side projector, and no Start order is refused. -/
theorem State.giveStart_starts (n : ScreenNo)
    (h : ∀ x, s.header n = some x → (s.projector ⟨n, x.firstSide⟩).runState = .threaded) : Starts s (s.giveStart n) := by
  unfold State.giveStart
  split
  next x hd hx =>
    unfold State.beginOpening
    dsimp only
    have h1 : Starts s (s.modScreen n fun r =>
        { r with opening := some ⟨n, x.firstSide⟩, currentReel := some 1, sound := x.firstSide }) := .same rfl rfl rfl rfl
    have h2 := h1.trans (State.setScreenState_starts _ n .starting)
    have h3 := h2.trans (State.startOrder_starts _ ⟨n, x.firstSide⟩)
    split
    · exact h3
    next hn =>
      exfalso
      apply hn
      have hp : ∀ t : State, (t.setScreenState n .starting).projectors = t.projectors := by
        intro t
        unfold State.setScreenState
        dsimp only
        split <;> [skip; split] <;> rfl
      have ht := h x hx
      simp only [State.startOrder, State.projector, hp]
      simp only [State.modScreen, State.setScreen_projectors]
      simp only [State.projector] at ht
      simp [ht]
  next => exact .refl s

theorem State.startShow_starts (n : ScreenNo)
    (h : ∀ x, s.header n = some x → (s.projector ⟨n, x.firstSide⟩).runState = .threaded) : Starts s (s.startShow n) := by
  unfold State.startShow
  dsimp only
  generalize hr : ({ s.showRec n with state := .playing, next := none, readiness := .pass } : ShowRec) = r
  have h1 : Starts s ((s.setShow n r).giveStart n) := by
    refine Starts.trans ?_ (State.giveStart_starts (s.setShow n r) n h)
    exact .same rfl rfl rfl rfl
  have h2 := h1.trans (State.houseShowStart_starts _ n)
  have h3 : ∀ t : State, Starts t (t.releaseBell n) := fun t => .same rfl rfl rfl rfl
  have h4 : ∀ (t : State) (d : DutyNotice) (b : Block) (c : AttnCause), Starts t ((t.tellDuty d).post b c) :=
    fun t d b c => .same rfl rfl rfl rfl
  split
  · exact (h2.trans (h3 _)).trans (h4 _ _ _ _)
  · exact h2.trans (h4 _ _ _ _)

theorem State.storeReadiness_result (n : ScreenNo) : ((s.storeReadiness n).showRec n).readiness = s.readiness n := by
  unfold State.storeReadiness State.carbonNotice
  split <;> [split; skip] <;> simp [State.showRec]

theorem State.retest_starts (n : ScreenNo) : Starts s (s.retest n) := by
  unfold State.retest
  split
  · exact State.storeReadiness_starts s n
  · dsimp only
    have h1 := State.storeReadiness_starts s n
    split
    next hp =>
      refine h1.trans (State.startShow_starts _ n fun x hx => ?_)
      rw [State.storeReadiness_result] at hp
      obtain ⟨y, hy, -, ht⟩ := State.readiness_pass s hp
      have he := State.header_congr h1.retained n
      have hxy : x = y := by rw [he, hy] at hx; exact (Option.some.inj hx).symm
      rcases h1.projectors ⟨n, x.firstSide⟩ with ⟨a, -⟩ | ⟨-, a, -⟩
      · rw [a, hxy]; exact ht
      · exfalso
        have : (s.storeReadiness n).projectors = s.projectors := by
          unfold State.storeReadiness State.carbonNotice
          split <;> [split; skip] <;> rfl
        simp only [State.projector, this] at a
        have hh := congrArg Projector.runState a
        simp only [State.projector, ← hxy] at ht
        rw [ht] at hh
        simp at hh
    · exact h1
  · exact .refl s

/-- The end of a step starts THREADED projectors, and leaves every other projector, the arcs and the retained store. -/
theorem State.settle_starts : Starts s s.settle := by
  have h1 : Starts s s.settleArming := by
    refine Starts.foldl _ (fun t n => ?_) _ s
    split
    · exact State.armingCheck_starts t n
    · exact .refl t
  have h2 : Starts s.settleArming s.settleArming.settleTests := by
    refine Starts.foldl _ (fun t n => ?_) _ s.settleArming
    split
    · exact State.retest_starts t n
    · exact .refl t
  have h := State.settle_rest s
  exact (h1.trans h2).trans (.same h.1 h.2.2.2.2.2.2.2.1 h.2.2.2.1 h.2.2.2.2.1)

@[simp] theorem State.settle_retained : s.settle.retained = s.retained := (State.settle_starts s).retained

@[simp] theorem State.settle_arcs : s.settle.arcs = s.arcs := (State.settle_starts s).arcs

/-- A projector that is not THREADED comes out of the end of a step as it went in. -/
theorem State.settle_projector (q : ProjNo) (h : (s.projector q).runState ≠ .threaded) :
    s.settle.projector q = s.projector q ∧ s.settle.tracker q = s.tracker q := by
  rcases (State.settle_starts s).projectors q with a | ⟨a, -⟩
  · exact a
  · exact absurd a h

end Sys2Proof.Machine
end

