-- ==== Sys2Proof/Laws/Clock.lean ====
section
/-! SUPPORT. What a one-second event leaves alone: the scheduler's checks of a screen keep all that `State.calm` gathers, so the
event changes of it the clock and the overdue marks. -/

namespace Sys2Proof.Machine

variable (s : State)

@[simp] theorem State.callReached_calm (n : ScreenNo) : (s.callReached n).calm = s.calm := by
  unfold State.callReached
  split
  · split <;> simp
  · rfl

@[simp] theorem State.startReached_calm (n : ScreenNo) : (s.startReached n).calm = s.calm := by
  unfold State.startReached State.startOrHold
  split
  · split
    · dsimp only
      split <;> simp
    · rfl
  · rfl

@[simp] theorem State.holdReached_calm (n : ScreenNo) : (s.holdReached n).calm = s.calm := by
  unfold State.holdReached
  repeat' split
  all_goals simp

@[simp] theorem State.checkInstants_calm (n : ScreenNo) : (s.checkInstants n).calm = s.calm := by
  simp [State.checkInstants]

theorem State.oneSecond_calm : s.oneSecond.calm = (State.markOverdue { s with clock := s.clock.second }).calm :=
  foldl_keeps State.calm State.checkInstants (fun t n => t.checkInstants_calm n) allScreens _

/-- A mains pulse that does not complete its group only counts. -/
theorem State.mainsPulse_of_lt (h : s.clock.pulses + 1 < groupLength s.pins.msel) :
    s.mainsPulse = { s with clock := { s.clock with pulses := s.clock.pulses + 1 } } := by
  simp [State.mainsPulse, Nat.not_le.mpr h]

theorem State.mainsPulse_of_le (h : groupLength s.pins.msel ≤ s.clock.pulses + 1) : s.mainsPulse = s.oneSecond := by
  simp [State.mainsPulse, h]

end Sys2Proof.Machine
end

