-- ==== Sys2Proof/Laws/PerInstr.lean ====
section
/-! SUPPORT. The frame of every well-formed request: it carries at most 56 data bytes, and of the checks 3 to 5 of Table 53 it
can fail only the access check, in the row of the matrix that R178 gives the request. -/

namespace Sys2Proof.Laws.Frames

open Sys2Proof.Machine

/-- A well-formed request is known, has a data count its layout allows, and is let through or DENIED. -/
def Statement (i : Instr) : Prop :=
  i.wellFormed = true → ∀ st r, encodeRequest i = some (st, r) →
    r.data.length ≤ 56 ∧ ∃ row, requestRow r.code = some row ∧ row.count.allows r.data.length = true ∧
      requestFault st r = if row.access.allows st then none else some .denied

/-- The statement from the row and the data count. -/
theorem of_row {i : Instr} {st : Station} {r : Request} (row : RequestRow) (hr : requestRow r.code = some row)
    (hd : i.wellFormed = true → r.data.length ≤ 56 ∧ row.count.allows r.data.length = true)
    (he : encodeRequest i = some (st, r)) : Statement i := by
  intro hw st' r' h
  obtain ⟨hl, hc⟩ := hd hw
  rw [he] at h
  cases h
  refine ⟨hl, row, hr, hc, ?_⟩
  unfold requestFault
  rw [hr]
  dsimp only
  cases row.access.allows st <;> simp [hc]

theorem of_event {i : Instr} (h : encodeRequest i = none) : Statement i := by
  intro _ st r hr
  rw [h] at hr
  cases hr

theorem powerOnReset : Statement (.powerOnReset) := of_event rfl
theorem readBanks (st : Station) (target : Byte) : Statement (.readBanks st target) :=
  of_row _ rfl (fun _ => ⟨Nat.le_of_ble_eq_true rfl, rfl⟩) rfl
theorem readBankItem (st : Station) (target selector index : Byte) : Statement (.readBankItem st target selector index) :=
  of_row _ rfl (fun _ => ⟨Nat.le_of_ble_eq_true rfl, rfl⟩) rfl
theorem writeHeader (st : Station) (target : Byte) (title : List Byte) (firstSide reelCount : Byte) : Statement (.writeHeader st target title firstSide reelCount) :=
  of_row ⟨0x12, .program, .exactly 18⟩ rfl (fun hw => by
    have h : title.length = 16 := by simpa [Instr.wellFormed] using hw
    simp [DataCount.allows, h]) rfl
theorem writeReel (st : Station) (target index : Byte) (leadIn motorCue changeoverCue pictureEnd : Half) (noMarks : Byte) (label : List Byte) : Statement (.writeReel st target index leadIn motorCue changeoverCue pictureEnd noMarks label) :=
  of_row ⟨0x13, .program, .exactly 20⟩ rfl (fun hw => by
    have h : label.length = 10 := by simpa [Instr.wellFormed] using hw
    simp [DataCount.allows, Half.bytes, h]) rfl
theorem writeCue (st : Station) (target anchor reel : Byte) (frame : Half) (scene : Byte) (fade : Half) (curtain : Byte) : Statement (.writeCue st target anchor reel frame scene fade curtain) :=
  of_row _ rfl (fun _ => ⟨Nat.le_of_ble_eq_true rfl, rfl⟩) rfl
theorem deleteCue (st : Station) (target index : Byte) : Statement (.deleteCue st target index) :=
  of_row _ rfl (fun _ => ⟨Nat.le_of_ble_eq_true rfl, rfl⟩) rfl
theorem commitBank (st : Station) (target : Byte) : Statement (.commitBank st target) :=
  of_row _ rfl (fun _ => ⟨Nat.le_of_ble_eq_true rfl, rfl⟩) rfl
theorem reopenBank (st : Station) (target : Byte) : Statement (.reopenBank st target) :=
  of_row _ rfl (fun _ => ⟨Nat.le_of_ble_eq_true rfl, rfl⟩) rfl
theorem rotate (st : Station) (target : Byte) : Statement (.rotate st target) :=
  of_row _ rfl (fun _ => ⟨Nat.le_of_ble_eq_true rfl, rfl⟩) rfl
theorem clearComplete : Statement (.clearComplete) := of_event rfl
theorem readProjector (st : Station) (target : Byte) : Statement (.readProjector st target) :=
  of_row _ rfl (fun _ => ⟨Nat.le_of_ble_eq_true rfl, rfl⟩) rfl
theorem clearProjector (st : Station) (target : Byte) : Statement (.clearProjector st target) :=
  of_row _ rfl (fun _ => ⟨Nat.le_of_ble_eq_true rfl, rfl⟩) rfl
theorem stopProjector (st : Station) (target : Byte) : Statement (.stopProjector st target) :=
  of_row _ rfl (fun _ => ⟨Nat.le_of_ble_eq_true rfl, rfl⟩) rfl
theorem threadedSwitchClose (p : ProjNo) : Statement (.threadedSwitchClose p) := of_event rfl
theorem loopLost (p : ProjNo) : Statement (.loopLost p) := of_event rfl
theorem douserOpenSwitchClose (p : ProjNo) : Statement (.douserOpenSwitchClose p) := of_event rfl
theorem douserClosedSwitchClose (p : ProjNo) : Statement (.douserClosedSwitchClose p) := of_event rfl
theorem sprocketPulse (p : ProjNo) (interval : Nat) : Statement (.sprocketPulse p interval) := of_event rfl
theorem cueMarkPulse (p : ProjNo) : Statement (.cueMarkPulse p) := of_event rfl
theorem startFailureTimerExpiry (p : ProjNo) : Statement (.startFailureTimerExpiry p) := of_event rfl
theorem stallTimerExpiry (p : ProjNo) : Statement (.stallTimerExpiry p) := of_event rfl
theorem readTracker (st : Station) (target : Byte) : Statement (.readTracker st target) :=
  of_row _ rfl (fun _ => ⟨Nat.le_of_ble_eq_true rfl, rfl⟩) rfl
theorem setCuePolicy (st : Station) (target policy window : Byte) : Statement (.setCuePolicy st target policy window) :=
  of_row _ rfl (fun _ => ⟨Nat.le_of_ble_eq_true rfl, rfl⟩) rfl
theorem confirmationTimerExpiry (screen : ScreenNo) : Statement (.confirmationTimerExpiry screen) := of_event rfl
theorem closeWatchExpiry (screen : ScreenNo) : Statement (.closeWatchExpiry screen) := of_event rfl
theorem readScreen (st : Station) (target : Byte) : Statement (.readScreen st target) :=
  of_row _ rfl (fun _ => ⟨Nat.le_of_ble_eq_true rfl, rfl⟩) rfl
theorem changeNow (st : Station) (target : Byte) : Statement (.changeNow st target) :=
  of_row _ rfl (fun _ => ⟨Nat.le_of_ble_eq_true rfl, rfl⟩) rfl
theorem setMonitor (st : Station) (target selection : Byte) : Statement (.setMonitor st target selection) :=
  of_row _ rfl (fun _ => ⟨Nat.le_of_ble_eq_true rfl, rfl⟩) rfl
theorem silence (st : Station) (target : Byte) : Statement (.silence st target) :=
  of_row _ rfl (fun _ => ⟨Nat.le_of_ble_eq_true rfl, rfl⟩) rfl
theorem bellCadence : Statement (.bellCadence) := of_event rfl
theorem readArc (st : Station) (target : Byte) : Statement (.readArc st target) :=
  of_row _ rfl (fun _ => ⟨Nat.le_of_ble_eq_true rfl, rfl⟩) rfl
theorem strike (st : Station) (target : Byte) : Statement (.strike st target) :=
  of_row _ rfl (fun _ => ⟨Nat.le_of_ble_eq_true rfl, rfl⟩) rfl
theorem touchTimerExpiry (p : ProjNo) : Statement (.touchTimerExpiry p) := of_event rfl
theorem proofTimerExpiry (p : ProjNo) : Statement (.proofTimerExpiry p) := of_event rfl
theorem pauseTimerExpiry (p : ProjNo) : Statement (.pauseTimerExpiry p) := of_event rfl
theorem arcPresentReport (p : ProjNo) : Statement (.arcPresentReport p) := of_event rfl
theorem arcReportCeases (p : ProjNo) : Statement (.arcReportCeases p) := of_event rfl
theorem lossTimerExpiry (p : ProjNo) : Statement (.lossTimerExpiry p) := of_event rfl
theorem extinguish (st : Station) (target : Byte) : Statement (.extinguish st target) :=
  of_row _ rfl (fun _ => ⟨Nat.le_of_ble_eq_true rfl, rfl⟩) rfl
theorem craterContactChange (p : ProjNo) (contact : CraterContact) (closed : Bool) : Statement (.craterContactChange p contact closed) := of_event rfl
theorem feedHighPhaseEnd (p : ProjNo) : Statement (.feedHighPhaseEnd p) := of_event rfl
theorem feedLowPhaseEnd (p : ProjNo) : Statement (.feedLowPhaseEnd p) := of_event rfl
theorem retrimDone (st : Station) (target : Byte) (trimLength : Half) : Statement (.retrimDone st target trimLength) :=
  of_row _ rfl (fun _ => ⟨Nat.le_of_ble_eq_true rfl, rfl⟩) rfl
theorem setArc (st : Station) (target : Byte) (reserve defaultRate : Half) (highWidth lowWidth : Byte) : Statement (.setArc st target reserve defaultRate highWidth lowWidth) :=
  of_row _ rfl (fun _ => ⟨Nat.le_of_ble_eq_true rfl, rfl⟩) rfl
theorem readShutter (st : Station) (target : Byte) : Statement (.readShutter st target) :=
  of_row _ rfl (fun _ => ⟨Nat.le_of_ble_eq_true rfl, rfl⟩) rfl
theorem readDropMap (st : Station) (target : Byte) : Statement (.readDropMap st target) :=
  of_row _ rfl (fun _ => ⟨Nat.le_of_ble_eq_true rfl, rfl⟩) rfl
theorem setDropMap (st : Station) (target : Byte) (shutters : Half) : Statement (.setDropMap st target shutters) :=
  of_row _ rfl (fun _ => ⟨Nat.le_of_ble_eq_true rfl, rfl⟩) rfl
theorem fireLoopActive : Statement (.fireLoopActive) := of_event rfl
theorem fireLoopInactive : Statement (.fireLoopInactive) := of_event rfl
theorem dropButtonClose : Statement (.dropButtonClose) := of_event rfl
theorem dropButtonOpen : Statement (.dropButtonOpen) := of_event rfl
theorem dropAll (st : Station) (target : Byte) : Statement (.dropAll st target) :=
  of_row _ rfl (fun _ => ⟨Nat.le_of_ble_eq_true rfl, rfl⟩) rfl
theorem releaseManual (st : Station) (target : Byte) : Statement (.releaseManual st target) :=
  of_row _ rfl (fun _ => ⟨Nat.le_of_ble_eq_true rfl, rfl⟩) rfl
theorem gateHeatChange (p : ProjNo) (active : Bool) : Statement (.gateHeatChange p active) := of_event rfl
theorem homeSwitchChange (shutter : ShutterNo) (closed : Bool) : Statement (.homeSwitchChange shutter closed) := of_event rfl
theorem clearLink (st : Station) (target : Byte) : Statement (.clearLink st target) :=
  of_row _ rfl (fun _ => ⟨Nat.le_of_ble_eq_true rfl, rfl⟩) rfl
theorem rearm (st : Station) (target : Byte) : Statement (.rearm st target) :=
  of_row _ rfl (fun _ => ⟨Nat.le_of_ble_eq_true rfl, rfl⟩) rfl
theorem armingTimerExpiry (shutter : ShutterNo) : Statement (.armingTimerExpiry shutter) := of_event rfl
theorem setLevel (st : Station) (target level : Byte) (fade : Half) : Statement (.setLevel st target level fade) :=
  of_row _ rfl (fun _ => ⟨Nat.le_of_ble_eq_true rfl, rfl⟩) rfl
theorem fadeAdvance (channel : ChannelNo) : Statement (.fadeAdvance channel) := of_event rfl
theorem setScene (st : Station) (target scene main wall step wash : Byte) : Statement (.setScene st target scene main wall step wash) :=
  of_row _ rfl (fun _ => ⟨Nat.le_of_ble_eq_true rfl, rfl⟩) rfl
theorem recallScene (st : Station) (target scene : Byte) (fade : Half) : Statement (.recallScene st target scene fade) :=
  of_row _ rfl (fun _ => ⟨Nat.le_of_ble_eq_true rfl, rfl⟩) rfl
theorem curtain (st : Station) (target action : Byte) : Statement (.curtain st target action) :=
  of_row _ rfl (fun _ => ⟨Nat.le_of_ble_eq_true rfl, rfl⟩) rfl
theorem limitSwitchChange (screen : ScreenNo) (limit : CurtainLimit) (closed : Bool) : Statement (.limitSwitchChange screen limit closed) := of_event rfl
theorem travelTimerExpiry (screen : ScreenNo) : Statement (.travelTimerExpiry screen) := of_event rfl
theorem setCurtainTime (st : Station) (target seconds : Byte) : Statement (.setCurtainTime st target seconds) :=
  of_row _ rfl (fun _ => ⟨Nat.le_of_ble_eq_true rfl, rfl⟩) rfl
theorem setStanding (st : Station) (target main wall step wash : Byte) (fade : Half) (hold : Byte) : Statement (.setStanding st target main wall step wash fade hold) :=
  of_row _ rfl (fun _ => ⟨Nat.le_of_ble_eq_true rfl, rfl⟩) rfl
theorem deleteStanding (st : Station) (target : Byte) : Statement (.deleteStanding st target) :=
  of_row _ rfl (fun _ => ⟨Nat.le_of_ble_eq_true rfl, rfl⟩) rfl
theorem releaseHold (st : Station) (target : Byte) : Statement (.releaseHold st target) :=
  of_row _ rfl (fun _ => ⟨Nat.le_of_ble_eq_true rfl, rfl⟩) rfl
theorem readHouse (st : Station) (target : Byte) : Statement (.readHouse st target) :=
  of_row _ rfl (fun _ => ⟨Nat.le_of_ble_eq_true rfl, rfl⟩) rfl
theorem readScene (st : Station) (target scene : Byte) : Statement (.readScene st target scene) :=
  of_row _ rfl (fun _ => ⟨Nat.le_of_ble_eq_true rfl, rfl⟩) rfl
theorem readStanding (st : Station) (target : Byte) : Statement (.readStanding st target) :=
  of_row _ rfl (fun _ => ⟨Nat.le_of_ble_eq_true rfl, rfl⟩) rfl
theorem mainsPulse : Statement (.mainsPulse) := of_event rfl
theorem oneSecondEvent : Statement (.oneSecondEvent) := of_event rfl
theorem setClock (st : Station) (target : Byte) (timeOfDay : Long) : Statement (.setClock st target timeOfDay) :=
  of_row _ rfl (fun _ => ⟨Nat.le_of_ble_eq_true rfl, rfl⟩) rfl
theorem setStarts (st : Station) (target : Byte) (times : List Half) : Statement (.setStarts st target times) :=
  of_row ⟨0x72, .program, .even⟩ rfl (fun hw => by
    have h : times.length ≤ 28 := by simpa [Instr.wellFormed] using hw
    have h2 : (times.flatMap Half.bytes).length = 2 * times.length := by
      clear hw h
      induction times with
      | nil => rfl
      | cons x rest ih => simp only [List.flatMap_cons, List.length_append, ih, List.length_cons, Half.bytes, List.length_nil]; omega
    constructor
    · dsimp only; omega
    · simp only [DataCount.allows, h2, Bool.and_eq_true, decide_eq_true_eq]; omega) rfl
theorem callInstant (screen : ScreenNo) : Statement (.callInstant screen) := of_event rfl
theorem startInstant (screen : ScreenNo) : Statement (.startInstant screen) := of_event rfl
theorem holdLimit (screen : ScreenNo) : Statement (.holdLimit screen) := of_event rfl
theorem startShow (st : Station) (target : Byte) : Statement (.startShow st target) :=
  of_row _ rfl (fun _ => ⟨Nat.le_of_ble_eq_true rfl, rfl⟩) rfl
theorem stopShow (st : Station) (target : Byte) : Statement (.stopShow st target) :=
  of_row _ rfl (fun _ => ⟨Nat.le_of_ble_eq_true rfl, rfl⟩) rfl
theorem readShow (st : Station) (target : Byte) : Statement (.readShow st target) :=
  of_row _ rfl (fun _ => ⟨Nat.le_of_ble_eq_true rfl, rfl⟩) rfl
theorem readDuty (st : Station) (target : Byte) : Statement (.readDuty st target) :=
  of_row _ rfl (fun _ => ⟨Nat.le_of_ble_eq_true rfl, rfl⟩) rfl
theorem receiveCharacter (st : Station) (data : Byte) (parityBit : Bool) (stopBit : LineLevel) : Statement (.receiveCharacter st data parityBit stopBit) := of_event rfl
theorem gapTimerExpiry (st : Station) : Statement (.gapTimerExpiry st) := of_event rfl
theorem replyComplete (st : Station) : Statement (.replyComplete st) := of_event rfl
theorem lineBreakReset (st : Station) : Statement (.lineBreakReset st) := of_event rfl
theorem setLine (st : Station) (target mode : Byte) : Statement (.setLine st target mode) :=
  of_row _ rfl (fun _ => ⟨Nat.le_of_ble_eq_true rfl, rfl⟩) rfl
theorem readStatus (st : Station) (target : Byte) : Statement (.readStatus st target) :=
  of_row _ rfl (fun _ => ⟨Nat.le_of_ble_eq_true rfl, rfl⟩) rfl
theorem armAttention (st : Station) (target : Byte) (classes : Half) : Statement (.armAttention st target classes) :=
  of_row _ rfl (fun _ => ⟨Nat.le_of_ble_eq_true rfl, rfl⟩) rfl
theorem readAttention (st : Station) (target : Byte) : Statement (.readAttention st target) :=
  of_row _ rfl (fun _ => ⟨Nat.le_of_ble_eq_true rfl, rfl⟩) rfl
theorem rxdLevelChange (st : Station) (level : LineLevel) : Statement (.rxdLevelChange st level) := of_event rfl
theorem mainPowerLoss : Statement (.mainPowerLoss) := of_event rfl
theorem standbySupplyLoss : Statement (.standbySupplyLoss) := of_event rfl

end Sys2Proof.Laws.Frames
end

