-- ==== Sys2Proof/Laws/Serve.lean ====
section
/-! SUPPORT. What a command of each shape does: an event or a change of level on a part that is awake, and a request at a
link that is ready. -/

namespace Sys2Proof.Machine

variable (s : State)

@[simp] theorem State.begin_of_empty (h : s.work = .empty) : s.begin = s := by
  unfold State.begin
  rw [← h]

/-- An event on a part that is awake. -/
theorem event_of_awake {s : State} (h : s.Awake) (body : State → State) : event body s = .next (body s).settle := by
  simp [event, h.powered, State.begin_of_empty s h.work]

/-- An event that sends nothing. -/
theorem event_of_quiet {s : State} (h : s.Awake) (body : State → State) (hw : (body s).work = .empty) :
    event body s = .next (body s) := by rw [event_of_awake h, State.settle_of_empty _ hw]

/-- A change of level on a part that is awake. -/
theorem pinEvent_of_awake {s : State} (h : s.Awake) (level : Pins → Pins) (body : State → State) :
    pinEvent level body s = .next (body (s.setPins (level s.pins))).settle := by
  simp [pinEvent, h.powered, State.begin_of_empty s h.work]

theorem pinEvent_of_quiet {s : State} (h : s.Awake) (level : Pins → Pins) (body : State → State)
    (hw : (body (s.setPins (level s.pins))).work = .empty) :
    pinEvent level body s = .next (body (s.setPins (level s.pins))) := by
  rw [pinEvent_of_awake h, State.settle_of_empty _ hw]

/-- Without main power an event does nothing. -/
theorem event_of_dark {s : State} (h : s.powered = false) (body : State → State) : event body s = .next s := by
  simp [event, h]

@[simp] theorem State.reply_work (st : Station) (r : Request) (a : Answer) : (s.reply st r a).work = s.work := rfl

/-- A request whose frame passes checks 3 to 5 of Table 53 is taken at a link that is ready. -/
theorem serve_of_ready {s : State} {c : Instr} {st : Station} {r : Request} (h : s.Ready st)
    (hc : encodeRequest c = some (st, r)) (hf : requestFault st r = none) (hl : r.data.length ≤ 56)
    (body : State → State × Answer) :
    serve c body s = .next ((body s).1.reply st r (body s).2).settle := by
  unfold serve
  rw [hc]
  dsimp only
  rw [event_of_awake h.toAwake]
  have hl' : ¬ 56 < r.data.length := by omega
  simp [State.serveRequest, State.arrive, State.take, h.idle, h.collection, h.outstanding, h.mark, hf, hl']

/-- A request that is PENDING is taken (R179): the same body as at a link that is ready, on the link as it stands. -/
theorem serve_of_pending {s : State} {c : Instr} {st : Station} {r : Request} (h : s.Awake)
    (hc : encodeRequest c = some (st, r)) (hp : (s.link st).state = .pending) (ho : (s.link st).outstanding = some r)
    (body : State → State × Answer) :
    serve c body s = .next ((body s).1.reply st r (body s).2).settle := by
  unfold serve
  rw [hc]
  dsimp only
  rw [event_of_awake h]
  simp [State.serveRequest, State.take, hp, ho]

/-- A taken request that sends nothing. -/
theorem serve_of_quiet {s : State} {c : Instr} {st : Station} {r : Request} (h : s.Ready st)
    (hc : encodeRequest c = some (st, r)) (hf : requestFault st r = none) (hl : r.data.length ≤ 56)
    (body : State → State × Answer) (hw : (body s).1.work = .empty) :
    serve c body s = .next ((body s).1.reply st r (body s).2) := by
  rw [serve_of_ready h hc hf hl, State.settle_of_empty ((body s).1.reply st r (body s).2) hw]

/-- A request whose frame fails check 3, 4 or 5 of Table 53 is refused by the link. -/
theorem serve_of_fault {s : State} {c : Instr} {st : Station} {r : Request} {f : Status} (h : s.Ready st)
    (hc : encodeRequest c = some (st, r)) (hf : requestFault st r = some f) (hl : r.data.length ≤ 56)
    (body : State → State × Answer) : serve c body s = .next (s.reply st r ⟨f, []⟩) := by
  unfold serve
  rw [hc]
  dsimp only
  have hl' : ¬ 56 < r.data.length := by omega
  have hw : (s.reply st r ⟨f, []⟩).work = .empty := h.work
  rw [event_of_awake h.toAwake]
  simp [State.serveRequest, State.arrive, h.idle, h.collection, h.outstanding, h.mark, hf, hl',
    State.settle_of_empty _ hw]

end Sys2Proof.Machine
end

