-- ==== Sys2Proof/Tests/Slice0.lean ====
section
/-! SUPPORT. Small tests: well-formedness, single steps on small states, and for each statement with hypotheses concrete values
that meet the hypotheses of each of its clauses. -/

open Sys2Proof Sys2Proof.Machine

set_option maxRecDepth 100000

namespace Sys2Proof.Tests

/-! ## Helpers -/

/-- The state after a command. -/
def after (c : Instr) (s : State) : State :=
  match exec c s with
  | .next t => t
  | _ => s

/-- The reply that a station's link is sending. -/
def sent (st : Station) (t : State) : Option (List Byte) := (t.link st).reply

/-- A link of `s` is ready, by its fields. -/
theorem ready_of (s : State) (st : Station) (h : s.powered = true) (w : s.work = .empty)
    (i : (s.link st).state = .idle) (c : (s.link st).collection = none) (o : (s.link st).outstanding = none)
    (m : (s.link st).awaitMark = false) : s.Ready st := ⟨⟨h, w⟩, i, c, o, m⟩

def s0 : State := .reset

def p1 : ProjNo := ⟨.s1, .a⟩

def p2 : ProjNo := ⟨.s1, .b⟩

/-- A reel of 300 frames. -/
def reel : Reel := ⟨none, 193, 289, 300, false, none⟩

/-- A bank of one reel. -/
def bank1 : Bank :=
  { role := .next, state := .complete, header := some ⟨List.replicate 16 0x41, .a, 1⟩,
    reels := (Vector.replicate 12 none).setIfInBounds 0 (some reel), cues := [], starts := [] }

def cue1 : Cue := ⟨.showStart, none, some .opn⟩

/-- Screen 1 with a bank in a role. Banks 0, 1 and 2 hold CURRENT, NEXT and SPARE at reset. -/
def withNext (b : Bank) : State := s0.setBank .s1 .b1 b

def withCurrent (b : Bank) : State := s0.setBank .s1 .b0 { b with role := .current }

/-- Projector 1 in a run state, with reel 1 of `bank1` loaded. -/
def withRun (r : RunState) : State :=
  (withCurrent bank1).setProjector p1 { Projector.blank with runState := r, loaded := some 1 }

def withArc (a : Arc) : State := s0.setArc p1 a

def arc0 : Arc := Arc.ofStore .default

/-- Projector 1 with carbon for a strike. -/
def withCarbon (a : Arc) : State :=
  (withArc a).setArcStore p1 { ArcStore.default with remaining := 601, trimLength := 601 }

def withScreen (r : Screen) : State := s0.setScreen .s1 r

def withShutter (r : Shutter) : State := s0.setShutter (.port p1) r

def shutterUp : Shutter := { Shutter.powerOn true with state := .up, causes := .empty, energised := true }

def withShow (r : ShowRec) : State := s0.setShow .s1 r

/-- Screen 1 ready to start: reel 1 threaded on side A, the lamp burning, the port open. -/
def readyScreen (r : ShowRec) : State :=
  ((((withRun .threaded).setArc p1 { arc0 with state := .burning, low := false }).setArcStore p1
    { ArcStore.default with remaining := 5000, trimLength := 5000 }).setShutter (.port p1) shutterUp).setShow .s1 r

/-- A bank of two reels. -/
def bank2 : Bank :=
  { bank1 with header := some ⟨List.replicate 16 0x41, .a, 2⟩, reels := bank1.reels.setIfInBounds 1 (some reel) }

def ctx : CueContext := ⟨.either, 48, .pending, .pending, 0, false⟩

def screenAt (k : ScreenState) : Screen :=
  { Screen.blank with state := k, showingSide := some .a, currentReel := some 1, confirmTimer := some ⟨p2, 0⟩ }

/-- Screen 1 PLAYING with reel 1 showing on projector 1 at frame `c`, its cues taken, and reel 2 at speed on projector 2. The
lamps burn, the ports are UP and the stall timers run. -/
def changeover (k : ScreenState) (c : Nat) : State :=
  let lamp : Arc := { arc0 with state := .burning, low := false }
  let carbon : ArcStore := { ArcStore.default with remaining := 5000, trimLength := 5000 }
  let taken : CueContext := { ctx with motor := .taken 193 .mark, changeover := .taken 289 .mark }
  let s := ((s0.setBank .s1 .b0 { bank2 with role := .current }).setScreen .s1 (screenAt k)).setShow .s1
    ⟨.playing, none, .pass⟩
  let s := ((s.setArc p1 lamp).setArc p2 lamp).setArcStore p1 carbon
  let s := ((s.setArcStore p2 carbon).setShutter (.port p1) shutterUp).setShutter (.port p2) shutterUp
  let s := s.setProjector p1 { Projector.blank with runState := .showing, loaded := some 1, douser := .opened }
  let s := s.setProjector p2 { Projector.blank with runState := .running, loaded := some 2 }
  let s := s.setTracker p1
    { Tracker.blank with counter := c, context := some taken, atSpeed := true, stallTimer := some 1 }
  s.setTracker p2 { Tracker.blank with counter := 192, context := some ctx, atSpeed := true, stallTimer := some 1 }

/-- Projector 2 of `changeover` still STARTING. -/
def early (k : ScreenState) (c : Nat) : State :=
  ((changeover k c).setProjector p2 { Projector.blank with runState := .starting, loaded := some 2 }).setTracker p2
    { Tracker.blank with stallTimer := some 1 }

def next0 : NextStart := ⟨600, 0, 0, none⟩

/-! ## Well-formedness -/

theorem test_short_title_is_ill_formed :
    (Instr.writeHeader .program 0x21 (List.replicate 15 0x41) 1 1).wellFormed = false := by decide

theorem test_title_is_well_formed :
    (Instr.writeHeader .program 0x21 (List.replicate 16 0x41) 1 1).wellFormed = true := by decide

theorem test_long_label_is_ill_formed :
    (Instr.writeReel .program 0x21 1 0 0 0 0 0 (List.replicate 11 0)).wellFormed = false := by decide

theorem test_label_is_well_formed :
    (Instr.writeReel .program 0x21 1 0 0 0 0 0 (List.replicate 10 0)).wellFormed = true := by decide

theorem test_start_list_too_long_is_ill_formed :
    (Instr.setStarts .program 0x11 (List.replicate 29 0)).wellFormed = false := by decide

theorem test_start_list_is_well_formed :
    (Instr.setStarts .program 0x11 (List.replicate 28 0)).wellFormed = true := by decide

/-! ## The worked sequence of 12.4 and other single steps -/

theorem test_no_word_spells_a_command : decodeTableWord 32 0x41 = none ∧ s0.withFetchWord 32 0x41 = s0 := ⟨rfl, rfl⟩

theorem test_strike_is_taken :
    sent .console (after (.strike .console 3)
      ((s0.setArc ⟨.s2, .a⟩ { arc0 with state := .off, low := false }).setArcStore ⟨.s2, .a⟩
        { ArcStore.default with remaining := 601, trimLength := 601 })) =
      some [0x5A, 0x01, 0x41, 0x03, 0x00, 0xBB] := by decide

theorem test_strike_is_denied_to_the_house :
    sent .house (after (.strike .house 3) s0) = some [0x5A, 0x01, 0x41, 0x03, 0x03, 0xB8] := by decide

theorem test_strike_frame_sums_to_zero : byteSum [0x00, 0x41, 0x03, 0xBC] = 0 := by decide

theorem test_duty_entry_data :
    DutyEntry.data ⟨.thread ⟨.s2, .a⟩, some 1, 300, true⟩ 600 =
      [0x01, 0x03, 0x01, 0x00, 0x00, 0x01, 0x2C, 0x01, 0xFF, 0xFF, 0xFE, 0xD4] := by decide

theorem test_power_on_of_an_invalid_store_is_reset :
    ({ s0 with retained := { s0.retained with markerValid := false } } : State).powerOn = s0 := by decide

theorem test_a_millisecond_passes : step s0 = .next s0.tick := rfl

theorem test_a_queued_command_is_taken :
    step { s0 with pending := [.mainsPulse] } = exec .mainsPulse s0 := rfl

theorem test_spent_lamp_is_not_struck :
    sent .console (after (.strike .console 1) s0) = some [0x5A, 0x01, 0x41, 0x01, 0x06, 0xB7] := by decide

theorem test_fire_is_recorded :
    ((after .fireLoopActive s0).attn .house).pending.get .fire = some ⟨1, .fireActive⟩ := by decide

theorem test_show_starts :
    (after (.startShow .console 1) (readyScreen ⟨.called, some next0, .none⟩)).showRec .s1 = ⟨.playing, none, .pass⟩ := by
  decide

theorem test_started_projector_starts :
    ((after (.startShow .console 1) (readyScreen ⟨.called, some next0, .none⟩)).projector p1).runState = .starting := by
  decide

/-! ## Hypotheses of the statements: the block, requests, reads -/

theorem test_StepIsExecOfTheFront : ({ s0 with pending := [.mainsPulse] } : State).pending = .mainsPulse :: [] := rfl

theorem test_EmptyQueueIsAMillisecond :
    s0.pending = [] ∧ s0.powered = true ∧ ({ s0 with powered := false } : State).pending = [] := ⟨rfl, rfl, rfl⟩

theorem test_EveryCommandGoesOn :
    s0.work = .empty ∧ ({ s0 with powered := false } : State).powered = false ∧ Instr.mainsPulse ≠ .powerOnReset ∧
      Instr.mainsPulse ≠ .mainPowerLoss ∧ Instr.mainsPulse ≠ .standbySupplyLoss := by
  refine ⟨rfl, rfl, ?_, ?_, ?_⟩ <;> decide

theorem test_RequestsReadBackFromTheirFrames :
    (Instr.writeHeader .program 0x21 (List.replicate 16 0x41) 1 1).wellFormed = true ∧
    encodeRequest (.writeHeader .program 0x21 (List.replicate 16 0x41) 1 1) =
      some (.program, ⟨0x12, 0x21, List.replicate 16 0x41 ++ [1, 1]⟩) := by decide

theorem test_ClosedRequestsAreDenied :
    (Instr.strike .house 1).wellFormed = true ∧ s0.Ready .house ∧
    encodeRequest (.strike .house 1) = some (.house, ⟨0x41, 1, []⟩) ∧
    requestRow 0x41 = some ⟨0x41, .console, .exactly 0⟩ ∧ Access.console.allows .house = false :=
  ⟨rfl, ready_of _ _ rfl rfl rfl rfl rfl rfl, by decide⟩

theorem test_RepliesAreFrames : (Answer.ok (List.replicate 55 0)).data.length ≤ 55 := by decide

theorem test_ReadsAnswerAndChangeNothing :
    s0.Ready .house ∧ screenOf 1 = some .s1 ∧ screenOf 4 = some .s4 ∧ screenOf 0 = none ∧ screenOf 5 = none ∧
    projOf 8 = some ⟨.s4, .b⟩ ∧ projOf 9 = none ∧ shutterOf 12 = some (.observation .s4) ∧ shutterOf 13 = none ∧
    triggerOf 60 = some (.link (.observation .s4)) ∧ triggerOf 61 = none ∧ (5 : Byte) ≠ 0 :=
  ⟨ready_of _ _ rfl rfl rfl rfl rfl rfl, by decide⟩

theorem test_ItemReadsAnswerOneItem :
    (withNext { bank1 with cues := [cue1] }).Ready .console ∧ bankOf 0x21 = some (.s1, .next) ∧ 4 < (5 : Byte).toNat ∧
    12 < (13 : Byte).toNat ∧ ((withNext { bank1 with state := .clearing }).bankIn .s1 .next).state = .clearing ∧
    ((withNext { bank1 with cues := [cue1] }).bankIn .s1 .next).state ≠ .clearing ∧
    ((withNext { bank1 with cues := [cue1] }).bankIn .s1 .next).cues.length = 1 ∧
    screenOf 4 = some .s4 ∧ 1 ≤ (1 : Byte).toNat ∧ (8 : Byte).toNat ≤ 8 ∧ 8 < (9 : Byte).toNat ∧
    (12 : Byte).toNat - 1 < s0.duty.length ∧ s0.duty.length < (13 : Byte).toNat :=
  ⟨ready_of _ _ rfl rfl rfl rfl rfl rfl, by decide⟩

/-! ## Banks -/

theorem test_ContentWritesReplaceTheirPart :
    s0.Ready .program ∧ (withNext { bank1 with state := .draft, cues := [cue1] }).Ready .program ∧
    bankOf 0x21 = some (.s1, .next) ∧ (s0.bankIn .s1 .next).state = .empty ∧
    ((withNext { bank1 with state := .draft, cues := [cue1] }).bankIn .s1 .next).state = .draft ∧
    (List.replicate 16 (0x20 : Byte)).all printable = true ∧ sideOf 2 = some .b ∧ (12 : Byte).toNat ≤ 12 ∧
    (480 : Half).toNat ≤ 480 ∧ (38400 : Half).toNat ≤ 38400 ∧ (List.replicate 10 (0 : Byte)).all (· == 0) = true ∧
    (List.replicate 10 (0x7E : Byte)).all printable = true ∧ (8 : Byte).toNat ≤ 8 ∧ (6000 : Half).toNat ≤ 6000 ∧
    (s0.bankIn .s1 .next).cues.length < 16 ∧
    (1 : Byte).toNat ≤ ((withNext { bank1 with state := .draft, cues := [cue1] }).bankIn .s1 .next).cues.length :=
  ⟨ready_of _ _ rfl rfl rfl rfl rfl rfl, ready_of _ _ rfl rfl rfl rfl rfl rfl, by decide⟩

theorem test_ContentWritesAreRefusedInOrder :
    s0.Ready .program ∧ (withNext bank1).Ready .program ∧
    (withNext { bank1 with state := .draft, cues := List.replicate 16 cue1 }).Ready .program ∧
    bankOf 0x25 = none ∧ bankOf 0x21 = some (.s1, .next) ∧ bankOf 0x11 = some (.s1, .current) ∧
    ((withNext { bank1 with state := .clearing }).bankIn .s1 .next).state = .clearing ∧
    (s0.bankIn .s1 .current).state ≠ .clearing ∧ ((withNext bank1).bankIn .s1 .next).state = .complete ∧
    (List.replicate 16 (0x7F : Byte)).all printable = false ∧ 2 < (3 : Byte).toNat ∧ 12 < (13 : Byte).toNat ∧
    (481 : Half) ≠ 0xFFFF ∧ 480 < (481 : Half).toNat ∧ 38400 < (38401 : Half).toNat ∧ 1 < (2 : Byte).toNat ∧
    3 < (4 : Byte).toNat ∧ 8 < (9 : Byte).toNat ∧ 6000 < (6001 : Half).toNat ∧
    (cueOf 1 0 0 0xFF 0 1).isSome = true ∧
    16 ≤ ((withNext { bank1 with state := .draft, cues := List.replicate 16 cue1 }).bankIn .s1 .next).cues.length :=
  ⟨ready_of _ _ rfl rfl rfl rfl rfl rfl, ready_of _ _ rfl rfl rfl rfl rfl rfl, ready_of _ _ rfl rfl rfl rfl rfl rfl,
    by decide⟩

theorem test_DeleteCueRemovesOneEntry :
    (withNext { bank1 with state := .draft, cues := [cue1] }).Ready .program ∧ bankOf 0x21 = some (.s1, .next) ∧
    ((withNext { bank1 with state := .draft, cues := [cue1] }).bankIn .s1 .next).state = .draft ∧
    1 ≤ (1 : Byte).toNat ∧
    (1 : Byte).toNat ≤ ((withNext { bank1 with state := .draft, cues := [cue1] }).bankIn .s1 .next).cues.length ∧
    (s0.bankIn .s1 .next).state = .empty ∧ (s0.bankIn .s1 .next).cues.length < (1 : Byte).toNat :=
  ⟨ready_of _ _ rfl rfl rfl rfl rfl rfl, by decide⟩

theorem test_CuesStandInAnchorOrder :
    ([cue1, cue1].Pairwise fun a b => a.anchor.le b.anchor = true) := by decide

/-- `bank2` with another reel in slot 2. -/
def second (r : Option Reel) : Bank := { bank2 with reels := bank2.reels.setIfInBounds 1 r }

theorem test_CommitRunsTheChecks :
    s0.Ready .program ∧ screenOf 1 = some .s1 ∧ (s0.bankIn .s1 .next).state = .empty ∧
    (s0.bankIn .s1 .next).header = none ∧ (s0.bankIn .s1 .next).commitFault = some .header ∧
    ((withNext { bank1 with state := .draft }).bankIn .s1 .next).commitFault = none ∧
    ((withNext bank1).bankIn .s1 .next).state = .complete ∧ bank2.header = some ⟨List.replicate 16 0x41, .a, 2⟩ ∧
    (second none).commitFault = some (.reelMissing 2) ∧
    (second (some { reel with motorCue := 192 })).commitFault = some (.leadIn 2) ∧
    (second (some { reel with changeoverCue := 300 })).commitFault = some (.cueOrder 2) ∧
    (second (some { reel with changeoverCue := 288 })).commitFault = some (.cueGap 2) ∧
    ({ bank2 with cues := [⟨.reelFrame 2 300, none, none⟩, ⟨.reelFrame 3 0, none, none⟩] } : Bank).commitFault =
      some (.anchorReel 2) ∧
    ({ bank2 with cues := [⟨.reelFrame 2 299, none, none⟩, ⟨.reelFrame 2 300, none, none⟩] } : Bank).commitFault =
      some (.anchorFrame 2) ∧
    ({ bank2 with cues := [⟨.reelFrame 2 299, none, none⟩] } : Bank).commitFault = none :=
  ⟨ready_of _ _ rfl rfl rfl rfl rfl rfl, by decide⟩

theorem test_ReopenReturnsNextToDraft :
    (withNext bank1).Ready .program ∧ ((withNext bank1).bankIn .s1 .next).state = .complete ∧
    (s0.bankIn .s1 .next).state = .empty ∧
    ((withNext { bank1 with state := .draft }).bankIn .s1 .next).state = .draft ∧
    (s0.setRotationPending .s1 true).retained.rotationPending.get .s1 = true :=
  ⟨ready_of _ _ rfl rfl rfl rfl rfl rfl, by decide⟩

theorem test_RotateMovesTheRoles :
    (withNext bank1).Ready .console ∧ ((withNext bank1).screen .s1).state = .dark ∧
    ((withNext bank1).showRec .s1).state = .waiting ∧
    (∀ b c, ((withNext bank1).bank .s1 b).role = ((withNext bank1).bank .s1 c).role → b = c) ∧
    ((withNext bank1).bankIn .s1 .next).state = .complete ∧ ((withNext bank1).bankIn .s1 .spare).state ≠ .clearing :=
  ⟨ready_of _ _ rfl rfl rfl rfl rfl rfl, rfl, rfl, by intro b c; cases b <;> cases c <;> decide, by decide⟩

theorem test_RotateIsRefusedInOrder :
    s0.Ready .program ∧ ((withScreen { Screen.blank with state := .final }).screen .s1).state ≠ .dark ∧
    ((withShow ⟨.held, none, .none⟩).showRec .s1).state = .held ∧ (s0.bankIn .s1 .next).state ≠ .complete ∧
    (((withNext bank1).setBank .s1 .b2 (.blank .spare .clearing)).bankIn .s1 .spare).state = .clearing ∧
    (((withNext bank1).setBank .s1 .b2 (.blank .spare .clearing)).bankIn .s1 .next).state = .complete :=
  ⟨ready_of _ _ rfl rfl rfl rfl rfl rfl, by decide⟩

/-- A sound state that is not the state of reset: a bank in CLEARING, and a command that waits. -/
def clearing : State :=
  { s0.setBank .s1 .b2 (.blank .spare .clearing) with
    bankUnit := ⟨[⟨.s1, .b2⟩], some 0⟩
    pending := [.clearComplete] }

/-- A sound state with a rotation pending behind the clear. -/
def rotating (k : BankState) : State := (clearing.setBank .s1 .b1 { bank1 with state := k }).setRotationPending .s1 true

theorem test_ClearCompleteEmptiesTheBank :
    clearing.Awake ∧ clearing.bankUnit.queue = ⟨.s1, .b2⟩ :: [] ∧ clearing.bankUnit.clearLeft ≠ none ∧
    clearing.retained.rotationPending.get .s1 = false ∧ (rotating .draft).Awake ∧
    (rotating .complete).bankUnit.queue = ⟨.s1, .b2⟩ :: [] ∧ (rotating .complete).bankUnit.clearLeft ≠ none ∧
    (rotating .complete).retained.rotationPending.get .s1 = true ∧
    ((rotating .complete).bank .s1 .b2).role = .spare ∧ ((rotating .complete).screen .s1).state = .dark ∧
    ((rotating .complete).showRec .s1).state = .waiting ∧ ((rotating .complete).bankIn .s1 .next).state = .complete ∧
    ((rotating .draft).bankIn .s1 .next).state ≠ .complete :=
  ⟨⟨rfl, rfl⟩, by decide, by decide, by decide, ⟨rfl, rfl⟩, by decide⟩

theorem test_roles_of_a_pending_rotation :
    ∀ b c, ((rotating .complete).bank .s1 b).role = ((rotating .complete).bank .s1 c).role → b = c := by
  intro b c; cases b <;> cases c <;> decide

theorem test_pending_rotation_survives_the_power :
    (after .mainPowerLoss (rotating .complete)).retained.rotationPending.get .s1 = true := by decide

theorem test_StepsKeepBanksSound : clearing.BanksSound where
  roles n b c := by cases n <;> cases b <;> cases c <;> decide
  spare n b := by cases n <;> cases b <;> decide
  queued _ n b := by cases n <;> cases b <;> decide
  once _ := by decide
  clearing _ := by decide

/-! ## Projectors and trackers -/

theorem test_ThreadingTakesTheAssignedReel :
    (s0.setProjector p1 { Projector.blank with assigned := some 1 }).Awake ∧
    ((s0.setProjector p1 { Projector.blank with assigned := some 1 }).projector p1).runState = .empty ∧
    ((s0.setProjector p1 { Projector.blank with assigned := some 1 }).projector p1).assigned = some 1 ∧
    (s0.screen .s1).state ≠ .single ∧ (s0.screen .s1).state ≠ .armed ∧ (s0.showRec .s1).state ≠ .held :=
  ⟨⟨rfl, rfl⟩, by decide⟩

theorem test_ThreadingAgainKeepsTheReel :
    (withRun .halted).Awake ∧ ((withRun .halted).projector p1).runState = .halted ∧
    ((withRun .threaded).projector p1).runState = .threaded ∧ ((withRun .runout).projector p1).runState.motor = true ∧
    (s0.projector p1).runState = .empty ∧ (s0.projector p1).assigned = none := ⟨⟨rfl, rfl⟩, by decide⟩

/-- Projector 1 in a run state with a counter. -/
def atFrame (r : RunState) (c : Nat) : State := (withRun r).setTracker p1 { Tracker.blank with counter := c }

theorem test_LostLoopBelowEndBreaks :
    (atFrame .showing 299).Awake ∧ ((atFrame .showing 299).projector p1).runState.motor = true ∧
    (atFrame .showing 299).atPictureEnd p1 = false := ⟨⟨rfl, rfl⟩, by decide⟩

theorem test_LostLoopAtEndEmpties :
    (atFrame .runout 300).Awake ∧ ((atFrame .runout 300).projector p1).runState.motor = true ∧
    (atFrame .runout 300).atPictureEnd p1 = true ∧ ((atFrame .runout 300).showRec .s1).state ≠ .playing ∧
    ((changeover .single 300).showRec .s1).state = .playing ∧ ((changeover .single 300).projector p1).loaded = some 1 ∧
    (changeover .single 300).reelCount .s1 = some 2 ∧ (changeover .single 300).atPictureEnd p1 = true ∧
    (s0.projector p1).runState.motor = false := ⟨⟨rfl, rfl⟩, by decide⟩

theorem test_StopAndClearAProjector :
    (withRun .starting).Ready .console ∧ projOf 1 = some p1 ∧ ((withRun .starting).projector p1).runState.motor = true ∧
    ((withRun .threaded).projector p1).runState.motor = false ∧
    ((withRun .threaded).projector p1).runState = .threaded ∧ ((withRun .halted).projector p1).runState = .halted ∧
    (s0.projector p1).runState = .empty := ⟨ready_of _ _ rfl rfl rfl rfl rfl rfl, by decide⟩

/-- Projector 1 RUNNING with its douser commanded OPEN and its port in a state. -/
def opening (c : Nat) (port : Shutter) : State :=
  ((atFrame .running c).setProjector p1 { Projector.blank with
    runState := .running, loaded := some 1, douser := .opened }).setShutter (.port p1) port

theorem test_OpenConfirmationShows :
    (opening 299 shutterUp).Awake ∧ ((opening 299 shutterUp).projector p1).runState = .running ∧
    ((opening 299 shutterUp).projector p1).douser = .opened ∧
    ((opening 299 shutterUp).shutter (.port p1)).state = .up ∧ (opening 299 shutterUp).atPictureEnd p1 = false ∧
    ((opening 0 (.powerOn true)).shutter (.port p1)).state ≠ .up ∧
    ((withRun .showing).projector p1).runState ≠ .running ∧ ((withRun .running).projector p1).douser = .closed :=
  ⟨⟨rfl, rfl⟩, by decide⟩

theorem test_PulsesAreCountedAndTimed :
    (atFrame .runout 618).Awake ∧ ((atFrame .runout 618).projector p1).runState.motor = true ∧
    (atFrame .runout 618).loadedRecord p1 = some reel ∧ min 65535 (618 + 1) < reel.pictureEnd + 320 ∧
    ((atFrame .runout 618).screen .s1).state ≠ .final ∧ (s0.projector p1).runState.motor = false ∧
    Tracker.blank.atSpeed = false ∧ ({ Tracker.blank with inBand := 11 } : Tracker).inBand = 11 ∧
    ({ Tracker.blank with atSpeed := true, outBand := 2 } : Tracker).outBand = 2 := ⟨⟨rfl, rfl⟩, by decide⟩

/-- The hypotheses of a picture end, which `changeover k 299` meets in every changeover state. -/
theorem test_PulsesAreCountedAndTimed_picture_end (k : ScreenState) :
    (changeover k 299).Awake ∧ ((changeover k 299).projector p1).runState = .showing ∧
    ((changeover k 299).screen .s1).showingSide = some p1.side ∧ (changeover k 299).loadedRecord p1 = some reel ∧
    ((changeover k 299).tracker p1).counter + 1 = reel.pictureEnd ∧ reel.pictureEnd ≤ 65535 ∧
    ((changeover k 299).tracker p1).context =
      some { ctx with motor := .taken 193 .mark, changeover := .taken 289 .mark } ∧
    ((changeover k 299).screen .s1).state = k ∧ ((changeover k 299).screen .s1).opening = none ∧
    ((changeover k 299).screen .s1).swapFailed = false ∧
    ((changeover k 299).showRec .s1).state = .playing := by
  cases k <;> exact ⟨⟨rfl, rfl⟩, by decide⟩

theorem test_PulsesAreCountedAndTimed_swap_and_end :
    (changeover .rolling 299).atSpeed p2 = true ∧ (changeover .rolling 299).permit p2 = true ∧
    ((early .rolling 299).projector p2).runState = .starting ∧
    ((changeover .final 299).bankIn .s1 .next).state ≠ .complete ∧
    (((changeover .final 299).setBank .s1 .b1 bank1).bankIn .s1 .next).state = .complete ∧
    (((changeover .final 299).setBank .s1 .b1 bank1).bankIn .s1 .spare).state ≠ .clearing ∧
    ((((changeover .final 299).setBank .s1 .b1 bank1).setBank .s1 .b2 (.blank .spare .clearing)).bankIn .s1 .spare).state =
      .clearing := by decide

theorem test_roles_at_the_end_of_a_show :
    ∀ b c, (((changeover .final 299).setBank .s1 .b1 bank1).bank .s1 b).role =
      (((changeover .final 299).setBank .s1 .b1 bank1).bank .s1 c).role → b = c := by
  intro b c; cases b <;> cases c <;> decide

theorem test_picture_end_forces_a_swap :
    ((after (.sprocketPulse p1 417) (changeover .rolling 299)).screen .s1).state = .swapping := by decide

/-- Projector 1 SHOWING at a frame with a cue context. -/
def cueing (c : Nat) (x : CueContext) : State :=
  (withRun .showing).setTracker p1 { Tracker.blank with counter := c, context := some x }

theorem test_MarksAreTakenCountedOrIgnored :
    (cueing 145 ctx).Awake ∧ ((cueing 145 ctx).tracker p1).context = some ctx ∧
    (cueing 145 ctx).loadedRecord p1 = some reel ∧ ((cueing 145 ctx).projector p1).runState.motor = true ∧
    ctx.effective ≠ .count ∧ ctx.judgeMark reel 145 = .take .motor ∧
    ({ ctx with motor := .missed } : CueContext).judgeMark reel 241 = .take .changeover ∧
    ({ ctx with motor := .taken 193 .mark } : CueContext).judgeMark reel 194 = .ignore ∧
    ctx.judgeMark reel 144 = .stray ∧ ctx.strays < 2 ∧ 2 ≤ ({ ctx with strays := 2 } : CueContext).strays ∧
    ({ ctx with fallenBack := true } : CueContext).effective = .count ∧ s0.loadedRecord p1 = none ∧ (s0.projector p1).runState.motor = false := ⟨⟨rfl, rfl⟩, by decide⟩

theorem test_MarksAreJudgedInOrder :
    ctx.motor = .pending ∧ within 241 reel.motorCue ctx.window = true ∧ within 242 reel.motorCue ctx.window = false ∧
    ({ ctx with motor := .missed } : CueContext).motor ≠ .pending ∧ ctx.changeover = .pending ∧
    within 241 reel.changeoverCue ctx.window = true ∧ within 240 reel.changeoverCue ctx.window = false ∧
    ({ ctx with motor := .taken 193 .count } : CueContext).motor = .taken 193 .count := by decide

theorem test_FailuresHalt :
    ((withRun .starting).setTracker p1 (Tracker.blank.motorOn)).Awake ∧
    (((withRun .starting).setTracker p1 (Tracker.blank.motorOn)).tracker p1).startTimer ≠ none ∧
    (((withRun .starting).setTracker p1 (Tracker.blank.motorOn)).tracker p1).stallTimer ≠ none ∧
    ((withRun .starting).projector p1).runState = .starting ∧
    ((withRun .runout).projector p1).runState ≠ .starting ∧ ((withRun .runout).projector p1).runState.motor = true ∧
    (s0.tracker p1).startTimer = none ∧ (s0.tracker p1).stallTimer = none := ⟨⟨rfl, rfl⟩, by decide⟩

theorem test_FailuresHalt_showing :
    (changeover .single 0).Awake ∧ ((changeover .single 0).screen .s1).showingSide = some .a ∧
    ((changeover .single 0).tracker p1).stallTimer ≠ none ∧ ((changeover .single 0).projector p1).runState = .showing ∧
    ((changeover .single 0).screen .s1).state = .single ∧ ((changeover .single 0).showRec .s1).state ≠ .held ∧
    ((changeover .single 0).screen .s1).opening = none ∧ ((early .rolling 0).screen .s1).opening = none ∧
    ((changeover .final 0).screen .s1).state = .final ∧ (early .rolling 0).atSpeed p2 = false ∧
    ((changeover .rolling 0).screen .s1).state = .rolling ∧ (changeover .rolling 0).atSpeed p2 = true ∧
    (changeover .rolling 0).leadIn p2 ≤ ((changeover .rolling 0).tracker p2).counter ∧
    (changeover .rolling 0).permit p2 = true ∧
    (((changeover .rolling 0).setScreen .s1 { screenAt .rolling with confirmTimer := none }).screen .s1).confirmTimer = none ∧
    (((changeover .rolling 0).setTracker p2 { Tracker.blank with counter := 191, atSpeed := true }).tracker p2).counter <
      (changeover .rolling 0).leadIn p2 ∧
    ((changeover .swapping 0).screen .s1).state = .swapping := ⟨⟨rfl, rfl⟩, by decide⟩

theorem test_FailuresHalt_standby :
    ((changeover .armed 0).tracker p2).stallTimer ≠ none ∧ ((changeover .armed 0).projector p2).runState.motor = true ∧
    ((changeover .armed 0).screen .s1).state = .armed ∧ ((changeover .swapping 0).projector p1).runState = .showing ∧
    (changeover .swapping 299).atPictureEnd p1 = false ∧ (changeover .swapping 299).permit p1 = true ∧
    (changeover .swapping 300).atPictureEnd p1 = true ∧ (changeover .swapping 300).atRunoutLimit p1 = false := by decide

/-- A fire in SWAPPING whose halts are taken the incoming's first (R77): the entry to SINGLE runs its arming check before the
outgoing's halt takes the screen DARK. -/
theorem test_armingCheck_between_two_halts :
    let t := ((((changeover .swapping 0).haltPorts [p1, p2] .fire).onHalt p2).onHalt p1).screen .s1
    t.state = .dark ∧ t.arming = .fail .standbyState := by decide

/-- A sound state with film: projector 1 SHOWING reel 1, with a command that waits. -/
def showing : State :=
  { ((atFrame .showing 7).setShutter (.port p1) shutterUp).setRunMarks p1 ⟨true, some 1, 7⟩ with pending := [.loopLost p1] }

theorem test_StepsKeepProjectorsSound : showing.ProjectorsSound where
  film p := by rcases p with ⟨n, d⟩; cases n <;> cases d <;> decide
  halted p := by rcases p with ⟨n, d⟩; cases n <;> cases d <;> decide
  assigned p := by rcases p with ⟨n, d⟩; cases n <;> cases d <;> decide
  open_ p := by rcases p with ⟨n, d⟩; cases n <;> cases d <;> decide
  still p := by rcases p with ⟨n, d⟩; cases n <;> cases d <;> decide
  marks p := by rcases p with ⟨n, d⟩; cases n <;> cases d <;> decide
  single p := by rcases p with ⟨n, d⟩; cases n <;> cases d <;> decide
  port p := by rcases p with ⟨n, d⟩; cases n <;> cases d <;> decide
  kept _ p := by rcases p with ⟨n, d⟩; cases n <;> cases d <;> decide

/-! ## Screens, settings -/

def armedScreen : Screen := { Screen.blank with state := .armed, showingSide := some .a, currentReel := some 1 }

theorem test_ChangeNowRollsAnArmedScreen :
    (withScreen armedScreen).Ready .console ∧ screenOf 1 = some .s1 ∧
    ((withScreen armedScreen).screen .s1).state = .armed ∧ ((withScreen armedScreen).screen .s1).showingSide = some .a ∧
    (((withScreen armedScreen).setProjector p2 { Projector.blank with runState := .threaded }).projector p2).runState =
      .threaded ∧
    ((withScreen { armedScreen with state := .single }).screen .s1).state = .single ∧ (s0.screen .s1).state = .dark :=
  ⟨ready_of _ _ rfl rfl rfl rfl rfl rfl, by decide⟩

theorem test_ChangeNowRollsAnArmedScreen_rolling :
    (changeover .rolling 0).Ready .console ∧ ((changeover .rolling 0).screen .s1).state = .rolling ∧
    ((changeover .rolling 0).screen .s1).showingSide = some .a ∧ (changeover .rolling 0).atSpeed p2 = true ∧
    (changeover .rolling 0).permit p2 = true ∧ ((changeover .rolling 0).projector p1).runState = .showing ∧
    (early .rolling 0).Ready .console ∧ (early .rolling 0).atSpeed p2 = false ∧
    ((changeover .swapping 0).screen .s1).state = .swapping :=
  ⟨ready_of _ _ rfl rfl rfl rfl rfl rfl, by decide, by decide, by decide, by decide, by decide,
    ready_of _ _ rfl rfl rfl rfl rfl rfl, by decide⟩

/-- A screen in STARTING with both timers running for projector 1. -/
def startingScreen : Screen :=
  { Screen.blank with state := .starting, opening := some p1, confirmTimer := some ⟨p1, 0⟩, closeWatch := some ⟨p1, 0⟩ }

theorem test_OpeningsAndSwapsEnd :
    ((withRun .running).setScreen .s1 startingScreen).Awake ∧
    (((withRun .running).setScreen .s1 startingScreen).screen .s1).closeWatch = some ⟨p1, 0⟩ ∧
    (s0.screen .s1).closeWatch = none ∧ (s0.screen .s1).confirmTimer = none ∧
    (((withRun .running).setScreen .s1 startingScreen).screen .s1).state = .starting ∧
    (((withRun .running).setScreen .s1 startingScreen).screen .s1).opening = some p1 ∧
    (((withRun .running).setScreen .s1 startingScreen).screen .s1).confirmTimer = some ⟨p1, 0⟩ ∧
    (((withRun .running).setScreen .s1 startingScreen).showRec .s1).state ≠ .held ∧
    (((withRun .running).setScreen .s1 startingScreen).projector p1).runState.motor = true := ⟨⟨rfl, rfl⟩, by decide⟩

theorem test_OpeningsAndSwapsEnd_swap :
    (changeover .swapping 0).Awake ∧ ((changeover .swapping 0).screen .s1).showingSide = some .a ∧
    ((changeover .swapping 0).screen .s1).state = .swapping ∧
    ((changeover .swapping 0).screen .s1).confirmTimer = some ⟨p2, 0⟩ ∧
    ((changeover .swapping 0).projector p1).runState = .showing ∧ ((changeover .swapping 0).projector p2).runState = .running ∧
    (changeover .swapping 299).atPictureEnd p1 = false ∧ (changeover .swapping 299).permit p1 = true ∧
    (changeover .swapping 300).atPictureEnd p1 = true ∧ (changeover .swapping 300).atRunoutLimit p1 = false ∧
    ((changeover .swapping 300).showRec .s1).state ≠ .held ∧ (changeover .swapping 0).permit p2 = true ∧
    (changeover .swapping 0).atPictureEnd p2 = false ∧ ((changeover .swapping 0).projector p2).loaded = some 2 ∧
    ((changeover .swapping 0).tracker p2).context = some ctx ∧ ctx.motor = .pending ∧ ctx.changeover = .pending ∧
    (((changeover .swapping 0).setProjector p2
      { Projector.blank with runState := .running, loaded := some 2, douser := .opened }).projector p2).douser = .opened :=
  ⟨⟨rfl, rfl⟩, by decide⟩

/-- A ROLLING screen at the window of the changeover cue. -/
def atChangeover (s : State) : State :=
  s.setTracker p1 { Tracker.blank with counter := 289, context := some { ctx with motor := .missed }, atSpeed := true }

theorem test_OpeningsAndSwapsEnd_cue_and_fire :
    ((atChangeover (changeover .rolling 0)).screen .s1).swapFailed = false ∧
    ((atChangeover (changeover .rolling 0)).tracker p1).context = some { ctx with motor := .missed } ∧
    (atChangeover (changeover .rolling 0)).loadedRecord p1 = some reel ∧
    ({ ctx with motor := .missed } : CueContext).effective ≠ .count ∧
    ({ ctx with motor := .missed } : CueContext).judgeMark reel 289 = .take .changeover ∧
    (atChangeover (early .rolling 0)).atSpeed p2 = false ∧ (atChangeover (changeover .rolling 0)).atSpeed p2 = true ∧
    (atChangeover (changeover .rolling 0)).permit p2 = true ∧ (changeover .rolling 0).shutterUnit.fireActive = false ∧
    ((changeover .rolling 0).projector p1).runState.motor = true ∧
    ((changeover .rolling 0).projector p2).runState.motor = true ∧
    ((changeover .rolling 0).shutter (.port p1)).state ≠ .dropped ∧
    ((changeover .rolling 0).shutter (.port p2)).state ≠ .dropped := by decide

/-- Screen 1 in STARTING on projector 1, which runs at counter `c` one in-band interval short of speed; its confirmation timer
is `t` and projector 2 holds reel 2 in run state `k`. -/
def openingScreen (r k : RunState) (c : Nat) (t : Option NamedTimer) : State :=
  let s := (changeover .starting c).setScreen .s1 { Screen.blank with
    state := .starting, opening := some p1, currentReel := some 1, confirmTimer := t }
  let s := s.setProjector p1 { Projector.blank with runState := r, loaded := some 1 }
  let s := s.setTracker p1
    { Tracker.blank with counter := c, context := some ctx, inBand := 11, timing := true, stallTimer := some 1 }
  (s.setProjector p2 { Projector.blank with runState := k, loaded := some 2 }).setTracker p2 Tracker.blank

theorem test_OpeningsAndSwapsEnd_opening :
    (openingScreen .starting .threaded 191 none).Awake ∧
    ((openingScreen .starting .threaded 191 none).screen .s1).state = .starting ∧
    ((openingScreen .starting .threaded 191 none).screen .s1).opening = some p1 ∧
    ((openingScreen .starting .threaded 191 none).tracker p1).timing = true ∧
    ((openingScreen .starting .threaded 191 none).tracker p1).atSpeed = false ∧
    11 ≤ ((openingScreen .starting .threaded 191 none).tracker p1).inBand ∧
    (openingScreen .starting .threaded 191 none).leadIn p1 = 191 + 1 ∧
    190 + 1 < (openingScreen .starting .threaded 190 none).leadIn p1 ∧
    (openingScreen .starting .threaded 191 none).permit p1 = true ∧
    ((openingScreen .starting .threaded 191 none).setShutter (.port p1) (.powerOn true)).permit p1 = false ∧
    ((openingScreen .starting .threaded 191 none).showRec .s1).state ≠ .held ∧
    (((openingScreen .running .threaded 191 none).setTracker p1
      { Tracker.blank with counter := 191, atSpeed := true }).tracker p1).timing = false ∧
    ((openingScreen .running .threaded 191 none).projector p1).runState = .running ∧
    ((openingScreen .running .threaded 191 none).tracker p1).stallTimer ≠ none := ⟨⟨rfl, rfl⟩, by decide⟩

/-- The pulse that brings the opening projector to speed at its lead-in opens it (R27, R64). -/
theorem test_opening_at_speed :
    ((after (.sprocketPulse p1 417) (openingScreen .starting .threaded 191 none)).screen .s1).confirmTimer =
      some ⟨p1, 250⟩ ∧
    (after (.sprocketPulse p1 417) (openingScreen .starting .threaded 191 none)).projector p1 =
      { Projector.blank with runState := .running, loaded := some 1, douser := .opened } := by decide

theorem test_OpeningsAndSwapsEnd_confirmation :
    let s := openingScreen .running .threaded 192 (some ⟨p1, 7⟩)
    let u := s.setProjector p1 { Projector.blank with runState := .running, loaded := some 1, douser := .opened }
    u.Awake ∧ (u.screen .s1).confirmTimer = some ⟨p1, 7⟩ ∧ (u.projector p1).douser = .opened ∧ u.permit p1 = true ∧
    (u.projector p2).runState = .threaded ∧ (u.tracker p2).counter = 0 ∧ (u.projector p2).loaded = some (1 + 1) ∧
    (u.arc p2).state = .burning ∧ u.permit p2 = true ∧ u.carbonFor p2 (1 + 1) 0 = true ∧
    u.shutterUnit.fireActive = false ∧ (u.screen .s1).lateMotor = false ∧ u.atPictureEnd p1 = false ∧
    u.reelCount .s1 ≠ some 1 ∧ (openingScreen .running .halted 300 none).atPictureEnd p1 = true ∧
    (openingScreen .running .halted 300 none).atRunoutLimit p1 = false ∧
    ((openingScreen .running .halted 300 none).projector p2).runState ≠ .threaded ∧
    ((openingScreen .running .halted 300 none).projector p2).loaded ≠ some 1 ∧
    ((openingScreen .running .halted 300 none).showRec .s1).state = .playing ∧
    (CueStatus.taken 289 .mark).isTaken = true ∧ (s0.setBank .s1 .b0 { bank1 with role := .current }).reelCount .s1 = some 1 :=
  ⟨⟨rfl, rfl⟩, by decide⟩

/-- A pulse brings the incoming of a ROLLING screen, whose swap is pending, to speed (R70). -/
theorem test_OpeningsAndSwapsEnd_at_speed :
    let s := (early .rolling 0).setTracker p2 { Tracker.blank with inBand := 11, timing := true }
    let u := s.setScreen .s1 { screenAt .rolling with swapPending := true }
    u.Awake ∧ (u.screen .s1).state = .rolling ∧ (u.screen .s1).swapFailed = false ∧ (u.screen .s1).swapPending = true ∧
    (u.screen .s1).showingSide = some .a ∧ (u.projector p2).runState = .starting ∧ (u.tracker p2).timing = true ∧
    (u.tracker p2).atSpeed = false ∧ 11 ≤ (u.tracker p2).inBand ∧ u.permit p2 = true ∧
    (u.projector p1).runState = .showing := ⟨⟨rfl, rfl⟩, by decide⟩

theorem test_PulsesAreCountedAndTimed_at_speed :
    let s := (early .final 0).setTracker p2 { Tracker.blank with inBand := 11, timing := true }
    s.Awake ∧ (s.projector p2).runState = .starting ∧ (s.tracker p2).timing = true ∧ (s.tracker p2).atSpeed = false ∧
    11 ≤ (s.tracker p2).inBand ∧ (s.screen .s1).state ≠ .starting ∧ (s.screen .s1).state ≠ .rolling :=
  ⟨⟨rfl, rfl⟩, by decide⟩

theorem test_output_lines :
    s0.retained.monitor = .follow ∧ (changeover .single 0).motorDrive p1 = true ∧
    (changeover .single 0).douserDrive p1 = true ∧ (changeover .single 0).contactor p1 = true ∧
    (changeover .single 0).striker p1 = false ∧ (changeover .single 0).feedMotor p1 = false ∧ s0.openDrive .s1 = false := by
  decide

theorem test_MonitorAndBell :
    s0.Ready .console ∧ screenOf 4 = some .s4 ∧ 4 < (5 : Byte).toNat ∧
    (s0.setBell (Bell.blank.joinLate .s1)).booth.bell.cadenceLeft = some 500 ∧ s0.booth.bell.cadenceLeft = none :=
  ⟨ready_of _ _ rfl rfl rfl rfl rfl rfl, by decide⟩

theorem test_SettingsReplaceTheirOwnItem :
    s0.Ready .console ∧ s0.Ready .house ∧ screenOf 1 = some .s1 ∧ (240 : Byte).toNat ≤ 240 ∧ 240 < (241 : Byte).toNat ∧
    3 < (4 : Byte).toNat ∧ triggerOf 17 = some (.filmBreak p1) ∧ (TriggerKey.filmBreak p1).must = some (.port p1) ∧
    (4095 : Half).toNat < 4096 ∧ member 4095 (ShutterNo.port p1).code = true ∧ 4096 ≤ (4096 : Half).toNat ∧
    member 4094 (ShutterNo.port p1).code = false ∧ triggerOf 1 = some .fire ∧ triggerOf 2 = some .manual ∧
    (8 : Byte).toNat ≤ 8 ∧ (100 : Byte).toNat ≤ 100 ∧ 8 < (9 : Byte).toNat ∧ 100 < (101 : Byte).toNat ∧
    (101 : Byte) ≠ 0xFF ∧ 5 ≤ (5 : Byte).toNat ∧ (60 : Byte).toNat ≤ 60 ∧ (4 : Byte).toNat < 5 ∧ 60 < (61 : Byte).toNat ∧
    standingOf 36 = some (.arcFault .s4) ∧
    (6000 : Half).toNat ≤ 6000 ∧ 6000 < (6001 : Half).toNat ∧ 1 < (2 : Byte).toNat ∧
    s0.retained.standing.size < 8 ∧ s0.retained.standing.get .fire ≠ none ∧ s0.retained.standing.get .power = none :=
  ⟨ready_of _ _ rfl rfl rfl rfl rfl rfl, ready_of _ _ rfl rfl rfl rfl rfl rfl, by decide⟩

/-- A standing table with eight of the ten keys. -/
def fullTable : StandingTable :=
  { fire := none, breaks := .const (some ⟨.const (some 0), 0, false⟩), arcFaults := .const (some ⟨.const (some 0), 0, false⟩),
    power := none }

theorem test_SettingsReplaceTheirOwnItem_full :
    (s0.setStandingTable fullTable).Ready .house ∧ standingOf 1 = some .fire ∧ fullTable.get .fire = none ∧
    8 ≤ fullTable.size := ⟨ready_of _ _ rfl rfl rfl rfl rfl rfl, by decide⟩

/-! ## Arcs -/

theorem test_StrikeAndExtinguish :
    (withCarbon { arc0 with state := .off }).Ready .console ∧ projOf 1 = some p1 ∧
    ((withArc { arc0 with state := .burning }).arc p1).state ≠ .off ∧
    ((withCarbon { arc0 with state := .off }).arc p1).state = .off ∧
    (((withCarbon { arc0 with state := .off }).setFire true)).shutterUnit.fireActive = true ∧
    (withCarbon { arc0 with state := .off }).shutterUnit.fireActive = false ∧
    ((withCarbon { arc0 with state := .off }).arcStore p1).reserve <
      ((withCarbon { arc0 with state := .off }).arcStore p1).remaining ∧
    ((withArc { arc0 with state := .off }).arcStore p1).remaining ≤
      ((withArc { arc0 with state := .off }).arcStore p1).reserve ∧
    ((withArc { arc0 with state := .striking }).arc p1).state = .striking ∧
    ((withArc { arc0 with state := .fault }).arc p1).state = .fault ∧ (s0.arc p1).state = .spent :=
  ⟨ready_of _ _ rfl rfl rfl rfl rfl rfl, by decide⟩

/-- A strike in a phase. -/
def striking (k : StrikePhase) (n : Nat) : Arc := { arc0 with state := .striking, phase := some ⟨k, 0⟩, attempts := n }

theorem test_StrikePhasesFollow :
    (withArc (striking .touch 3)).Awake ∧ ((withArc (striking .touch 3)).arc p1).state = .striking ∧
    ((withArc (striking .touch 3)).arc p1).phase = some ⟨.touch, 0⟩ ∧
    ((withArc (striking .touch 3)).setPins { Pins.quiet with arcPresent := .const true }).pins.arcPresent.get p1 = true ∧
    (withArc (striking .touch 3)).pins.arcPresent.get p1 = false ∧
    ((withArc (striking .proof 2)).arc p1).phase = some ⟨.proof, 0⟩ ∧ 1 < ((withArc (striking .proof 2)).arc p1).attempts ∧
    ((withArc (striking .proof 1)).arc p1).attempts ≤ 1 ∧
    ((withArc (striking .pause 2)).arc p1).phase = some ⟨.pause, 0⟩ := ⟨⟨rfl, rfl⟩, by decide⟩

theorem test_LostArcsRestrikeOnce :
    (withArc { arc0 with state := .burning }).Awake ∧ ((withArc { arc0 with state := .burning }).arc p1).state = .burning ∧
    ((withArc { arc0 with state := .burning }).arc p1).lossTimer = none ∧
    ((withArc { arc0 with state := .burning, lossTimer := some 0 }).arc p1).lossTimer ≠ none ∧
    (s0.arc p1).state ≠ .burning := ⟨⟨rfl, rfl⟩, by decide⟩

/-- A lamp that burns, with a feed train. -/
def feeding (t : FeedTrain) : Arc := { arc0 with state := .burning, train := t }

theorem test_CarbonIsFedByPulses :
    (withCarbon (feeding (.high 20 80 0))).Awake ∧
    ((withCarbon (feeding (.high 20 80 0))).arc p1).train = .high 20 80 0 ∧
    2 ≤ (((withCarbon (feeding (.high 20 80 0))).setArcStore p1 { ArcStore.default with remaining := 2 }).arcStore p1).remaining ∧
    (((withCarbon (feeding (.high 20 80 0))).setArcStore p1 { ArcStore.default with remaining := 1 }).arcStore p1).remaining = 1 ∧
    ((withCarbon { feeding (.high 20 80 0) with mark := some 0, steps := 59999 }).arc p1).mark ≠ none ∧
    ((withCarbon { feeding (.high 20 80 0) with mark := some 0, steps := 59999 }).arc p1).steps < 60000 ∧
    ((withCarbon (feeding (.low 20 80 0))).arc p1).train = .low 20 80 0 ∧ (s0.arc p1).state ≠ .burning ∧
    ((withCarbon (feeding .idle)).arc p1).state = .burning ∧ ((withCarbon (feeding .idle)).arc p1).train = .idle ∧
    (Pins.quiet.crater p1 .long true).craterLong.get p1 = true ∧
    (Pins.quiet.crater p1 .long true).craterShort.get p1 = false ∧
    ((Pins.quiet.crater p1 .long true).crater p1 .short true).craterShort.get p1 = true ∧
    ((withCarbon (feeding .idle)).arc p1).sensorReported = false ∧
    ((withCarbon { feeding .idle with sensorReported := true }).arc p1).sensorReported = true ∧
    ((withCarbon (feeding (.low 20 80 0))).arc p1).train ≠ .idle := ⟨⟨rfl, rfl⟩, by decide⟩

theorem test_TrimAndArcSettings :
    (withArc { arc0 with state := .fault }).Ready .console ∧ projOf 8 = some ⟨.s4, .b⟩ ∧ projOf 1 = some p1 ∧
    ((withArc { arc0 with state := .striking }).arc p1).state = .striking ∧
    ((withArc { arc0 with state := .fault }).arc p1).state = .fault ∧ (s0.arc p1).state = .spent ∧
    (600 : Half).toNat ≤ (s0.arcStore p1).reserve ∧ (s0.arcStore p1).reserve < (601 : Half).toNat ∧
    (60000 : Half).toNat ≤ 60000 ∧ 60000 < (60001 : Half).toNat ∧ (6000 : Half).toNat ≤ 6000 ∧
    6000 < (6001 : Half).toNat ∧ (500 : Half).toNat ≤ 500 ∧ 500 < (501 : Half).toNat ∧ 5 ≤ (5 : Byte).toNat ∧
    (4 : Byte).toNat < 5 ∧ (250 : Byte).toNat ≤ 250 ∧ 250 < (251 : Byte).toNat :=
  ⟨ready_of _ _ rfl rfl rfl rfl rfl rfl, by decide⟩

/-- A lamp with a trim of 601 steps, one step above its reserve, and a train that feeds. -/
def burning : State :=
  { withCarbon { arc0 with state := .burning, low := false, train := .high 20 80 0 } with pending := [.feedHighPhaseEnd p1] }

theorem test_StepsKeepCarbonSound : burning.CarbonSound where
  account p := by rcases p with ⟨n, d⟩; cases n <;> cases d <;> decide
  ranges p := by rcases p with ⟨n, d⟩; cases n <;> cases d <;> decide
  history p := by rcases p with ⟨n, d⟩; cases n <;> cases d <;> decide
  low _ p := by rcases p with ⟨n, d⟩; cases n <;> cases d <;> decide

/-! ## Shutters -/

theorem test_TriggersDropTheirShutters :
    (withShutter shutterUp).Awake ∧ (withShutter shutterUp).Ready .console ∧
    (withShutter shutterUp).pins.gateHeat.get p1 = false ∧
    ((withShutter shutterUp).shutter (.port p1)).state = .up ∧
    ((withShutter shutterUp).shutter (.port p1)).homeClosed = true ∧
    ((withArc { arc0 with state := .burning }).arc p1).state.lit = true ∧
    (withShutter shutterUp).shutterUnit.fireActive = false ∧ (s0.setFire true).shutterUnit.fireActive = true :=
  ⟨⟨rfl, rfl⟩, ready_of _ _ rfl rfl rfl rfl rfl rfl, by decide⟩

theorem test_ClearLinkTakesItsCause :
    s0.Ready .console ∧ shutterOf 1 = some (.port p1) ∧ shutterOf 12 = some (.observation .s4) ∧
    12 < (13 : Byte).toNat ∧ (s0.shutter (.port p1)).causes.links.get (.port p1) = false :=
  ⟨ready_of _ _ rfl rfl rfl rfl rfl rfl, by decide⟩

theorem test_EndedConditionsClearTheirCause :
    s0.Ready .console ∧ (s0.setButton true).Ready .console ∧ s0.shutterUnit.buttonClosed = false ∧
    (s0.setButton true).shutterUnit.buttonClosed = true ∧
    (s0.setPins { Pins.quiet with gateHeat := .const true }).pins.gateHeat.get p1 = true ∧
    (s0.setFire true).shutterUnit.fireActive = true ∧ s0.shutterUnit.fireActive = false :=
  ⟨ready_of _ _ rfl rfl rfl rfl rfl rfl, ready_of _ _ rfl rfl rfl rfl rfl rfl, by decide⟩

theorem test_RearmRaisesAShutter :
    s0.Ready .console ∧ shutterOf 1 = some (.port p1) ∧ ((withShutter shutterUp).shutter (.port p1)).state ≠ .dropped ∧
    (s0.shutter (.port p1)).state = .dropped ∧ (∀ c, c ≠ .power → (s0.shutter (.port p1)).causes.has c = false) ∧
    ({ Shutter.powerOn true with causes := { CauseSet.empty with fire := true } } : Shutter).causes.has .fire = true ∧
    ((withShutter (Shutter.powerOn false).arm).shutter (.port p1)).state = .arming ∧
    ((withShutter (Shutter.powerOn false).arm).shutter (.port p1)).homeClosed = false ∧
    ((withShutter (Shutter.powerOn false).arm).shutter (.port p1)).armingTimer ≠ none := by
  refine ⟨ready_of _ _ rfl rfl rfl rfl rfl rfl, by decide, by decide, by decide, ?_, by decide⟩
  intro c hc
  cases c with
  | power => exact absurd rfl hc
  | fire => rfl
  | manual => rfl
  | filmBreak p => rcases p with ⟨n, d⟩; cases n <;> cases d <;> rfl
  | heat p => rcases p with ⟨n, d⟩; cases n <;> cases d <;> rfl
  | link i =>
    cases i with
    | port p => rcases p with ⟨n, d⟩; cases n <;> cases d <;> rfl
    | observation n => cases n <;> rfl

/-- Fire is active, every shutter holds it, and a command waits. -/
def onFire : State :=
  { s0.setFire true with
    shutterUnit := ⟨.const { Shutter.powerOn false with causes := { CauseSet.empty with fire := true } }, true, false⟩
    pending := [.fireLoopInactive] }

theorem test_StepsKeepShuttersSound : onFire.ShuttersSound ∧ onFire.FireSound := by
  constructor
  · constructor <;> intro i <;> rcases i with ⟨n, d⟩ | n <;> cases n <;> (try cases d) <;> decide
  · constructor
    · intro _ p; rcases p with ⟨n, d⟩; cases n <;> cases d <;> decide
    · intro _ i; rcases i with ⟨n, d⟩ | n <;> cases n <;> (try cases d) <;> decide

/-! ## House -/

def c1 : ChannelNo := ⟨.s1, .main⟩

def withChannel (c : Channel) : State := s0.setChannel c1 c

theorem test_FadesAndHolds :
    (withChannel ⟨100, some ⟨100, 0, 600, 599, 0⟩, some .fire⟩).Awake ∧ s0.Ready .house ∧ Station.house ≠ .program ∧
    channelOf 1 = some c1 ∧ ((withChannel ⟨100, none, some .fire⟩).channel c1).holder ≠ none ∧
    (s0.channel c1).holder = none ∧ 100 < (101 : Byte).toNat ∧ 6000 < (6001 : Half).toNat ∧ (100 : Byte).toNat ≤ 100 ∧
    (6000 : Half) ≠ 0 ∧ (6000 : Half).toNat ≤ 6000 ∧ (s0.channel c1).fade = none ∧
    ((withChannel ⟨100, some ⟨100, 0, 600, 599, 0⟩, some .fire⟩).channel c1).fade = some ⟨100, 0, 600, 599, 0⟩ ∧
    600 ≤ 599 + 1 ∧ 598 + 1 < 600 ∧ screenOf 1 = some .s1 ∧ 8 < (9 : Byte).toNat ∧ (8 : Byte).toNat ≤ 8 ∧
    standingOf 1 = some .fire ∧ s0.standingClear .fire = true ∧ (s0.setFire true).standingClear .fire = false :=
  ⟨⟨rfl, rfl⟩, ready_of _ _ rfl rfl rfl rfl rfl rfl, by decide⟩

theorem test_FadesAndHolds_marks :
    (readyScreen ⟨.waiting, none, .none⟩).Ready .console ∧ ((readyScreen ⟨.waiting, none, .none⟩).showRec .s1).state ≠ .playing ∧
    (readyScreen ⟨.waiting, none, .none⟩).readiness .s1 = .pass ∧
    ((changeover .single 7).projector p1).runState = .showing ∧ ((changeover .single 7).projector p1).loaded = some 1 ∧
    ((changeover .single 7).screen .s1).showingSide = some p1.side ∧ ((changeover .single 7).showRec .s1).state ≠ .held ∧
    ((changeover .single 7).tracker p1).counter < 65535 ∧ (changeover .single 7).loadedRecord p1 = some reel ∧
    ((changeover .single 7).tracker p1).counter + 1 < reel.pictureEnd ∧ (changeover .single 7).atPictureEnd p1 = false ∧
    (changeover .single 7).shutterUnit.fireActive = false := ⟨ready_of _ _ rfl rfl rfl rfl rfl rfl, by decide⟩

theorem test_FadesAndHolds_no_show_is_held : ∀ m, ((changeover .single 7).showRec m).state ≠ .held := by
  intro m; cases m <;> decide

theorem test_show_start_marks_its_entry :
    (after (.startShow .console 1) ((readyScreen ⟨.waiting, none, .none⟩).setBank .s1 .b0
      { bank1 with role := .current, cues := [cue1] })).house.marks.get .s1 = 1 := by decide

theorem test_CurtainsMoveBetweenLimits :
    s0.Ready .house ∧ screenOf 1 = some .s1 ∧ 3 < (4 : Byte).toNat ∧ (s0.curtain .s1).recorded .openLimit = false ∧
    (s0.curtain .s1).recorded .openLimit ≠ true ∧ (s0.curtain .s1).timer = none ∧
    ((s0.setCurtain .s1 ⟨.opening, some 0, false, true⟩).curtain .s1).timer ≠ none :=
  ⟨ready_of _ _ rfl rfl rfl rfl rfl rfl, by decide⟩

/-! ## Clock, shows, duty list -/

theorem test_ClockCountsSeconds :
    s0.Ready .program ∧ 86399 < (86400 : Long).toNat ∧ (86399 : Long).toNat ≤ 86399 ∧
    (s0.showRec .s1).state = .waiting ∧ ((withShow ⟨.held, none, .none⟩).showRec .s1).state = .held ∧
    s0.clock.pulses + 1 < 50 ∧ (if s0.pins.msel then 60 else 50) ≤ 49 + 1 ∧
    ((withShow ⟨.waiting, some ⟨600, 121, 1, none⟩, .none⟩).showRec .s1).next = some ⟨600, 121, 1, none⟩ ∧
    (withShow ⟨.called, some next0, .none⟩).readiness .s1 ≠ .pass ∧ 1 < next0.start + 600 ∧
    (readyScreen ⟨.called, some next0, .none⟩).readiness .s1 = .pass ∧
    (readyScreen ⟨.called, some next0, .none⟩).header .s1 = bank1.header ∧
    (⟨600, 0, 0, some 1⟩ : NextStart).hold = some 1 :=
  ⟨ready_of _ _ rfl rfl rfl rfl rfl rfl, by decide⟩

theorem test_last_pulse_of_a_group_calls_a_show :
    (after .mainsPulse { withShow ⟨.waiting, some ⟨600, 121, 1, none⟩, .none⟩ with clock := ⟨0, 49, false⟩ }).clock =
      ⟨1, 0, false⟩ ∧
    ((after .mainsPulse { withShow ⟨.waiting, some ⟨600, 121, 1, none⟩, .none⟩ with clock := ⟨0, 49, false⟩ }).showRec .s1).state =
      .called := by decide

theorem test_InstantsCallStartAndHold :
    (withShow ⟨.waiting, some next0, .none⟩).Awake ∧ (s0.showRec .s1).next = none ∧
    ((withShow ⟨.waiting, some next0, .none⟩).showRec .s1) = ⟨.waiting, some next0, .none⟩ ∧
    next0.call ≤ s0.clock.boothSeconds ∧ s0.clock.boothSeconds < (⟨600, 1, 1, none⟩ : NextStart).call ∧
    ((withShow ⟨.called, some next0, .none⟩).showRec .s1).state = .called ∧ next0.start ≤ s0.clock.boothSeconds ∧
    (withShow ⟨.called, some next0, .none⟩).readiness .s1 ≠ .pass ∧
    (readyScreen ⟨.called, some next0, .none⟩).readiness .s1 = .pass ∧
    (readyScreen ⟨.called, some next0, .none⟩).header .s1 = bank1.header ∧
    ((withShow ⟨.held, some { next0 with hold := some 0 }, .none⟩).showRec .s1).next = some ⟨600, 0, 0, some 0⟩ ∧
    s0.clock.boothSeconds < 1 := ⟨⟨rfl, rfl⟩, by decide⟩

/-- Screen 1 PLAYING on a DARK screen with reel 1 ready to resume. -/
def resumable : State :=
  (readyScreen ⟨.playing, none, .none⟩).setScreen .s1 { Screen.blank with currentReel := some 1 }

theorem test_ShowsStartAndStop :
    (readyScreen ⟨.waiting, none, .none⟩).Ready .console ∧ screenOf 1 = some .s1 ∧
    ((readyScreen ⟨.waiting, none, .none⟩).showRec .s1).state ≠ .playing ∧
    (readyScreen ⟨.waiting, none, .none⟩).readiness .s1 = .pass ∧
    (readyScreen ⟨.waiting, none, .none⟩).header .s1 = bank1.header ∧
    (s0.setFire true).shutterUnit.fireActive = true ∧ s0.shutterUnit.fireActive = false ∧ s0.readiness .s1 ≠ .pass ∧
    (s0.showRec .s1).state = .waiting ∧ s0.readinessFails .s1 ≠ [.carbon] ∧
    (resumable.showRec .s1).state = .playing ∧ (resumable.screen .s1).state = .dark ∧
    resumable.shutterUnit.fireActive = false ∧ resumable.resumeHolder .s1 = some (p1, 1) ∧
    resumable.resumeTest p1 1 = .pass ∧ (readyScreen ⟨.playing, none, .none⟩).resumeHolder .s1 = none ∧
    (resumable.setArc p1 arc0).resumeTest p1 1 = .fail .arc ∧
    ((resumable.setScreen .s1 { Screen.blank with state := .final }).screen .s1).state ≠ .dark :=
  ⟨ready_of _ _ rfl rfl rfl rfl rfl rfl, by decide⟩

theorem test_StartListsAreWritten :
    s0.Ready .program ∧ bankOf 0x11 = some (.s1, .current) ∧ bankOf 0x31 = some (.s1, .spare) ∧
    (List.replicate 28 (0 : Half)).length ≤ 28 ∧
    ((withNext { bank1 with state := .clearing }).bankIn .s1 .next).state = .clearing ∧
    (s0.bankIn .s1 .current).state ≠ .clearing ∧ 8 < (List.replicate 9 (0 : Half)).length ∧ 1439 < (1440 : Half).toNat ∧
    ¬ ([(2 : Half), 2].map BitVec.toNat).Pairwise (· < ·) ∧
    ([(0 : Half), 1, 2, 3, 4, 5, 6, 1439].map BitVec.toNat).Pairwise (· < ·) ∧
    [(0 : Half), 1, 2, 3, 4, 5, 6, 1439].length ≤ 8 ∧ (1439 : Half).toNat ≤ 1439 ∧ (s0.showRec .s1).state = .waiting ∧
    ({ s0 with clock := ⟨0, 0, false⟩ } : State).clock.unset = false :=
  ⟨ready_of _ _ rfl rfl rfl rfl rfl rfl, by decide⟩

/-- A full duty list. -/
def fullDuties : List DutyEntry := powerOnDuties ++ allScreens.map fun n => ⟨.thread ⟨n, .a⟩, some 1, 7, false⟩

theorem test_DutiesStandInDueOrder :
    DutySound powerOnDuties ∧ DutySound fullDuties ∧
    (DutyEntry.mk (.thread p1) (some 1) 5 false).key ∉ powerOnDuties.map (·.key) ∧ powerOnDuties.length < 16 ∧
    (DutyEntry.mk (.rearm (.port p1)) none 5 false).key ∈ powerOnDuties.map (·.key) ∧
    fullDuties.length = 16 ∧ (⟨.rearm (.observation .s4), none, 7, false⟩ : DutyEntry).key ∈ fullDuties.map (·.key) := by
  exact ⟨⟨by decide, by decide, by decide⟩, ⟨by decide, by decide, by decide⟩, by decide⟩

/-- Screen 1 PLAYING reel 1, with reel 2 to be threaded on projector 2. -/
def unthreaded : State :=
  { (changeover .single 7).setProjector p2 { Projector.blank with assigned := some 2 } with duty := [] }

theorem test_DutiesStandInDueOrder_needs :
    s0.header .s1 = none ∧ unthreaded.header .s1 = bank2.header ∧ (unthreaded.showRec .s1).state = .playing ∧
    (unthreaded.screen .s1).currentReel = some 1 ∧ unthreaded.reelRecord .s1 1 = some reel ∧
    unthreaded.reelRecord .s1 0 = none ∧ (unthreaded.projector p1).loaded = some (2 - 1) ∧
    (unthreaded.projector p2).loaded ≠ some (2 - 1) ∧
    ((changeover .single 7).setScreen .s1 { screenAt .single with currentReel := some 3 }).reelRecord .s1 3 = none ∧
    ((unthreaded.setProjector p1 Projector.blank).projector p1).loaded ≠ some (2 - 1) ∧
    (readyScreen ⟨.called, some next0, .none⟩).header .s1 = bank1.header ∧
    ((readyScreen ⟨.called, some next0, .none⟩).showRec .s1).next = some next0 ∧
    (readyScreen ⟨.called, some next0, .none⟩).reelRecord .s1 1 = some reel ∧
    (((readyScreen ⟨.called, some next0, .none⟩).setBank .s1 .b0
      { bank1 with role := .current, reels := Vector.replicate 12 none }).reelRecord .s1 1) = none := by decide

/-- Screen 1 PLAYING reel 1, with reel 2 threaded on projector 2 and its lamp off. -/
def threadedNext : State :=
  (((changeover .single 7).setProjector p2 { Projector.blank with runState := .threaded, loaded := some 2 }).setArc p2
    { arc0 with state := .off })

theorem test_DutiesStandInDueOrder_derivation :
    DutySound unthreaded.duty ∧ unthreaded.duty.length ≤ 14 ∧ (unthreaded.projector p2).runState = .empty ∧
    (unthreaded.projector p2).assigned = some 2 ∧ unthreaded.needTime .s1 2 = some 8 ∧
    ((changeover .single 7).projector p2).runState ≠ .empty ∧
    threadedNext.needTime .s1 2 = some 8 ∧ (threadedNext.projector p2).runState = .threaded ∧
    (threadedNext.projector p2).loaded = some 2 ∧ (threadedNext.arc p2).state = .off ∧
    DutySound threadedNext.duty ∧ threadedNext.duty.length ≤ 14 ∧
    (unthreaded.projector p2).runState ≠ .threaded := by
  refine ⟨⟨by decide, by decide, by decide⟩, by decide, by decide, by decide, by decide, by decide, by decide, by decide,
    by decide, by decide, ⟨by decide, by decide, by decide⟩, by decide⟩

theorem test_DutiesStandInDueOrder_commands :
    unthreaded.Awake ∧ (unthreaded.projector p2).assigned ≠ none ∧
    ({ (changeover .single 7).setProjector p1 { Projector.blank with runState := .halted, loaded := some 1 } with
      duty := [] } : State).needTime .s1 1 = some 0 ∧
    ((changeover .single 7).screen .s1).currentReel = some 1 ∧
    ((withCarbon (feeding (.high 20 80 0))).arc p1).train = .high 20 80 0 ∧ (feeding .idle).low = true ∧
    burning.arcStore p1 = { ArcStore.default with remaining := 601, trimLength := 601 } ∧ (burning.arc p1).low = false ∧
    601 - 1 ≤ (burning.arcStore p1).reserve ∧
    ((withShutter (Shutter.powerOn false).arm).shutter (.port p1)).state = .arming ∧ s0.duty.length < 16 :=
  ⟨⟨rfl, rfl⟩, by decide⟩

/-! ## Links, attention, supplies -/

def withLink (l : Link) : State := s0.setLink .console l

def link0 : Link := Link.blank ⟨false, false⟩

theorem test_CharactersMakeFrames :
    (withLink { link0 with state := .inFrame, collection := some ⟨[0xA5], false, 1⟩ }).Awake ∧ link0.awaitMark = false ∧
    link0.parity = .none ∧ link0.collection = none ∧ (56 : Byte).toNat ≤ 56 ∧
    byteSum ((0 : Byte) :: 0x10 :: 1 :: ([] ++ [0xEF])) = 0 ∧ requestFault .console ⟨0x10, 1, []⟩ = none ∧
    byteSum ((0 : Byte) :: 0x10 :: 1 :: ([] ++ [0xEE])) ≠ 0 := ⟨⟨rfl, rfl⟩, by decide⟩

theorem test_CharactersMakeFrames_more :
    ({ link0 with reply := some [0x5A] } : Link).reply = some [0x5A] ∧ s0.pins.rxd.get .console = .mark ∧
    56 < (57 : Byte).toNat ∧ ({ link0 with state := .replying } : Link).state = .replying ∧
    ([0xA5, 1, 0x7D] : List Byte) = 0xA5 :: 1 :: [0x7D] ∧ [(0x7D : Byte)].length + 1 < (1 : Byte).toNat + 3 ∧
    parityError .even 0xA5 true = true ∧ parityError .even 0xA5 false = false ∧
    requestFault .house ⟨0x41, 1, []⟩ = some .denied ∧ (0 : Byte).toNat = ([] : List Byte).length := by decide

theorem test_character_on_the_line :
    Parity.odd.character 0x5A =
      [.space, .space, .mark, .space, .mark, .mark, .space, .mark, .space, .mark, .mark] := by decide

theorem test_LinksReplyAndBreak :
    (withLink { link0 with state := .pending, outstanding := some ⟨0x10, 1, []⟩ }).Awake ∧ screenOf 1 = some .s1 ∧
    ((withLink { link0 with state := .replying }).link .console).state = .replying ∧
    ((withLink link0).link .console).state ≠ .replying ∧ ((withLink link0).link .console).breakTimer = none ∧
    ((withLink { link0 with breakTimer := some 0 }).link .console).breakTimer ≠ none ∧
    s0.pins.rxd.get .console = .mark ∧
    (s0.setPins { Pins.quiet with rxd := .const .space }).pins.rxd.get .console = .space := ⟨⟨rfl, rfl⟩, by decide⟩

theorem test_LinksReplyAndBreak_request :
    encodeRequest (.setLine .console 0 2) = some (.console, ⟨0x7D, 0, [2]⟩) ∧
    (Instr.setLine .console 0 2).wellFormed = true ∧ requestFault .console ⟨0x7D, 0, [2]⟩ = none ∧
    ((withLink { link0 with state := .pending, outstanding := some ⟨0x7D, 0, [2]⟩ }).link .console).outstanding =
      some ⟨0x7D, 0, [2]⟩ ∧ ({ link0 with awaitMark := true } : Link).awaitMark = true := by decide

/-- R105 and R192: the drop button, the last byte of a shutter's data, is OPEN 1 and CLOSED 2. -/
theorem test_drop_button_level :
    (s0.shutterData (.port p1)).getLast? = some 1 ∧ ((s0.setButton true).shutterData (.port p1)).getLast? = some 2 := by
  decide

theorem test_StationsServeThemselves :
    s0.Ready .program ∧ 5 < (6 : Byte).toNat ∧ (1 : Byte) ≠ 0 ∧ 512 ≤ (512 : Half).toNat ∧ (511 : Half).toNat < 512 :=
  ⟨ready_of _ _ rfl rfl rfl rfl rfl rfl, by decide⟩

theorem test_CausesAreOffered :
    AttnCause.fireActive.cls = .fire ∧ (AttnCause.gap .house).cls ≠ .fire ∧ (AttnCause.gap .house).cls ≠ .filmBreak ∧
    (s0.attn .console).armed.get .link = false ∧ (s0.attn .console).pending.get .fire = none ∧
    (((s0.offer .fireActive).attn .console).pending.get .fire) = some ⟨1, .fireActive⟩ ∧ s0.work = .empty ∧
    ((s0.attn .console).arm fun _ => true).armed.get .link = true := by decide

theorem test_AttentionLinesFollowPendingSets :
    (s0.offer (.gap .house)).attn .console = s0.attn .console ∧ (s0.offer .fireActive).attn .console ≠ s0.attn .console ∧
    Station.house ≠ .console := by decide

theorem test_SuppliesComeAndGo :
    s0.retained.markerValid = true ∧
    ({ s0 with retained := { s0.retained with markerValid := false } } : State).retained.markerValid = false ∧
    s0.pins = .quiet ∧ s0.powered = true ∧ s0.powerLost.powered = false := by decide

theorem test_OtherCommandsLeaveThemAlone :
    (Instr.mainsPulse).writesBanks = false ∧ (Instr.mainsPulse).writesShutters = false ∧
    (Instr.bellCadence).writesSettings = false ∧ encodeRequest .bellCadence = none ∧
    encodeRequest (.silence .console 0) = some (.console, ⟨0x33, 0, []⟩) := by decide

/-- Sound records that are not those of reset: a screen in ARMED, a curtain that opens, a request that is pending, an entry in
an attention record, and a command that waits. -/
def busy : State :=
  { ((withScreen armedScreen).setCurtain .s1 ⟨.opening, some 7, false, true⟩).setLink .console
      { link0 with state := .pending, outstanding := some ⟨0x10, 1, []⟩ } with
    attention := .const ⟨(ByClass.const none).set .arc (some ⟨255, .lit p1⟩), (ByClass.const false).set .link true⟩
    pending := [.readBanks .console 1] }

theorem test_StepsKeepRecordsSound :
    (∀ n, (busy.screen n).Sound) ∧ (∀ n, (busy.curtain n).Sound) ∧ (∀ st, (busy.link st).Sound) ∧
    (∀ st, (busy.attn st).Sound) ∧ busy.BellSound ∧ DutySound busy.duty := by
  refine ⟨?_, ?_, ?_, ?_, ?_, ?_⟩
  · intro n; cases n <;> constructor <;> decide
  · intro n; cases n <;> (unfold Curtain.Sound; decide)
  · intro st; cases st <;> constructor <;> decide
  · intro st
    have h : busy.attn st = ⟨(ByClass.const none).set .arc (some ⟨255, .lit p1⟩), (ByClass.const false).set .link true⟩ := by
      cases st <;> rfl
    rw [h]
    constructor
    · intro c; cases c <;> decide
    · intro c e he
      cases c <;> simp [ByClass.get, ByClass.set, ByClass.const] at he
      subst he
      decide
  · constructor
    · intro n; cases n <;> decide
    · intro n; cases n <;> decide
    · decide
    · decide
  · exact ⟨by decide, by decide, by decide⟩

end Sys2Proof.Tests
end

section
/-! What the operations leave of the banks, the clear queue, the rotation-pending flags and the main power: the part of the
state that `State.BanksSound` reads. The commands outside `Instr.writesBanks` leave all of it. -/

namespace Sys2Proof.Machine

/-! ## The part that BanksSound reads -/

/-- The banks and the main power of what `Calm` gathers. -/
def Calm.bankPart (c : Calm) : BankView × Bool := (c.banks, c.fixed.powered)

/-- The banks, the clear queue, the rotation-pending flags and the main power. -/
def State.bankPart (s : State) : BankView × Bool := s.calm.bankPart

theorem State.bankPart_of_calm {s t : State} (h : t.calm = s.calm) : t.bankPart = s.bankPart :=
  congrArg Calm.bankPart h

theorem State.bankPart_iff {s t : State} :
    t.bankPart = s.bankPart ↔ t.bankView = s.bankView ∧ t.powered = s.powered := Prod.mk_inj

theorem State.bank_congr {s t : State} (h : t.bankView = s.bankView) (n : ScreenNo) (b : BankNo) :
    t.bank n b = s.bank n b :=
  congrArg (fun v : BankView => (v.banks.get n).get b) h

theorem State.bankNo_congr {s t : State} (h : t.bankView = s.bankView) (n : ScreenNo) (r : Role) :
    t.bankNo n r = s.bankNo n r := by
  simp only [State.bankNo, State.bank_congr h]

theorem State.bankIn_congr {s t : State} (h : t.bankView = s.bankView) (n : ScreenNo) (r : Role) :
    t.bankIn n r = s.bankIn n r := by
  simp only [State.bankIn, State.bankNo_congr h, State.bank_congr h]

theorem State.bankUnit_congr {s t : State} (h : t.bankView = s.bankView) : t.bankUnit = s.bankUnit :=
  congrArg BankView.unit h

/-- `BanksSound` reads no more than `State.bankPart`. -/
theorem State.BanksSound.congr {s t : State} (hs : s.BanksSound) (h : t.bankPart = s.bankPart) : t.BanksSound := by
  obtain ⟨hv, hp⟩ := State.bankPart_iff.mp h
  have hb := State.bank_congr hv
  have hu := State.bankUnit_congr hv
  obtain ⟨roles, spare, queued, once, clearing⟩ := hs
  constructor <;> simp only [hb, hu, hp] <;> assumption

/-! ## Operations -/

variable (s : State)

@[simp] theorem State.setLink_bankPart (st : Station) (r : Link) : (s.setLink st r).bankPart = s.bankPart := rfl
@[simp] theorem State.setAttn_bankPart (st : Station) (r : Attention) : (s.setAttn st r).bankPart = s.bankPart := rfl
@[simp] theorem State.setPins_bankPart (p : Pins) : (s.setPins p).bankPart = s.bankPart := rfl
@[simp] theorem State.begin_bankPart : s.begin.bankPart = s.bankPart := rfl
@[simp] theorem State.post_bankPart (b : Block) (c : AttnCause) : (s.post b c).bankPart = s.bankPart := rfl
@[simp] theorem State.tellDuty_bankPart (d : DutyNotice) : (s.tellDuty d).bankPart = s.bankPart := rfl
@[simp] theorem State.setShutter_bankPart (i : ShutterNo) (r : Shutter) : (s.setShutter i r).bankPart = s.bankPart := rfl
@[simp] theorem State.clearCause_bankPart (k : DropCause) : (s.clearCause k).bankPart = s.bankPart := rfl
@[simp] theorem State.reply_bankPart (st : Station) (r : Request) (a : Answer) : (s.reply st r a).bankPart = s.bankPart :=
  rfl

theorem State.powered_congr {s t : State} (h : t.fixed = s.fixed) : t.powered = s.powered := congrArg Fixed.powered h

@[simp] theorem State.settle_bankPart : s.settle.bankPart = s.bankPart :=
  State.bankPart_iff.mpr ⟨s.settle_bankView, State.powered_congr s.settle_fixed⟩

@[simp] theorem State.triggerAfter_bankPart (k : TriggerKey) (first : Option ProjNo) :
    (s.triggerAfter k first).bankPart = s.bankPart :=
  (State.bankPart_of_calm (s := s.addCauses k) (s.triggerAfter_calm k first)).trans rfl

@[simp] theorem State.trigger_bankPart (k : TriggerKey) : (s.trigger k).bankPart = s.bankPart :=
  s.triggerAfter_bankPart k none

@[simp] theorem State.breakHalt_bankPart (p : ProjNo) : (s.breakHalt p).bankPart = s.bankPart := by
  unfold State.breakHalt
  split
  · exact (State.triggerAfter_bankPart _ _ _).trans (State.bankPart_of_calm (by simp))
  · rfl

@[simp] theorem State.fireOn_bankPart : s.fireOn.bankPart = s.bankPart := by
  have hf := fun t => foldl_keeps State.calm State.fireOut (fun t p => State.fireOut_calm t p) allProjectors t
  refine (State.bankPart_of_calm (s := (s.setFire true).trigger .fire) ?_).trans (State.trigger_bankPart (s.setFire true) _)
  simp [State.fireOn, hf]

@[simp] theorem State.fireOff_bankPart : s.fireOff.bankPart = s.bankPart :=
  State.bankPart_of_calm (s := (s.setFire false).clearCause .fire) (by simp [State.fireOff])

@[simp] theorem State.linkFallen_bankPart (i : ShutterNo) : (s.linkFallen i).bankPart = s.bankPart :=
  (State.bankPart_of_calm (foldl_keeps State.calm _ (fun t p => State.linkOut_calm t p i) _ _)).trans
    (s.trigger_bankPart _)

@[simp] theorem State.cameUp_bankPart (i : ShutterNo) : (s.cameUp i).bankPart = s.bankPart := by
  cases i with
  | port p => exact State.bankPart_of_calm (by simp [State.cameUp])
  | observation n => rfl

@[simp] theorem State.homeChange_bankPart (i : ShutterNo) (closed : Bool) : (s.homeChange i closed).bankPart =
    s.bankPart := by
  unfold State.homeChange
  dsimp only
  split <;> simp

@[simp] theorem State.rotateProjector_bankPart (p : ProjNo) : (s.rotateProjector p).bankPart = s.bankPart := by
  have h1 : (s.endShowing p).bankPart = s.bankPart := State.bankPart_of_calm (s.endShowing_calm p)
  have h2 : ∀ (t : State) (r : Option Nat), ((t.becomeEmpty p r).noteRunState p.screen).bankPart = t.bankPart :=
    fun t r => State.bankPart_of_calm (by simp)
  unfold State.rotateProjector
  dsimp only
  split <;> simp [h1, h2]

/-- A character changes the link it comes on. -/
@[simp] theorem State.receive_bankPart (st : Station) (data : Byte) (bit : Bool) (stopBit : LineLevel) :
    (s.receive st data bit stopBit).bankPart = s.bankPart := by
  unfold State.receive
  dsimp only
  split
  · unfold State.hunt
    split <;> rfl
  · have hc : ∀ (t : State) (c : Collection), (t.completeFrame st c).bankPart = t.bankPart := by
      intro t c
      unfold State.completeFrame
      dsimp only
      split <;> [skip; split] <;> rfl
    have ho : ∀ t : State, (t.overLength st).bankPart = t.bankPart := by
      intro t
      unfold State.overLength
      dsimp only
      split <;> rfl
    unfold State.collect
    dsimp only
    split <;> (try split) <;> simp [hc, ho]

@[simp] theorem State.oneSecond_bankPart : s.oneSecond.bankPart = s.bankPart := by
  have hm : ∀ u : State, u.markOverdue.bankPart = u.bankPart := by
    intro u
    unfold State.markOverdue
    dsimp only
    rw [foldl_keeps State.bankPart (fun (t : State) (e : DutyEntry) => t.post .dutyUnit (.overdue e.key)) fun _ _ => rfl]
    rfl
  exact (State.bankPart_of_calm (foldl_keeps State.calm _ State.checkInstants_calm _ _)).trans (hm _)

/-! ## The shapes of a command -/

variable {s} {t : State}

theorem event_bankPart {body : State → State} (h : event body s = .next t)
    (hb : ∀ u : State, (body u).bankPart = u.bankPart) : t.bankPart = s.bankPart := by
  unfold event at h
  cases h
  split <;> simp [hb]

theorem pinEvent_bankPart {level : Pins → Pins} {body : State → State} (h : pinEvent level body s = .next t)
    (hb : ∀ u : State, (body u).bankPart = u.bankPart) : t.bankPart = s.bankPart := by
  unfold pinEvent at h
  cases h
  split <;> simp [hb]

theorem State.serveRequest_bankPart {st : Station} {r : Request} {body : State → State × Answer}
    (hb : ∀ u : State, (body u).1.bankPart = u.bankPart) (u : State) :
    (State.serveRequest st r body u).bankPart = u.bankPart := by
  have ht : (u.take st r body).bankPart = u.bankPart := hb u
  have ha : (u.arrive st r body).bankPart = u.bankPart := by
    unfold State.arrive
    split
    · rfl
    · split
      · rfl
      · exact ht
  unfold State.serveRequest
  dsimp only
  split
  · exact ht
  · split
    · rfl
    · split
      · rfl
      · exact ha

theorem serve_bankPart {c : Instr} {body : State → State × Answer} (h : serve c body s = .next t)
    (hb : ∀ u : State, (body u).1.bankPart = u.bankPart) : t.bankPart = s.bankPart := by
  unfold serve at h
  split at h
  · exact event_bankPart h (State.serveRequest_bankPart hb)
  · cases h; rfl

/-- A request that its target byte has named. -/
theorem withTarget_bankPart {α : Type} {name : Option α} {body : α → State → State × Answer}
    (hb : ∀ x (u : State), (body x u).1.bankPart = u.bankPart) (u : State) :
    (withTarget name body u).1.bankPart = u.bankPart := by
  unfold withTarget
  split
  · rfl
  · exact hb _ u

end Sys2Proof.Machine
end

section
/-! What the commands outside `Instr.writesBanks` leave alone: the banks, the clear queue, the rotation-pending flags and
the main power. -/

namespace Sys2Proof.Machine

variable (s : State)

/-! ## Trackers -/

@[simp] theorem State.atSpeedNotice_calm (p : ProjNo) : (s.atSpeedNotice p).calm = s.calm := by
  unfold State.atSpeedNotice
  split <;> simp

@[simp] theorem State.leadInCheck_calm (p : ProjNo) (c : Nat) : (s.leadInCheck p c).calm = s.calm := by
  unfold State.leadInCheck
  split <;> simp

@[simp] theorem State.cueNotice_calm (p : ProjNo) (k : CueKind) (v : CueStatus) : (s.cueNotice p k v).calm = s.calm := by
  unfold State.cueNotice
  split
  · split <;> simp
  · rfl

@[simp] theorem State.settleCue_calm (p : ProjNo) (x : CueContext) (k : CueKind) (v : CueStatus) :
    (s.settleCue p x k v).calm = s.calm := by simp [State.settleCue]

@[simp] theorem State.cueCheck_calm (p : ProjNo) (c : Nat) (k : CueKind) : (s.cueCheck p c k).calm = s.calm := by
  unfold State.cueCheck
  (repeat' split) <;> simp

@[simp] theorem State.anchorCheck_calm (p : ProjNo) (c : Nat) : (s.anchorCheck p c).calm = s.calm := by
  unfold State.anchorCheck
  split <;> simp

@[simp] theorem State.limitCheck_calm (p : ProjNo) (c : Nat) : (s.limitCheck p c).calm = s.calm := by
  unfold State.limitCheck
  split
  · split <;> simp
  · rfl

@[simp] theorem State.fallbackCue_calm (p : ProjNo) (r : Reel) (k : CueKind) : (s.fallbackCue p r k).calm = s.calm := by
  unfold State.fallbackCue
  split
  · split <;> simp
  · rfl

@[simp] theorem State.cueMark_calm (p : ProjNo) : (s.cueMark p).calm = s.calm := by
  unfold State.cueMark State.stray
  (repeat' split) <;> simp

@[simp] theorem State.startFailure_calm (p : ProjNo) : (s.startFailure p).calm = s.calm := by
  unfold State.startFailure
  dsimp only
  (repeat' split) <;> simp

@[simp] theorem State.stallExpiry_calm (p : ProjNo) : (s.stallExpiry p).calm = s.calm := by
  unfold State.stallExpiry
  split <;> simp

/-! ## Projectors and screens -/

@[simp] theorem clearProjector_bankPart (p : ProjNo) : (clearProjector p s).1.bankPart = s.bankPart := by
  unfold clearProjector
  split
  · exact State.bankPart_of_calm (by simp)
  · have he := State.bankPart_of_calm (s.becomeEmpty_calm p (s.clearedReel p))
    have hn : ∀ u : State, ((u.noteRunState p.screen).tellDuty (.projector p)).bankPart = u.bankPart := fun _ => rfl
    exact (hn _).trans ((State.clearCause_bankPart _ _).trans he)
  · rfl

@[simp] theorem State.threadedClose_bankPart (p : ProjNo) : (s.threadedClose p).bankPart = s.bankPart := by
  unfold State.threadedClose
  split
  · exact State.bankPart_of_calm (by simp [State.thread, State.threadedNotice])
  · rfl
  · rfl

@[simp] theorem State.loopLost_bankPart (p : ProjNo) : (s.loopLost p).bankPart = s.bankPart := by
  unfold State.loopLost
  split
  · split
    · split <;> exact State.bankPart_of_calm (by simp)
    · simp
  · rfl

@[simp] theorem State.douserCloses_calm (p : ProjNo) : (s.douserCloses p).calm = s.calm := by
  unfold State.douserCloses
  split <;> simp

@[simp] theorem State.confirmExpiry_calm (n : ScreenNo) : (s.confirmExpiry n).calm = s.calm := by
  unfold State.confirmExpiry
  dsimp only
  (repeat' split) <;> simp

@[simp] theorem State.watchExpiry_calm (n : ScreenNo) : (s.watchExpiry n).calm = s.calm := by
  unfold State.watchExpiry
  split <;> simp

@[simp] theorem changeNow_calm (n : ScreenNo) : (changeNow n s).1.calm = s.calm := by
  unfold changeNow
  dsimp only
  (repeat' split) <;> simp [refuse]

/-! ## Arcs -/

@[simp] theorem strike_calm (p : ProjNo) : (strike p s).1.calm = s.calm := by
  unfold strike
  (repeat' split) <;> simp [refuse]

@[simp] theorem State.touchExpiry_calm (p : ProjNo) : (s.touchExpiry p).calm = s.calm := by
  unfold State.touchExpiry
  (repeat' split) <;> simp

@[simp] theorem State.proofExpiry_calm (p : ProjNo) : (s.proofExpiry p).calm = s.calm := by
  unfold State.proofExpiry State.strikeFails
  (repeat' split) <;> simp

@[simp] theorem State.pauseExpiry_calm (p : ProjNo) : (s.pauseExpiry p).calm = s.calm := by
  unfold State.pauseExpiry
  split <;> simp

@[simp] theorem State.arcReported_calm (p : ProjNo) : (s.arcReported p).calm = s.calm := by
  unfold State.arcReported
  (repeat' split) <;> simp

@[simp] theorem State.arcCeased_calm (p : ProjNo) : (s.arcCeased p).calm = s.calm := by
  unfold State.arcCeased
  split <;> simp

@[simp] theorem State.lossExpiry_calm (p : ProjNo) : (s.lossExpiry p).calm = s.calm := by
  unfold State.lossExpiry State.arcLost
  split <;> simp

@[simp] theorem extinguish_calm (p : ProjNo) : (extinguish p s).1.calm = s.calm := by
  unfold extinguish
  split <;> simp

@[simp] theorem State.craterChange_calm (p : ProjNo) : (s.craterChange p).calm = s.calm := by
  unfold State.craterChange
  split <;> simp

@[simp] theorem State.highEnd_calm (p : ProjNo) : (s.highEnd p).calm = s.calm := by
  unfold State.highEnd
  split <;> simp

@[simp] theorem State.lowEnd_calm (p : ProjNo) : (s.lowEnd p).calm = s.calm := by
  unfold State.lowEnd
  (repeat' split) <;> simp

@[simp] theorem retrimDone_calm (trim : Half) (p : ProjNo) : (retrimDone trim p s).1.calm = s.calm := by
  unfold retrimDone
  dsimp only
  (repeat' split) <;> simp [refuse]

@[simp] theorem setArcSettings_calm (reserve rate : Half) (high low : Byte) (p : ProjNo) :
    (setArcSettings reserve rate high low p s).1.calm = s.calm := by
  unfold setArcSettings
  split <;> simp [refuse]

/-! ## Shutters -/

@[simp] theorem State.loopActive_bankPart : s.loopActive.bankPart = s.bankPart := by
  unfold State.loopActive
  split <;> simp

@[simp] theorem State.loopInactive_bankPart : s.loopInactive.bankPart = s.bankPart := by
  unfold State.loopInactive
  split <;> simp

@[simp] theorem State.heatChange_bankPart (p : ProjNo) (a : Bool) : (s.heatChange p a).bankPart = s.bankPart := by
  unfold State.heatChange
  split <;> simp

@[simp] theorem releaseManual_bankPart (u : Unit) : (releaseManual u s).1.bankPart = s.bankPart := by
  unfold releaseManual
  split <;> rfl

@[simp] theorem rearm_bankPart (i : ShutterNo) : (rearm i s).1.bankPart = s.bankPart := by
  unfold rearm
  dsimp only
  split <;> [skip; split] <;> rfl

@[simp] theorem State.armingExpiry_bankPart (i : ShutterNo) : (s.armingExpiry i).bankPart = s.bankPart := by
  unfold State.armingExpiry
  dsimp only
  split <;> rfl

@[simp] theorem setDropMap_bankPart (mask : Half) (k : TriggerKey) : (setDropMap mask k s).1.bankPart = s.bankPart := by
  unfold setDropMap
  split <;> rfl

/-! ## House lights -/

@[simp] theorem setLevel_calm (level : Byte) (fade : Half) (c : ChannelNo) : (setLevel level fade c s).1.calm = s.calm := by
  unfold setLevel
  (repeat' split) <;> simp [refuse]

@[simp] theorem recallScene_calm (scene : Byte) (fade : Half) (n : ScreenNo) :
    (recallScene scene fade n s).1.calm = s.calm := by
  unfold recallScene
  split <;> simp [refuse]

@[simp] theorem moveCurtain_calm (action : Byte) (n : ScreenNo) : (moveCurtain action n s).1.calm = s.calm := by
  unfold moveCurtain
  split <;> simp [refuse]

@[simp] theorem State.travelExpiry_calm (n : ScreenNo) : (s.travelExpiry n).calm = s.calm := by
  unfold State.travelExpiry
  split <;> simp

@[simp] theorem releaseHold_calm (k : StandingKey) : (releaseHold k s).1.calm = s.calm := by
  unfold releaseHold
  split <;> rfl

@[simp] theorem setScene_bankPart (scene : Byte) (v : Option Levels) (n : ScreenNo) :
    (setScene scene v n s).1.bankPart = s.bankPart := by
  unfold setScene
  split <;> rfl

@[simp] theorem setCurtainTime_bankPart (seconds : Byte) (n : ScreenNo) :
    (setCurtainTime seconds n s).1.bankPart = s.bankPart := by
  unfold setCurtainTime
  split <;> rfl

@[simp] theorem setStanding_bankPart (e : Option StandingEntry) (k : StandingKey) :
    (setStanding e k s).1.bankPart = s.bankPart := by
  unfold setStanding
  split <;> [skip; split] <;> rfl

/-! ## Shows -/

@[simp] theorem startRequest_calm (n : ScreenNo) : (startRequest n s).1.calm = s.calm := by
  unfold startRequest resumeShow startNow
  (repeat' split) <;> simp [refuse]

@[simp] theorem stopRequest_calm (n : ScreenNo) : (stopRequest n s).1.calm = s.calm := by
  unfold stopRequest
  split <;> simp [refuse]

@[simp] theorem State.mainsPulse_bankPart : s.mainsPulse.bankPart = s.bankPart := by
  unfold State.mainsPulse
  split
  · exact s.oneSecond_bankPart
  · rfl

@[simp] theorem setClock_bankPart (time : Long) (u : Unit) : (setClock time u s).1.bankPart = s.bankPart := by
  unfold setClock
  split
  · rfl
  next d _ =>
    have ha := fun u => foldl_keeps State.calm State.armNext State.armNext_calm allScreens u
    have hn : ∀ u : State, u.clockNotice.calm = u.calm := fun u => by
      simp [State.clockNotice, allScreens]
    have hb : ∀ u : State, (allScreens.foldl State.armNext u).clockNotice.bankPart = u.bankPart :=
      fun u => State.bankPart_of_calm ((hn _).trans (ha u))
    dsimp only
    rw [hb]
    rfl

/-! ## Links -/

@[simp] theorem State.character_bankPart (st : Station) (old : LineLevel) (data : Byte) (bit : Bool) (stopBit : LineLevel) :
    (s.character st old data bit stopBit).bankPart = s.bankPart := by
  unfold State.character
  dsimp only
  split <;> simp

@[simp] theorem State.gapExpiry_bankPart (st : Station) : (s.gapExpiry st).bankPart = s.bankPart := by
  unfold State.gapExpiry
  dsimp only
  split <;> rfl

@[simp] theorem State.lineBreak_bankPart (st : Station) : (s.lineBreak st).bankPart = s.bankPart := by
  unfold State.lineBreak
  split <;> rfl

@[simp] theorem readItem_bankPart (sel i : Byte) (x : ScreenNo × Role) : (readItem sel i x s).1.bankPart = s.bankPart := by
  unfold readItem
  dsimp only
  (repeat' split) <;> rfl

@[simp] theorem readScene_bankPart (i : Byte) (n : ScreenNo) : (readScene i n s).1.bankPart = s.bankPart := by
  unfold readScene
  split <;> rfl

@[simp] theorem readDuty_bankPart (i : Byte) : (readDuty i s).1.bankPart = s.bankPart := by
  unfold readDuty
  split <;> [skip; split] <;> rfl

@[simp] theorem setCuePolicy_bankPart (policy window : Byte) (n : ScreenNo) :
    (setCuePolicy policy window n s).1.bankPart = s.bankPart := by
  unfold setCuePolicy
  split <;> rfl

@[simp] theorem setMonitor_bankPart (sel : Byte) (u : Unit) : (setMonitor sel u s).1.bankPart = s.bankPart := by
  unfold setMonitor
  split <;> rfl

@[simp] theorem setLine_bankPart (st : Station) (mode : Byte) (u : Unit) : (setLine st mode u s).1.bankPart =
    s.bankPart := by
  unfold setLine
  split <;> rfl

@[simp] theorem readStatus_bankPart (st : Station) (u : Unit) : (readStatus st u s).1.bankPart = s.bankPart := by
  unfold readStatus
  dsimp only
  split <;> rfl

@[simp] theorem armAttention_bankPart (st : Station) (classes : Half) (u : Unit) :
    (armAttention st classes u s).1.bankPart = s.bankPart := by
  unfold armAttention
  split <;> rfl

@[simp] theorem State.standbyLost_bankPart : s.standbyLost.bankPart = s.bankPart := by
  unfold State.standbyLost
  split <;> rfl

/-! ## Every command outside `Instr.writesBanks` -/

variable {s} {t : State}

/-- An event whose body keeps all that `State.calm` gathers. -/
theorem event_bankPart_of_calm {body : State → State} (h : event body s = .next t)
    (hb : ∀ u : State, (body u).calm = u.calm) : t.bankPart = s.bankPart :=
  event_bankPart h (fun u => State.bankPart_of_calm (hb u))

theorem pinEvent_bankPart_of_calm {level : Pins → Pins} {body : State → State} (h : pinEvent level body s = .next t)
    (hb : ∀ u : State, (body u).calm = u.calm) : t.bankPart = s.bankPart :=
  pinEvent_bankPart h (fun u => State.bankPart_of_calm (hb u))

/-- A request with a target byte. -/
theorem request_bankPart {α : Type} {c : Instr} {name : Option α} {body : α → State → State × Answer}
    (h : serve c (withTarget name body) s = .next t)
    (hb : ∀ x (u : State), (body x u).1.bankPart = u.bankPart) : t.bankPart = s.bankPart :=
  serve_bankPart h (withTarget_bankPart hb)

theorem request_bankPart_of_calm {α : Type} {c : Instr} {name : Option α} {body : α → State → State × Answer}
    (h : serve c (withTarget name body) s = .next t)
    (hb : ∀ x (u : State), (body x u).1.calm = u.calm) : t.bankPart = s.bankPart :=
  request_bankPart h (fun x u => State.bankPart_of_calm (hb x u))

/-- A command outside `Instr.writesBanks` leaves the banks, the clear queue, the rotation-pending flags and the main power.
-/
theorem exec_bankPart {c : Instr} (hc : c.writesBanks = false) (h : exec c s = .next t) : t.bankPart = s.bankPart := by
  cases c with
  | powerOnReset | writeHeader | writeReel | writeCue | deleteCue | commitBank | reopenBank | rotate | clearComplete
  | setStarts | sprocketPulse | douserOpenSwitchClose | mainPowerLoss => exact absurd hc (by simp [Instr.writesBanks])
  | readBanks => exact request_bankPart (show execReadBanks _ _ s = _ from h) fun _ _ => rfl
  | readProjector => exact request_bankPart (show execReadProjector _ _ s = _ from h) fun _ _ => rfl
  | readTracker => exact request_bankPart (show execReadTracker _ _ s = _ from h) fun _ _ => rfl
  | readScreen => exact request_bankPart (show execReadScreen _ _ s = _ from h) fun _ _ => rfl
  | readArc => exact request_bankPart (show execReadArc _ _ s = _ from h) fun _ _ => rfl
  | readShutter => exact request_bankPart (show execReadShutter _ _ s = _ from h) fun _ _ => rfl
  | readDropMap => exact request_bankPart (show execReadDropMap _ _ s = _ from h) fun _ _ => rfl
  | readHouse => exact request_bankPart (show execReadHouse _ _ s = _ from h) fun _ _ => rfl
  | readStanding => exact request_bankPart (show execReadStanding _ _ s = _ from h) fun _ _ => rfl
  | readShow => exact request_bankPart (show execReadShow _ _ s = _ from h) fun _ _ => rfl
  | readBankItem => exact request_bankPart (show execReadBankItem _ _ _ _ s = _ from h) fun _ u => readItem_bankPart u _ _ _
  | clearProjector =>
      exact request_bankPart (show execClearProjector _ _ s = _ from h) fun _ u => clearProjector_bankPart u _
  | stopProjector =>
      exact request_bankPart_of_calm (show execStopProjector _ _ s = _ from h) fun p u => u.haltEvent_calm p .stop
  | threadedSwitchClose p =>
      exact event_bankPart (show execThreadedSwitchClose _ s = _ from h) fun u => u.threadedClose_bankPart p
  | loopLost p => exact event_bankPart (show execLoopLost _ s = _ from h) fun u => u.loopLost_bankPart p
  | douserClosedSwitchClose p =>
      exact event_bankPart_of_calm (show execDouserClosedSwitchClose _ s = _ from h) fun u => u.douserCloses_calm p
  | cueMarkPulse p => exact event_bankPart_of_calm (show execCueMarkPulse _ s = _ from h) fun u => u.cueMark_calm p
  | startFailureTimerExpiry p =>
      exact event_bankPart_of_calm (show execStartFailureTimerExpiry _ s = _ from h) fun u => u.startFailure_calm p
  | stallTimerExpiry p =>
      exact event_bankPart_of_calm (show execStallTimerExpiry _ s = _ from h) fun u => u.stallExpiry_calm p
  | setCuePolicy =>
      exact request_bankPart (show execSetCuePolicy _ _ _ _ s = _ from h) fun _ u => setCuePolicy_bankPart u _ _ _
  | confirmationTimerExpiry n =>
      exact event_bankPart_of_calm (show execConfirmationTimerExpiry _ s = _ from h) fun u => u.confirmExpiry_calm n
  | closeWatchExpiry n =>
      exact event_bankPart_of_calm (show execCloseWatchExpiry _ s = _ from h) fun u => u.watchExpiry_calm n
  | changeNow => exact request_bankPart_of_calm (show execChangeNow _ _ s = _ from h) fun n u => changeNow_calm u n
  | setMonitor => exact request_bankPart (show execSetMonitor _ _ _ s = _ from h) fun _ u => setMonitor_bankPart u _ _
  | silence => exact request_bankPart_of_calm (show execSilence _ _ s = _ from h) fun _ u => u.setBell_calm _
  | bellCadence => exact event_bankPart_of_calm (show execBellCadence s = _ from h) fun u => u.setBell_calm _
  | strike => exact request_bankPart_of_calm (show execStrike _ _ s = _ from h) fun p u => strike_calm u p
  | touchTimerExpiry p =>
      exact event_bankPart_of_calm (show execTouchTimerExpiry _ s = _ from h) fun u => u.touchExpiry_calm p
  | proofTimerExpiry p =>
      exact event_bankPart_of_calm (show execProofTimerExpiry _ s = _ from h) fun u => u.proofExpiry_calm p
  | pauseTimerExpiry p =>
      exact event_bankPart_of_calm (show execPauseTimerExpiry _ s = _ from h) fun u => u.pauseExpiry_calm p
  | arcPresentReport p =>
      exact pinEvent_bankPart_of_calm (show execArcPresentReport _ s = _ from h) fun u => u.arcReported_calm p
  | arcReportCeases p =>
      exact pinEvent_bankPart_of_calm (show execArcReportCeases _ s = _ from h) fun u => u.arcCeased_calm p
  | lossTimerExpiry p => exact event_bankPart_of_calm (show execLossTimerExpiry _ s = _ from h) fun u => u.lossExpiry_calm p
  | extinguish => exact request_bankPart_of_calm (show execExtinguish _ _ s = _ from h) fun p u => extinguish_calm u p
  | craterContactChange p =>
      exact pinEvent_bankPart_of_calm (show execCraterContactChange _ _ _ s = _ from h) fun u => u.craterChange_calm p
  | feedHighPhaseEnd p => exact event_bankPart_of_calm (show execFeedHighPhaseEnd _ s = _ from h) fun u => u.highEnd_calm p
  | feedLowPhaseEnd p => exact event_bankPart_of_calm (show execFeedLowPhaseEnd _ s = _ from h) fun u => u.lowEnd_calm p
  | retrimDone => exact request_bankPart_of_calm (show execRetrimDone _ _ _ s = _ from h) fun p u => retrimDone_calm u _ p
  | setArc =>
      exact request_bankPart_of_calm (show execSetArc _ _ _ _ _ _ s = _ from h) fun p u => setArcSettings_calm u _ _ _ _ p
  | setDropMap => exact request_bankPart (show execSetDropMap _ _ _ s = _ from h) fun _ u => setDropMap_bankPart u _ _
  | fireLoopActive => exact pinEvent_bankPart (show execFireLoopActive s = _ from h) fun u => u.loopActive_bankPart
  | fireLoopInactive => exact pinEvent_bankPart (show execFireLoopInactive s = _ from h) fun u => u.loopInactive_bankPart
  | dropButtonClose =>
      exact pinEvent_bankPart (show execDropButtonClose s = _ from h) fun u => (u.setButton true).trigger_bankPart .manual
  | dropButtonOpen => exact pinEvent_bankPart (show execDropButtonOpen s = _ from h) fun _ => rfl
  | dropAll => exact request_bankPart (show execDropAll _ _ s = _ from h) fun _ u => u.trigger_bankPart .manual
  | releaseManual => exact request_bankPart (show execReleaseManual _ _ s = _ from h) fun _ u => releaseManual_bankPart u _
  | gateHeatChange p active =>
    refine pinEvent_bankPart (show execGateHeatChange _ _ s = _ from h) fun u => ?_
    split <;> simp
  | homeSwitchChange i closed =>
    refine pinEvent_bankPart (show execHomeSwitchChange _ _ s = _ from h) fun u => ?_
    split <;> simp
  | clearLink => exact request_bankPart (show execClearLink _ _ s = _ from h) fun _ _ => rfl
  | rearm => exact request_bankPart (show execRearm _ _ s = _ from h) fun _ u => rearm_bankPart u _
  | armingTimerExpiry i =>
      exact event_bankPart (show execArmingTimerExpiry _ s = _ from h) fun u => u.armingExpiry_bankPart i
  | setLevel => exact request_bankPart_of_calm (show execSetLevel _ _ _ _ s = _ from h) fun _ u => setLevel_calm u _ _ _
  | fadeAdvance c => exact event_bankPart_of_calm (show execFadeAdvance _ s = _ from h) fun u => u.setChannel_calm c _
  | setScene => exact request_bankPart (show execSetScene _ _ _ _ _ _ _ s = _ from h) fun _ u => setScene_bankPart u _ _ _
  | recallScene =>
      exact request_bankPart_of_calm (show execRecallScene _ _ _ _ s = _ from h) fun _ u => recallScene_calm u _ _ _
  | curtain => exact request_bankPart_of_calm (show execCurtain _ _ _ s = _ from h) fun _ u => moveCurtain_calm u _ _
  | limitSwitchChange n limit closed =>
    refine pinEvent_bankPart_of_calm (show execLimitSwitchChange _ _ _ s = _ from h) fun u => ?_
    split <;> simp
  | travelTimerExpiry n =>
      exact event_bankPart_of_calm (show execTravelTimerExpiry _ s = _ from h) fun u => u.travelExpiry_calm n
  | setCurtainTime =>
      exact request_bankPart (show execSetCurtainTime _ _ _ s = _ from h) fun _ u => setCurtainTime_bankPart u _ _
  | setStanding =>
      exact request_bankPart (show execSetStanding _ _ _ _ _ _ _ _ s = _ from h) fun _ u => setStanding_bankPart u _ _
  | deleteStanding => exact request_bankPart (show execDeleteStanding _ _ s = _ from h) fun _ _ => rfl
  | releaseHold => exact request_bankPart_of_calm (show execReleaseHold _ _ s = _ from h) fun _ u => releaseHold_calm u _
  | readScene => exact request_bankPart (show execReadScene _ _ _ s = _ from h) fun _ u => readScene_bankPart u _ _
  | mainsPulse => exact event_bankPart (show execMainsPulse s = _ from h) fun u => u.mainsPulse_bankPart
  | oneSecondEvent => exact event_bankPart (show execOneSecondEvent s = _ from h) fun u => u.oneSecond_bankPart
  | setClock => exact request_bankPart (show execSetClock _ _ _ s = _ from h) fun _ u => setClock_bankPart u _ _
  | callInstant n => exact event_bankPart_of_calm (show execCallInstant _ s = _ from h) fun u => u.callReached_calm n
  | startInstant n => exact event_bankPart_of_calm (show execStartInstant _ s = _ from h) fun u => u.startReached_calm n
  | holdLimit n => exact event_bankPart_of_calm (show execHoldLimit _ s = _ from h) fun u => u.holdReached_calm n
  | startShow => exact request_bankPart_of_calm (show execStartShow _ _ s = _ from h) fun _ u => startRequest_calm u _
  | stopShow => exact request_bankPart_of_calm (show execStopShow _ _ s = _ from h) fun _ u => stopRequest_calm u _
  | readDuty => exact serve_bankPart (show execReadDuty _ _ s = _ from h) fun u => readDuty_bankPart u _
  | receiveCharacter =>
      exact pinEvent_bankPart (show execReceiveCharacter _ _ _ _ s = _ from h) fun u => u.character_bankPart _ _ _ _ _
  | gapTimerExpiry st => exact event_bankPart (show execGapTimerExpiry _ s = _ from h) fun u => u.gapExpiry_bankPart st
  | replyComplete => exact event_bankPart (show execReplyComplete _ s = _ from h) fun _ => rfl
  | lineBreakReset st => exact event_bankPart (show execLineBreakReset _ s = _ from h) fun u => u.lineBreak_bankPart st
  | setLine => exact request_bankPart (show execSetLine _ _ _ s = _ from h) fun _ u => setLine_bankPart u _ _ _
  | readStatus => exact request_bankPart (show execReadStatus _ _ s = _ from h) fun _ u => readStatus_bankPart u _ _
  | armAttention =>
      exact request_bankPart (show execArmAttention _ _ _ s = _ from h) fun _ u => armAttention_bankPart u _ _ _
  | readAttention => exact request_bankPart (show execReadAttention _ _ s = _ from h) fun _ _ => rfl
  | rxdLevelChange => exact pinEvent_bankPart (show execRxdLevelChange _ _ s = _ from h) fun _ => rfl
  | standbySupplyLoss => cases h; exact s.standbyLost_bankPart

end Sys2Proof.Machine
end

section
/-! The commands that write banks keep `State.BanksSound`: the content writes, COMMIT and REOPEN, SET_STARTS, the rotation
in its three forms (R14 to R16), the end of a clear (R18), and the supplies (R20). -/

namespace Sys2Proof.Machine

variable {s t : State} {n : ScreenNo}

/-! ## Roles -/

/-- Each role stands once among the banks of a screen (R1). -/
def State.RolesApart (s : State) (n : ScreenNo) : Prop := ∀ b c, (s.bank n b).role = (s.bank n c).role → b = c

/-- The bank found for a role holds it: three banks with different roles hold all three. -/
theorem State.RolesApart.role_bankNo (h : s.RolesApart n) (r : Role) : (s.bank n (s.bankNo n r)).role = r := by
  have h01 := h .b0 .b1
  have h02 := h .b0 .b2
  have h12 := h .b1 .b2
  unfold State.bankNo
  split
  · assumption
  · split
    · assumption
    · cases h0 : (s.bank n .b0).role <;> cases h1 : (s.bank n .b1).role <;> cases h2 : (s.bank n .b2).role <;>
        cases r <;> simp_all

theorem State.RolesApart.role_bankIn (h : s.RolesApart n) (r : Role) : (s.bankIn n r).role = r := h.role_bankNo r

/-- A bank is the one found for its role. -/
theorem State.RolesApart.bankNo_eq (h : s.RolesApart n) {b : BankNo} {r : Role} (hb : (s.bank n b).role = r) :
    s.bankNo n r = b := h _ _ (by rw [h.role_bankNo, hb])

theorem State.RolesApart.bankIn_eq (h : s.RolesApart n) {b : BankNo} {r : Role} (hb : (s.bank n b).role = r) :
    s.bankIn n r = s.bank n b := by rw [State.bankIn, h.bankNo_eq hb]

/-- The bank of a role, in a state that holds the same roles. -/
theorem State.RolesApart.of_roles (h : s.RolesApart n) (hr : ∀ b, (t.bank n b).role = (s.bank n b).role) :
    t.RolesApart n := fun b c hbc => h b c (by rw [← hr b, ← hr c, hbc])

/-- A rotation moves the roles in a circle (R13). -/
def Role.rotated : Role → Role
  | .current => .spare
  | .next => .current
  | .spare => .next

theorem Role.rotated_inj {a b : Role} (h : a.rotated = b.rotated) : a = b := by
  cases a <;> cases b <;> simp_all [Role.rotated]

@[simp] theorem Bank.rotated_role (b : Bank) : b.rotated.role = b.role.rotated := by
  unfold Bank.rotated Role.rotated
  split <;> simp [*]

theorem Bank.rotated_state (b : Bank) : b.rotated.state = if b.role = .current then .clearing else b.state := by
  unfold Bank.rotated
  split <;> simp [*]

/-! ## The banks at a rotation -/

theorem State.bank_rotateBanks (s : State) (n m : ScreenNo) (b : BankNo) :
    (s.rotateBanks n).bank m b = if m = n then (s.bank n b).rotated else s.bank m b := by
  by_cases h : m = n
  · subst h
    cases b <;> simp [State.bank, State.rotateBanks, ByBank.get]
  · simp [State.bank, State.rotateBanks, h]

theorem State.rotateBanks_apart (h : s.RolesApart n) : (s.rotateBanks n).RolesApart n := by
  intro b c hbc
  simp only [State.bank_rotateBanks, if_true, Bank.rotated_role] at hbc
  exact h b c (Role.rotated_inj hbc)

/-- A rotation moves the banks, the clear queue and the flag as `rotateBanks` does, and no other operation in it does
(R13). -/
@[simp] theorem State.rotation_bankPart (s : State) (n : ScreenNo) :
    (s.rotation n).bankPart = (s.rotateBanks n).bankPart := by
  have h : ∀ u : State, (((u.schedulerRotation n).tellDuty (.screen n)).post .bankStore (.rotated n)).bankPart =
      u.bankPart :=
    fun u => State.bankPart_of_calm (by simp)
  unfold State.rotation
  dsimp only
  rw [h, State.rotateProjector_bankPart, State.rotateProjector_bankPart]

/-- The rotation of banks keeps them sound when SPARE is not CLEARING (R14, R17). -/
theorem State.BanksSound.rotateBanks (h : s.BanksSound) (hs : (s.bankIn n .spare).state ≠ .clearing) :
    (s.rotateBanks n).BanksSound := by
  have ha : s.RolesApart n := h.roles n
  have hcur : ∀ b, (s.bank n b).role = .current ↔ s.bankNo n .current = b :=
    fun b => ⟨fun hb => ha.bankNo_eq hb, fun hb => hb ▸ ha.role_bankNo .current⟩
  have hn : ∀ b, (s.bank n b).state ≠ .clearing := fun b hb => hs ((ha.bankIn_eq (h.spare n b hb)) ▸ hb)
  constructor
  · intro m b c hbc
    by_cases hm : m = n
    · subst hm; exact State.rotateBanks_apart ha b c hbc
    · simp only [State.bank_rotateBanks, hm, if_false] at hbc
      exact h.roles m b c hbc
  · intro m b hb
    by_cases hm : m = n
    · simp only [State.bank_rotateBanks, hm, if_true, Bank.rotated_state, Bank.rotated_role] at hb ⊢
      by_cases hc : (s.bank n b).role = .current
      · rw [hc]; rfl
      · exact absurd (by simpa [hc] using hb) (hn b)
    · simp only [State.bank_rotateBanks, hm, if_false] at hb ⊢
      exact h.spare m b hb
  · intro hp m b
    have hq := h.queued hp m b
    have hu : (s.rotateBanks n).bankUnit.queue = s.bankUnit.queue ++ [⟨n, s.bankNo n .current⟩] := rfl
    rw [hu, List.mem_append, hq, List.mem_singleton, BankRef.mk.injEq, State.bank_rotateBanks]
    by_cases hm : m = n
    · subst hm
      by_cases hc : (s.bank m b).role = .current
      · simp [Bank.rotated_state, hc, (hcur b).mp hc]
      · have hne : b ≠ s.bankNo m .current := fun hb => hc ((hcur b).mpr hb.symm)
        simp [Bank.rotated_state, hc, hn b, hne]
    · simp [hm]
  · intro hp
    have hu : (s.rotateBanks n).bankUnit.queue = s.bankUnit.queue ++ [⟨n, s.bankNo n .current⟩] := rfl
    rw [hu]
    refine List.nodup_append.mpr ⟨h.once hp, by simp, fun a hq b hb => ?_⟩
    rintro rfl
    rw [List.mem_singleton.mp hb, h.queued hp] at hq
    exact hn _ hq
  · intro hp
    have hc := h.clearing hp
    cases hq : s.bankUnit.queue with
    | nil => simp [State.rotateBanks, hq]
    | cons x rest => simpa [State.rotateBanks, hq] using hc

/-! ## Keeping sound -/

/-- From `s` to `t` the main power is as it was, and with it the banks stay sound. -/
structure KeepsBanks (s t : State) : Prop where
  powered : t.powered = s.powered
  sound : s.powered = true → s.BanksSound → t.BanksSound

theorem KeepsBanks.of_bankPart (h : t.bankPart = s.bankPart) : KeepsBanks s t :=
  ⟨(State.bankPart_iff.mp h).2, fun _ hs => hs.congr h⟩

theorem KeepsBanks.of_calm (h : t.calm = s.calm) : KeepsBanks s t := .of_bankPart (State.bankPart_of_calm h)

theorem KeepsBanks.refl (s : State) : KeepsBanks s s := .of_bankPart rfl

theorem KeepsBanks.trans {u : State} (h : KeepsBanks s t) (k : KeepsBanks t u) : KeepsBanks s u :=
  ⟨k.powered.trans h.powered, fun hp hs => k.sound (h.powered.trans hp) (h.sound hp hs)⟩

theorem event_banksSound {body : State → State} (h : event body s = .next t) (hb : ∀ u, KeepsBanks u (body u))
    (hs : s.BanksSound) : t.BanksSound := by
  unfold event at h
  cases h
  split
  next hp => exact ((hb s.begin).sound hp (hs.congr s.begin_bankPart)).congr (State.settle_bankPart _)
  · exact hs

/-- A request keeps the banks sound when the block that takes it does. -/
theorem serve_banksSound {c : Instr} {body : State → State × Answer} (h : serve c body s = .next t)
    (hb : ∀ u, KeepsBanks u (body u).1) (hs : s.BanksSound) : t.BanksSound := by
  unfold serve at h
  split at h
  next x _ =>
    refine event_banksSound h (fun u => ?_) hs
    have ht : KeepsBanks u (u.take x.1 x.2 body) := (hb u).trans (.of_bankPart (State.reply_bankPart _ _ _ _))
    unfold State.serveRequest
    dsimp only
    split
    · exact ht
    · split
      · exact .refl u
      · split
        · exact .of_bankPart rfl
        · unfold State.arrive
          split
          · exact .of_bankPart rfl
          · split
            · exact .of_bankPart rfl
            · exact ht
  · cases h; exact hs

theorem withTarget_keepsBanks {α : Type} {name : Option α} {body : α → State → State × Answer}
    (hb : ∀ x u, KeepsBanks u (body x u).1) (u : State) : KeepsBanks u (withTarget name body u).1 := by
  unfold withTarget
  split
  · exact .refl u
  · exact hb _ u

/-- A request with a target byte. -/
theorem request_banksSound {α : Type} {c : Instr} {name : Option α} {body : α → State → State × Answer}
    (h : serve c (withTarget name body) s = .next t) (hb : ∀ x u, KeepsBanks u (body x u).1) (hs : s.BanksSound) :
    t.BanksSound :=
  serve_banksSound h (withTarget_keepsBanks hb) hs

/-! ## Writes to one bank -/

/-- A bank replaced by one of its role that is CLEARING exactly when it was. -/
theorem State.setBank_keepsBanks (s : State) {n : ScreenNo} {b : BankNo} {r : Bank} (hr : r.role = (s.bank n b).role)
    (hc : r.state = .clearing ↔ (s.bank n b).state = .clearing) : KeepsBanks s (s.setBank n b r) := by
  have hrole : ∀ m c, ((s.setBank n b r).bank m c).role = (s.bank m c).role := by
    intro m c
    rw [State.bank_setBank]
    split
    next hmc => rw [hr, hmc.1, hmc.2]
    · rfl
  have hstate : ∀ m c, ((s.setBank n b r).bank m c).state = .clearing ↔ (s.bank m c).state = .clearing := by
    intro m c
    rw [State.bank_setBank]
    split
    next hmc => rw [hc, hmc.1, hmc.2]
    · rfl
  refine ⟨rfl, fun _ ⟨roles, spare, queued, once, clearing⟩ => ⟨?_, ?_, fun hp m c => ?_, once, clearing⟩⟩
  · simpa only [hrole] using roles
  · simpa only [hrole, hstate] using spare
  · exact (queued hp m c).trans (hstate m c).symm

/-- The part of a content write that gives the new bank leaves the role. -/
theorem contentWrite_keepsBanks {write : Bank → Except Status (Bank × List Byte)}
    (hw : ∀ b r, write b = .ok r → r.1.role = b.role) (x : ScreenNo × Role) (u : State) :
    KeepsBanks u (contentWrite write x u).1 := by
  unfold contentWrite
  dsimp only
  split
  · exact .refl u
  next hc =>
    split
    · exact .refl u
    · split
      · exact .refl u
      · split
        · exact .refl u
        next r hr => exact u.setBank_keepsBanks (hw _ _ hr) (by simp [hc])

theorem writeHeader_role {title : List Byte} {side count : Byte} {b : Bank} {r : Bank × List Byte}
    (h : writeHeader title side count b = .ok r) : r.1.role = b.role := by
  unfold writeHeader at h
  split at h <;> cases h
  rfl

theorem writeReel_role {i : Byte} {x : Option Reel} {b : Bank} {r : Bank × List Byte} (h : writeReel i x b = .ok r) :
    r.1.role = b.role := by
  unfold writeReel at h
  split at h <;> cases h
  rfl

theorem writeCue_role {c : Option Cue} {b : Bank} {r : Bank × List Byte} (h : writeCue c b = .ok r) :
    r.1.role = b.role := by
  unfold writeCue at h
  split at h
  · cases h
  · split at h <;> cases h
    rfl

theorem deleteCue_role {i : Byte} {b : Bank} {r : Bank × List Byte} (h : deleteCue i b = .ok r) : r.1.role = b.role := by
  unfold deleteCue at h
  split at h <;> cases h
  rfl

theorem commit_keepsBanks (n : ScreenNo) (u : State) : KeepsBanks u (commit n u).1 := by
  unfold commit
  dsimp only
  split
  · exact .refl u
  next hc =>
    split
    · exact .refl u
    · refine u.setBank_keepsBanks rfl ?_
      simp only [Bool.or_eq_true, decide_eq_true_eq, not_or] at hc
      simp [hc.2]

theorem reopen_keepsBanks (n : ScreenNo) (u : State) : KeepsBanks u (reopen n u).1 := by
  unfold reopen
  dsimp only
  split
  next hc => exact u.setBank_keepsBanks rfl (by simp [hc])
  · exact .refl u

@[simp] theorem BankState.started_clearing (st : BankState) : st.started = .clearing ↔ st = .clearing := by
  cases st <;> simp [BankState.started]

theorem setStarts_keepsBanks (times : List Half) (x : ScreenNo × Role) (u : State) :
    KeepsBanks u (setStarts times x u).1 := by
  have ha : ∀ v : State, KeepsBanks v (v.armAfterStarts x.1 x.2) := by
    intro v
    unfold State.armAfterStarts
    split
    · exact .of_calm (v.armNext_calm _)
    · exact .refl v
  unfold setStarts
  dsimp only
  split
  · exact .refl u
  · split
    · exact .refl u
    · split
      · exact .refl u
      · refine KeepsBanks.trans ?_ (ha _)
        exact u.setBank_keepsBanks rfl (BankState.started_clearing _)

/-! ## Rotations -/

theorem State.rotation_keepsBanks (hs : (s.bankIn n .spare).state ≠ .clearing) : KeepsBanks s (s.rotation n) := by
  have h := State.rotation_bankPart s n
  exact ⟨(State.bankPart_iff.mp h).2, fun _ hb => (hb.rotateBanks hs).congr h⟩

theorem State.setRotationPending_keepsBanks (s : State) (n : ScreenNo) (v : Bool) :
    KeepsBanks s (s.setRotationPending n v) := ⟨rfl, fun _ h => ⟨h.roles, h.spare, h.queued, h.once, h.clearing⟩⟩

theorem rotateRequest_keepsBanks (n : ScreenNo) (u : State) : KeepsBanks u (rotateRequest n u).1 := by
  unfold rotateRequest
  dsimp only
  split
  · exact .refl u
  · split
    · exact .refl u
    · split
      · exact .refl u
      next hs => exact State.rotation_keepsBanks hs

theorem State.bankShowEnd_keepsBanks (u : State) (n : ScreenNo) : KeepsBanks u (u.bankShowEnd n) := by
  unfold State.bankShowEnd
  split
  next hr =>
    simp only [State.rotatesNow, Bool.and_eq_true, decide_eq_true_eq] at hr
    exact State.rotation_keepsBanks hr.2
  · split
    · exact u.setRotationPending_keepsBanks n true
    · exact .refl u

theorem State.showEndNotices_keepsBanks (u : State) (n : ScreenNo) : KeepsBanks u (u.showEndNotices n) := by
  have hs : ∀ v : State, KeepsBanks v (v.schedulerShowEnd n) := fun v => .of_calm (by simp)
  have hh : ∀ v : State, KeepsBanks v (v.houseShowEnd n) := fun v => .of_calm (by simp)
  have hb := fun v : State => v.bankShowEnd_keepsBanks n
  have ho : ∀ (c : Bool) (v w : State), KeepsBanks v w → KeepsBanks v (if c then w else v) := by
    intro c v w h
    cases c
    · exact .refl v
    · exact h
  have hn : ∀ (c : Bool) (v w : State), KeepsBanks v w → KeepsBanks v (if c then v else w) := by
    intro c v w h
    cases c
    · exact h
    · exact .refl v
  have hd : ∀ v : State, KeepsBanks v (v.tellDuty (.screen n)) := fun v => .of_calm rfl
  have hbit : KeepsBanks u u.takeBit.2.takeBit.2 := .of_calm rfl
  unfold State.showEndNotices
  refine KeepsBanks.trans ?_ (hd _)
  split
  · exact ((((hbit.trans (ho _ _ _ (hs _))).trans (ho _ _ _ (hh _))).trans (hb _)).trans (hn _ _ _ (hs _))).trans
      (hn _ _ _ (hh _))
  · exact ((hs u).trans (hh _)).trans (hb _)

theorem State.onPictureEnd_keepsBanks (u : State) (p : ProjNo) : KeepsBanks u (u.onPictureEnd p) := by
  unfold State.onPictureEnd
  dsimp only
  split
  · split
    · split <;> exact .of_calm (by simp)
    · exact .of_calm (by simp)
    · exact .of_calm (by simp)
    · exact KeepsBanks.trans (.of_calm (by simp)) (State.showEndNotices_keepsBanks _ _)
    · exact .refl u
  · exact .refl u

/-! ## Pulses and open confirmations -/

theorem State.frameChecks_keepsBanks (u : State) (p : ProjNo) (c : Nat) : KeepsBanks u (u.frameChecks p c) := by
  have he : ∀ v : State, KeepsBanks v (v.endCheck p c) := by
    intro v
    unfold State.endCheck
    split
    · split
      · exact v.onPictureEnd_keepsBanks p
      · exact .refl v
    · exact .refl v
  unfold State.frameChecks
  exact (KeepsBanks.trans (.of_calm (by simp)) (he _)).trans (.of_calm (State.limitCheck_calm _ _ _))

theorem State.sprocket_keepsBanks (u : State) (p : ProjNo) (interval : Nat) : KeepsBanks u (u.sprocket p interval) := by
  unfold State.sprocket
  dsimp only
  split
  · refine KeepsBanks.trans (.of_calm ?_) (State.frameChecks_keepsBanks _ _ _)
    split <;> simp
  · exact .refl u

@[simp] theorem State.takeOldCues_calm (u : State) (p : ProjNo) : (u.takeOldCues p).calm = u.calm := by
  unfold State.takeOldCues
  dsimp only
  (repeat' split) <;> simp

@[simp] theorem State.beginShowing_calm (u : State) (n : ScreenNo) (p : ProjNo) : (u.beginShowing n p).calm = u.calm := by
  unfold State.beginShowing
  dsimp only
  split <;> simp

@[simp] theorem State.swapDone_calm (u : State) (n : ScreenNo) (p : ProjNo) : (u.swapDone n p).calm = u.calm := by
  unfold State.swapDone
  dsimp only
  split <;> simp

theorem State.openDone_keepsBanks (u : State) (n : ScreenNo) (p : ProjNo) : KeepsBanks u (u.openDone n p) := by
  have h : ∀ v : State, KeepsBanks v (if v.atPictureEnd p then v.onPictureEnd p else v) := by
    intro v
    split
    · exact v.onPictureEnd_keepsBanks p
    · exact .refl v
  unfold State.openDone
  dsimp only
  refine KeepsBanks.trans (.of_calm ?_) (h _)
  split <;> simp

theorem State.onShowing_keepsBanks (u : State) (p : ProjNo) : KeepsBanks u (u.onShowing p) := by
  unfold State.onShowing
  dsimp only
  split
  · split
    · split
      · exact u.openDone_keepsBanks _ p
      · exact .refl u
    · split
      · exact .of_calm (by simp)
      · exact .refl u
    · exact .refl u
  · exact .refl u

@[simp] theorem State.handOver_calm (u : State) (p : ProjNo) : (u.handOver p).calm = u.calm := by
  unfold State.handOver
  split <;> simp

@[simp] theorem State.entryCues_calm (u : State) (p : ProjNo) : (u.entryCues p).calm = u.calm := by
  unfold State.entryCues
  dsimp only
  split
  · rfl
  · split <;> simp

theorem State.confirmOpen_keepsBanks (u : State) (p : ProjNo) : KeepsBanks u (u.confirmOpen p) := by
  have he : ∀ v : State, KeepsBanks v (v.entryEnd p) := by
    intro v
    unfold State.entryEnd
    split
    · exact v.onPictureEnd_keepsBanks p
    · exact .refl v
  unfold State.confirmOpen
  exact (KeepsBanks.trans (.of_calm (by simp)) (State.onShowing_keepsBanks _ p)).trans (he _)

theorem State.douserOpens_keepsBanks (u : State) (p : ProjNo) : KeepsBanks u (u.douserOpens p) := by
  unfold State.douserOpens
  split
  · split
    · exact u.confirmOpen_keepsBanks p
    · exact .of_calm (by simp)
  · exact .refl u

/-! ## The end of a clear -/

/-- The store when the clear of the head of the queue has ended, before a rotation that waits for it (R18). -/
def State.cleared (s : State) (x : BankRef) (rest : List BankRef) : State :=
  { s.setBank x.screen x.bank (.blank (s.bank x.screen x.bank).role .empty) with
    bankUnit := ⟨rest, if rest.isEmpty then none else some 2000⟩ }

theorem State.endClear_eq (s : State) (x : BankRef) (rest : List BankRef) :
    s.endClear x rest = ((s.cleared x rest).deferredRotation x.screen).post .clearEngine (.cleared x.screen) := rfl

theorem State.bank_cleared (s : State) (x : BankRef) (rest : List BankRef) (m : ScreenNo) (b : BankNo) :
    (s.cleared x rest).bank m b =
      if m = x.screen ∧ b = x.bank then .blank (s.bank x.screen x.bank).role .empty else s.bank m b :=
  State.bank_setBank s x.screen m x.bank b _

theorem State.cleared_role (s : State) (x : BankRef) (rest : List BankRef) (m : ScreenNo) (b : BankNo) :
    ((s.cleared x rest).bank m b).role = (s.bank m b).role := by
  rw [State.bank_cleared]
  split
  next h => rw [h.1, h.2]; rfl
  · rfl

theorem State.BanksSound.cleared {x : BankRef} {rest : List BankRef} (h : s.BanksSound)
    (hq : s.bankUnit.queue = x :: rest) (hp : s.powered = true) : (s.cleared x rest).BanksSound := by
  obtain ⟨hx, hrest⟩ := List.nodup_cons.mp (hq ▸ h.once hp)
  constructor
  · simpa only [State.cleared_role] using h.roles
  · intro m b hb
    rw [State.cleared_role]
    rw [State.bank_cleared] at hb
    split at hb
    · cases hb
    · exact h.spare m b hb
  · intro _ m b
    have hm := h.queued hp m b
    rw [hq, List.mem_cons] at hm
    have hu : (s.cleared x rest).bankUnit.queue = rest := rfl
    rw [hu, State.bank_cleared]
    split
    next hmb =>
      obtain ⟨rfl, rfl⟩ := hmb
      simpa [Bank.blank] using hx
    next hmb =>
      rw [← hm]
      have hne : (⟨m, b⟩ : BankRef) ≠ x := fun he => hmb (by rw [← he]; exact ⟨rfl, rfl⟩)
      simp [hne]
  · exact fun _ => hrest
  · intro _
    cases rest <;> simp [State.cleared]

/-- The bank at the head of the queue is its screen's SPARE, and not CLEARING once cleared. -/
theorem State.spare_cleared {x : BankRef} (rest : List BankRef) (ha : s.RolesApart x.screen)
    (hx : (s.bank x.screen x.bank).role = .spare) :
    (s.cleared x rest).bankIn x.screen .spare = .blank .spare .empty := by
  have hc : (s.cleared x rest).RolesApart x.screen := ha.of_roles fun b => State.cleared_role s x rest _ b
  rw [hc.bankIn_eq (b := x.bank) (by rw [State.cleared_role, hx]), State.bank_cleared, if_pos ⟨rfl, rfl⟩, hx]

theorem State.deferredRotation_keepsBanks (hs : (s.bankIn n .spare).state ≠ .clearing) :
    KeepsBanks s (s.deferredRotation n) := by
  unfold State.deferredRotation
  split
  · split
    · exact State.rotation_keepsBanks hs
    · exact s.setRotationPending_keepsBanks n false
  · exact .refl s

theorem State.clearExpiry_keepsBanks (u : State) : KeepsBanks u u.clearExpiry := by
  unfold State.clearExpiry
  split
  next x rest _ hq =>
    rw [State.endClear_eq]
    have hd : ((u.cleared x rest).deferredRotation x.screen).powered = u.powered := by
      unfold State.deferredRotation
      split
      · split
        · exact (State.bankPart_iff.mp (State.rotation_bankPart _ _)).2
        · rfl
      · rfl
    refine KeepsBanks.trans ⟨hd, fun hp h => ?_⟩ (.of_calm (State.post_calm _ _ _))
    have hx := (h.queued hp x.screen x.bank).mp (by simp [hq])
    have hsp := State.spare_cleared rest (h.roles x.screen) (h.spare _ _ hx)
    exact (State.deferredRotation_keepsBanks (by rw [hsp]; simp [Bank.blank])).sound hp (h.cleared hq hp)
  · exact .refl u

/-! ## The supplies -/

theorem State.mem_clearing (s : State) (x : BankRef) : x ∈ s.clearing ↔ (s.bank x.screen x.bank).state = .clearing := by
  obtain ⟨n, b⟩ := x
  unfold State.clearing
  rw [List.mem_filter, decide_eq_true_eq, and_iff_right]
  cases n <;> cases b <;> decide

theorem State.clearing_nodup (s : State) : s.clearing.Nodup := List.Nodup.filter _ (by decide)

/-- The bank store sets itself up, and no other block writes a bank at power-on (R20). -/
theorem State.powerOn_bankPart (s : State) : s.powerOn.bankPart = s.setupStore.setupClears.bankPart := by
  have hk : ∀ (u : State) (k : StandingKey), (u.standingUp k).bankPart = u.bankPart := by
    intro u k
    unfold State.standingUp
    split
    · rfl
    · exact State.bankPart_of_calm (u.applyStanding_calm _ _)
  have hh : ∀ u : State, u.setupHouse.bankPart = u.bankPart := by
    intro u
    unfold State.setupHouse
    dsimp only
    split
    · rw [hk, hk]; rfl
    · rw [hk]; rfl
  have hs : ∀ u : State, u.setupShows.setupStations.bankPart = u.bankPart := fun _ => rfl
  unfold State.powerOn
  rw [hs, hh]
  rfl

theorem State.bank_default (h : s.retained.banks = Retained.default.banks) (n : ScreenNo) (b : BankNo) :
    s.bank n b = .blank (match b with | .b0 => .current | .b1 => .next | .b2 => .spare) .empty := by
  unfold State.bank
  rw [h]
  cases n <;> cases b <;> rfl

theorem State.setupStore_roles (hr : ∀ n b c, (s.bank n b).role = (s.bank n c).role → b = c)
    (hc : ∀ n b, (s.bank n b).state = .clearing → (s.bank n b).role = .spare) :
    (∀ n b c, (s.setupStore.bank n b).role = (s.setupStore.bank n c).role → b = c) ∧
      ∀ n b, (s.setupStore.bank n b).state = .clearing → (s.setupStore.bank n b).role = .spare := by
  cases hm : s.retained.markerValid with
  | true =>
    have hb : ∀ n b, s.setupStore.bank n b = s.bank n b := fun n b => by simp [State.bank, State.setupStore, hm]
    simpa only [hb] using ⟨hr, hc⟩
  | false =>
    have hb := State.bank_default (s := s.setupStore) (by simp [State.setupStore, hm])
    constructor
    · intro n b c h
      cases b <;> cases c <;> simp_all [Bank.blank]
    · intro n b h
      simp [hb, Bank.blank] at h

theorem State.BanksSound.powerOn (h : s.BanksSound) : s.powerOn.BanksSound := by
  obtain ⟨roles, spare⟩ := State.setupStore_roles h.roles h.spare
  refine State.BanksSound.congr (s := s.setupStore.setupClears) ⟨roles, spare,
    fun _ n b => s.setupStore.mem_clearing ⟨n, b⟩, fun _ => s.setupStore.clearing_nodup, fun _ => ?_⟩ s.powerOn_bankPart
  cases hc : s.setupStore.clearing <;> simp [State.setupClears, hc]

theorem State.BanksSound.powerLost (h : s.BanksSound) : s.powerLost.BanksSound :=
  ⟨h.roles, h.spare, nofun, nofun, nofun⟩

theorem State.BanksSound.tick (h : s.BanksSound) : s.tick.BanksSound := by
  unfold State.tick
  split
  · refine ⟨h.roles, h.spare, h.queued, h.once, fun hp => ?_⟩
    simpa [countDown] using h.clearing hp
  · exact h

/-! ## Every step -/

/-- Every command keeps the banks sound. -/
theorem exec_banksSound {c : Instr} (hs : s.BanksSound) (h : exec c s = .next t) : t.BanksSound := by
  by_cases hc : c.writesBanks = false
  · exact hs.congr (exec_bankPart hc h)
  · cases c with
    | powerOnReset => cases h; exact hs.powerOn
    | writeHeader =>
      exact request_banksSound (show execWriteHeader _ _ _ _ _ s = _ from h)
        (contentWrite_keepsBanks fun _ _ => writeHeader_role) hs
    | writeReel =>
      exact request_banksSound (show execWriteReel _ _ _ _ _ _ _ _ _ s = _ from h)
        (contentWrite_keepsBanks fun _ _ => writeReel_role) hs
    | writeCue =>
      exact request_banksSound (show execWriteCue _ _ _ _ _ _ _ _ s = _ from h)
        (contentWrite_keepsBanks fun _ _ => writeCue_role) hs
    | deleteCue =>
      exact request_banksSound (show execDeleteCue _ _ _ s = _ from h)
        (contentWrite_keepsBanks fun _ _ => deleteCue_role) hs
    | commitBank => exact request_banksSound (show execCommitBank _ _ s = _ from h) commit_keepsBanks hs
    | reopenBank => exact request_banksSound (show execReopenBank _ _ s = _ from h) reopen_keepsBanks hs
    | rotate => exact request_banksSound (show execRotate _ _ s = _ from h) rotateRequest_keepsBanks hs
    | clearComplete => exact event_banksSound (show execClearComplete s = _ from h) State.clearExpiry_keepsBanks hs
    | setStarts times => exact request_banksSound (show execSetStarts _ _ _ s = _ from h) (setStarts_keepsBanks _) hs
    | sprocketPulse =>
      exact event_banksSound (show execSprocketPulse _ _ s = _ from h) (fun u => u.sprocket_keepsBanks _ _) hs
    | douserOpenSwitchClose =>
      exact event_banksSound (show execDouserOpenSwitchClose _ s = _ from h) (fun u => u.douserOpens_keepsBanks _) hs
    | mainPowerLoss => cases h; exact hs.powerLost
    | _ => exact absurd rfl hc

/-- Settles O18: each command from its own lemma above, and a millisecond from the timers that it counts down. -/
theorem stepsKeepBanksSound : Obligations.StepsKeepBanksSound := by
  intro s t hs h
  unfold step at h
  split at h
  · cases h; exact hs.tick
  next rest _ =>
    have hq : ({ s with pending := rest } : State).BanksSound := hs.congr rfl
    exact exec_banksSound hq h

end Sys2Proof.Machine
end

section
/-! Requests at a link that is ready: which frames pass the checks of Table 53, and what a request whose frame passes leads
to. With it the reads (R3, R4, R22, R58, R62, R85, R107, R108, R143, R159, R170). -/

namespace Sys2Proof.Machine

/-! ## Frames that pass -/

/-- Request `c` is sent by station `st` with request `r`, and no check of Table 53 fails on its frame. -/
structure Passes (c : Instr) (st : Station) (r : Request) : Prop where
  frame : encodeRequest c = some (st, r)
  fault : requestFault st r = none
  length : r.data.length ≤ 56

/-- A well-formed request passes where its row of the access matrix is open to the station. -/
theorem Passes.of_statement {c : Instr} {st : Station} {r : Request} (row : RequestRow) (h : Laws.Frames.Statement c)
    (hw : c.wellFormed = true) (he : encodeRequest c = some (st, r)) (hr : requestRow r.code = some row)
    (ha : row.access.allows st = true) : Passes c st r := by
  obtain ⟨hl, row', hr', -, hf⟩ := h hw st r he
  obtain rfl := Option.some.inj (hr.symm.trans hr')
  exact ⟨he, by rw [hf, if_pos ha], hl⟩

variable {s t : State} {c : Instr} {st : Station} {r : Request} {body : State → State × Answer}

/-- A request that is taken leads to the answer of its block. -/
theorem Passes.exec_eq (hp : Passes c st r) (h : s.Ready st) (hx : exec c s = serve c body s) :
    exec c s = .next ((body s).1.reply st r (body s).2).settle := by
  rw [hx, serve_of_ready h hp.frame hp.fault hp.length]

theorem Passes.answers {a : Answer} (hp : Passes c st r) (h : s.Ready st) (hx : exec c s = serve c body s)
    (hb : body s = (t, a)) (hw : t.work = .empty) : Answers c s t a := by
  refine ⟨st, r, hp.frame, ?_⟩
  rw [hx, serve_of_quiet h hp.frame hp.fault hp.length body (by rw [hb]; exact hw), hb]

theorem Passes.refuses {e : Status} (hp : Passes c st r) (h : s.Ready st) (hx : exec c s = serve c body s)
    (hb : body s = refuse e s) : Refuses c s e := hp.answers h hx hb h.work

variable {α : Type} {name : Option α} {x : α}

@[simp] theorem withTarget_some (body : α → State → State × Answer) : withTarget (some x) body s = body x s := rfl

@[simp] theorem withTarget_none (body : α → State → State × Answer) : withTarget none body s = refuse .badTarget s := rfl

/-- A request whose target byte names nothing. -/
theorem Passes.bad_target {body : α → State → State × Answer} (hp : Passes c st r) (h : s.Ready st) (hn : name = none)
    (hx : exec c s = serve c (withTarget name body) s) : Refuses c s .badTarget :=
  hp.refuses h hx (by rw [hn, withTarget_none])

/-- A read answers the data of the record that its target byte names. -/
theorem Passes.reads {data : State → α → List Byte} (hp : Passes c st r) (h : s.Ready st) (hn : name = some x)
    (hx : exec c s = serve c (withTarget name fun x s => (s, .ok (data s x))) s) : Answers c s s (.ok (data s x)) :=
  hp.answers h hx (by rw [hn, withTarget_some]) h.work

theorem noTarget_zero {t : Byte} (h : t = 0) : noTarget t = some () := if_pos h

theorem noTarget_ne {t : Byte} (h : t ≠ 0) : noTarget t = none := if_neg h

/-! ## The reads of one record -/

section Reads

variable (st : Station) (t i j : Byte)

theorem passes_readBanks : Passes (.readBanks st t) st ⟨0x10#8, t, []⟩ := ⟨rfl, rfl, Nat.zero_le _⟩
theorem passes_readProjector : Passes (.readProjector st t) st ⟨0x20#8, t, []⟩ := ⟨rfl, rfl, Nat.zero_le _⟩
theorem passes_readTracker : Passes (.readTracker st t) st ⟨0x28#8, t, []⟩ := ⟨rfl, rfl, Nat.zero_le _⟩
theorem passes_readScreen : Passes (.readScreen st t) st ⟨0x30#8, t, []⟩ := ⟨rfl, rfl, Nat.zero_le _⟩
theorem passes_readArc : Passes (.readArc st t) st ⟨0x40#8, t, []⟩ := ⟨rfl, rfl, Nat.zero_le _⟩
theorem passes_readShutter : Passes (.readShutter st t) st ⟨0x50#8, t, []⟩ := ⟨rfl, rfl, Nat.zero_le _⟩
theorem passes_readDropMap : Passes (.readDropMap st t) st ⟨0x51#8, t, []⟩ := ⟨rfl, rfl, Nat.zero_le _⟩
theorem passes_readHouse : Passes (.readHouse st t) st ⟨0x60#8, t, []⟩ := ⟨rfl, rfl, Nat.zero_le _⟩
theorem passes_readStanding : Passes (.readStanding st t) st ⟨0x62#8, t, []⟩ := ⟨rfl, rfl, Nat.zero_le _⟩
theorem passes_readShow : Passes (.readShow st t) st ⟨0x70#8, t, []⟩ := ⟨rfl, rfl, Nat.zero_le _⟩
theorem passes_readBankItem : Passes (.readBankItem st t i j) st ⟨0x11#8, t, [i, j]⟩ :=
  ⟨rfl, rfl, Nat.le_of_ble_eq_true rfl⟩
theorem passes_readScene : Passes (.readScene st t i) st ⟨0x61#8, t, [i]⟩ := ⟨rfl, rfl, Nat.le_of_ble_eq_true rfl⟩
theorem passes_readDuty : Passes (.readDuty st i) st ⟨0x78#8, i, []⟩ := ⟨rfl, rfl, Nat.zero_le _⟩

end Reads

/-- Settles O7: each read is its block's data at the record that the target byte names. -/
theorem readsAnswerAndChangeNothing : Obligations.ReadsAnswerAndChangeNothing := by
  intro s st t h
  refine ⟨fun n hn => ⟨?_, ?_, ?_, ?_⟩, fun hn => ⟨?_, ?_, ?_, ?_⟩, fun p hp => ⟨?_, ?_, ?_⟩, fun hp => ⟨?_, ?_, ?_⟩,
    fun i hi => ?_, fun hi => ?_, fun k hk => ?_, fun hk => ?_, fun ht => ?_, fun ht => ?_⟩
  · exact (passes_readBanks st t).reads h hn rfl
  · exact (passes_readScreen st t).reads h hn rfl
  · exact (passes_readHouse st t).reads h hn rfl
  · exact (passes_readShow st t).reads h hn rfl
  · exact (passes_readBanks st t).bad_target h hn rfl
  · exact (passes_readScreen st t).bad_target h hn rfl
  · exact (passes_readHouse st t).bad_target h hn rfl
  · exact (passes_readShow st t).bad_target h hn rfl
  · exact (passes_readProjector st t).reads h hp rfl
  · exact (passes_readTracker st t).reads h hp rfl
  · exact (passes_readArc st t).reads h hp rfl
  · exact (passes_readProjector st t).bad_target h hp rfl
  · exact (passes_readTracker st t).bad_target h hp rfl
  · exact (passes_readArc st t).bad_target h hp rfl
  · exact (passes_readShutter st t).reads h hi rfl
  · exact (passes_readShutter st t).bad_target h hi rfl
  · exact (passes_readDropMap st t).reads (data := fun s k => mask2 (shutterMask (s.retained.dropMap.entry k))) h hk rfl
  · exact (passes_readDropMap st t).bad_target h hk rfl
  · exact (passes_readStanding st t).reads (data := fun s _ => s.retained.standing.data) h (noTarget_zero ht) rfl
  · exact (passes_readStanding st t).bad_target h (noTarget_ne ht) rfl

/-! ## Ranges -/

theorem inRange_some {lo hi n : Nat} (h1 : lo ≤ n) (h2 : n ≤ hi) : inRange lo hi n = some n := if_pos ⟨h1, h2⟩

theorem inRange_none {lo hi n : Nat} (h : n < lo ∨ hi < n) : inRange lo hi n = none := if_neg (by omega)

theorem inRange_zero {hi : Nat} {b : Byte} (h : b = 0 ∨ hi < b.toNat) : inRange 1 hi b.toNat = none :=
  inRange_none (h.imp (fun h0 => by rw [h0]; decide) id)

theorem toNat_zero_of {hi : Nat} {b : Byte} (h : b = 0 ∨ hi < b.toNat) : b.toNat = 0 ∨ hi < b.toNat :=
  h.imp_left fun h0 => by rw [h0]; rfl

/-! ## The reads of one item -/

/-- A selector out of range is refused whatever the bank (R4, log entry 26). -/
theorem readItem_selector {sel i : Byte} (x : ScreenNo × Role) (h : sel = 0 ∨ 4 < sel.toNat) :
    readItem sel i x s = refuse .range s := by
  have h' := toNat_zero_of h
  simp [readItem, h']

theorem readItem_reel_range {i : Byte} (x : ScreenNo × Role) (h : i = 0 ∨ 12 < i.toNat) :
    readItem 2 i x s = refuse .range s := by
  simp [readItem, inRange_zero h]

/-- A CLEARING bank answers its number and state alone. -/
theorem readItem_clearing {sel i : Byte} {x : ScreenNo × Role} (h : (s.bankIn x.1 x.2).state = .clearing)
    (hs : sel.toNat ≠ 0 ∧ sel.toNat ≤ 4) (hi : sel = 2 → 1 ≤ i.toNat ∧ i.toNat ≤ 12) :
    readItem sel i x s = (s, .ok (s.bankHead x.1 x.2)) := by
  have h2 : sel = 2 → (inRange 1 12 i.toNat).isNone = false := fun h => by
    rw [inRange_some (hi h).1 (hi h).2]; rfl
  by_cases hsel : sel = 2#8
  · simp [readItem, h, hsel, h2 hsel]
  · simp [readItem, h, hs.1, hsel, Nat.not_lt.mpr hs.2]

theorem readItem_header {i : Byte} {x : ScreenNo × Role} (h : (s.bankIn x.1 x.2).state ≠ .clearing) :
    readItem 1 i x s = (s, .ok (s.bankHead x.1 x.2 ++ (s.bankIn x.1 x.2).headerData)) := by
  simp [readItem, h]

theorem readItem_starts {i : Byte} {x : ScreenNo × Role} (h : (s.bankIn x.1 x.2).state ≠ .clearing) :
    readItem 4 i x s = (s, .ok (s.bankHead x.1 x.2 ++ startsData (s.bankIn x.1 x.2).starts)) := by
  simp [readItem, h]

theorem readItem_reel {i : Byte} {x : ScreenNo × Role} (h : (s.bankIn x.1 x.2).state ≠ .clearing) (h1 : 1 ≤ i.toNat)
    (h2 : i.toNat ≤ 12) :
    readItem 2 i x s = (s, .ok (s.bankHead x.1 x.2 ++ reelData ((s.bankIn x.1 x.2).slot i.toNat))) := by
  simp [readItem, h, inRange_some h1 h2]

theorem readItem_cue {i : Byte} {x : ScreenNo × Role} (h : (s.bankIn x.1 x.2).state ≠ .clearing)
    (hi : 1 ≤ i.toNat ∧ i.toNat - 1 < (s.bankIn x.1 x.2).cues.length) :
    readItem 3 i x s = (s, .ok (s.bankHead x.1 x.2 ++ ((s.bankIn x.1 x.2).cues[i.toNat - 1]'hi.2).data)) := by
  have h0 : i.toNat ≠ 0 := by omega
  simp [readItem, h, h0, List.getElem?_eq_getElem hi.2]

theorem readItem_cue_range {i : Byte} {x : ScreenNo × Role} (h : (s.bankIn x.1 x.2).state ≠ .clearing)
    (hi : i = 0 ∨ (s.bankIn x.1 x.2).cues.length < i.toNat) : readItem 3 i x s = refuse .range s := by
  obtain hi | hi := toNat_zero_of hi
  · simp [readItem, h, hi]
  · have hn : (s.bankIn x.1 x.2).cues[i.toNat - 1]? = none := List.getElem?_eq_none (by omega)
    by_cases h0 : i.toNat = 0
    · simp [readItem, h, h0]
    · simp [readItem, h, h0, hn]

/-- Settles O8: the cases of `readItem`, and the index of a scene and of a duty entry. -/
theorem itemReadsAnswerOneItem : Obligations.ItemReadsAnswerOneItem := by
  intro s st t i h
  refine ⟨fun n role hb => ?_, fun n hn => ⟨fun h1 h2 => ?_, fun hi => ?_⟩, fun hi => ?_, fun hi => ?_, fun hi => ?_⟩
  · have hx : ∀ sel, withTarget (bankOf t) (readItem sel i) s = readItem sel i (n, role) s := fun sel => by
      rw [hb, withTarget_some]
    have answers : ∀ {sel : Byte} {a : Answer}, readItem sel i (n, role) s = (s, a) →
        Answers (.readBankItem st t sel i) s s a :=
      fun ha => (passes_readBankItem st t _ i).answers h rfl ((hx _).trans ha) h.work
    refine ⟨fun sel hs => answers (readItem_selector _ hs), fun hi => answers (readItem_reel_range _ hi),
      fun hc => ⟨?_, ?_, ?_, fun h1 h2 => ?_⟩, fun hc => ⟨?_, ?_, fun h1 h2 => ?_, fun hi => ?_, fun hi => ?_⟩⟩
    · exact answers (readItem_clearing hc (by decide) fun h => absurd h (by decide))
    · exact answers (readItem_clearing hc (by decide) fun h => absurd h (by decide))
    · exact answers (readItem_clearing hc (by decide) fun h => absurd h (by decide))
    · exact answers (readItem_clearing hc (by decide) fun _ => ⟨h1, h2⟩)
    · exact answers (readItem_header hc)
    · exact answers (readItem_starts hc)
    · exact answers (readItem_reel hc h1 h2)
    · exact answers (readItem_cue hc hi)
    · exact answers (readItem_cue_range hc hi)
  · exact (passes_readScene st t i).answers h (body := withTarget (screenOf t) (readScene i)) rfl
      (by rw [hn, withTarget_some, readScene, sceneOf, inRange_some h1 h2]) h.work
  · exact (passes_readScene st t i).refuses h (body := withTarget (screenOf t) (readScene i)) rfl
      (by rw [hn, withTarget_some, readScene, sceneOf, inRange_zero hi])
  · exact (passes_readDuty st i).answers h (body := readDuty i) rfl (by rw [readDuty, if_pos hi]) h.work
  · have h0 : i ≠ 0 := fun h0 => by rw [h0] at hi; exact absurd hi.1 (by decide)
    exact (passes_readDuty st i).answers h (body := readDuty i) rfl
      (by rw [readDuty, if_neg h0, List.getElem?_eq_getElem hi.2]) h.work
  · have h0 : i ≠ 0 := fun h0 => by rw [h0] at hi; exact absurd hi (Nat.not_lt_zero _)
    have hn : s.duty[i.toNat - 1]? = none := List.getElem?_eq_none (by omega)
    exact (passes_readDuty st i).refuses h (body := readDuty i) rfl (by rw [readDuty, if_neg h0, hn])

end Sys2Proof.Machine
end

section
/-! The requests of the bank store: the content writes with their shared checks (R5 to R9), COMMIT_BANK with the checks of
Table 7 (R11), REOPEN_BANK (R12), and the refusals of ROTATE (R14). -/

namespace Sys2Proof.Machine

variable {s : State} {n : ScreenNo} {role : Role} {write : Bank → Except Status (Bank × List Byte)} {b : Bank}

/-! ## The shared checks of a content write (R5) -/

theorem contentWrite_clearing (x : ScreenNo × Role) (h : (s.bankIn x.1 x.2).state = .clearing) :
    contentWrite write x s = refuse .bankClearing s := if_pos h

theorem contentWrite_in_use (x : ScreenNo × Role) (h : (s.bankIn x.1 x.2).state ≠ .clearing) (hr : x.2 ≠ .next) :
    contentWrite write x s = refuse .bankInUse s := (if_neg h).trans (if_pos hr)

theorem contentWrite_complete (h : (s.bankIn n .next).state = .complete) :
    contentWrite write (n, .next) s = refuse .state s := by
  have h1 : (s.bank n (s.bankNo n .next)).state = .complete := h
  simp [contentWrite, h1]

theorem contentWrite_open (h : (s.bankIn n .next).state = .empty ∨ (s.bankIn n .next).state = .draft) :
    contentWrite write (n, .next) s = match write (s.bankIn n .next) with
      | .error e => refuse e s
      | .ok r => (s.setBank n (s.bankNo n .next) { r.1 with state := .draft },
          .ok (byte1 (s.bankNo n .next).code ++ r.2)) := by
  have h1 : (s.bank n (s.bankNo n .next)).state = .empty ∨ (s.bank n (s.bankNo n .next)).state = .draft := h
  have h2 : (s.bank n (s.bankNo n .next)).state ≠ .clearing := by rcases h1 with h1 | h1 <;> simp [h1]
  have h3 : (s.bank n (s.bankNo n .next)).state ≠ .complete := by rcases h1 with h1 | h1 <;> simp [h1]
  unfold contentWrite
  dsimp only
  rw [if_neg h2, if_neg (by simp), if_neg h3]
  rfl

/-- A content write that its own checks let through. -/
theorem contentWrite_ok {r : Bank × List Byte} (hb : b = s.bankIn n .next) (h : b.state = .empty ∨ b.state = .draft)
    (hw : write b = .ok r) :
    contentWrite write (n, .next) s = (s.setBank n (s.bankNo n .next) { r.1 with state := .draft },
      .ok (byte1 (s.bankNo n .next).code ++ r.2)) := by
  subst hb
  rw [contentWrite_open h, hw]

theorem contentWrite_error {e : Status} (hb : b = s.bankIn n .next) (h : b.state = .empty ∨ b.state = .draft)
    (hw : write b = .error e) : contentWrite write (n, .next) s = refuse e s := by
  subst hb
  rw [contentWrite_open h, hw]

/-! ## The frames of the content writes -/

theorem passes_writeHeader {t side count : Byte} {title : List Byte} (h : title.length = 16) :
    Passes (.writeHeader .program t title side count) .program ⟨0x12#8, t, title ++ [side, count]⟩ :=
  .of_statement ⟨0x12, .program, .exactly 18⟩ (Laws.Frames.writeHeader _ _ _ _ _)
    (by simp [Instr.wellFormed, h]) rfl rfl rfl

theorem passes_writeReel {t i marks : Byte} {lead m x e : Half} {label : List Byte} (h : label.length = 10) :
    Passes (.writeReel .program t i lead m x e marks label) .program
      ⟨0x13#8, t, i :: (lead.bytes ++ m.bytes ++ x.bytes ++ e.bytes ++ marks :: label)⟩ :=
  .of_statement ⟨0x13, .program, .exactly 20⟩ (Laws.Frames.writeReel _ _ _ _ _ _ _ _ _) (by simp [Instr.wellFormed, h])
    rfl rfl rfl

theorem passes_writeCue (t a r : Byte) (f : Half) (k : Byte) (d : Half) (c : Byte) :
    Passes (.writeCue .program t a r f k d c) .program
      ⟨0x14#8, t, a :: r :: (f.bytes ++ k :: (d.bytes ++ [c]))⟩ :=
  .of_statement ⟨0x14, .program, .exactly 8⟩ (Laws.Frames.writeCue _ _ _ _ _ _ _ _) rfl rfl rfl rfl

theorem passes_deleteCue (t i : Byte) : Passes (.deleteCue .program t i) .program ⟨0x15#8, t, [i]⟩ :=
  .of_statement ⟨0x15, .program, .exactly 1⟩ (Laws.Frames.deleteCue _ _ _) rfl rfl rfl rfl

theorem passes_commitBank (t : Byte) : Passes (.commitBank .program t) .program ⟨0x16#8, t, []⟩ :=
  .of_statement ⟨0x16, .program, .exactly 0⟩ (Laws.Frames.commitBank _ _) rfl rfl rfl rfl

theorem passes_reopenBank (t : Byte) : Passes (.reopenBank .program t) .program ⟨0x17#8, t, []⟩ :=
  .of_statement ⟨0x17, .program, .exactly 0⟩ (Laws.Frames.reopenBank _ _) rfl rfl rfl rfl

theorem passes_rotate {st : Station} (t : Byte) (h : st ≠ .house) : Passes (.rotate st t) st ⟨0x18#8, t, []⟩ :=
  .of_statement ⟨0x18, .consoleProgram, .exactly 0⟩ (Laws.Frames.rotate _ _) rfl rfl rfl (by simp [Access.allows, h])

/-! ## The fields of a header, a reel and a cue (R6 to R8) -/

@[simp] theorem writeHeader_some {title : List Byte} {side count : Byte} {h : Header}
    (hh : headerOf title side count = some h) :
    writeHeader title side count b = .ok ({ b with header := some h }, []) := by simp [writeHeader, hh]

theorem headerOf_some {title : List Byte} {side count : Byte} {d : Side} (ht : title.all printable = true)
    (hd : sideOf side = some d) (h1 : 1 ≤ count.toNat) (h2 : count.toNat ≤ 12) :
    headerOf title side count = some ⟨title, d, count.toNat⟩ := by
  simp only [headerOf, titleOf, if_pos ht, hd, inRange_some h1 h2]
  rfl

theorem sideOf_none {side : Byte} (h : side = 0 ∨ 2 < side.toNat) : sideOf side = none := by
  have h' := toNat_zero_of h
  simp only [sideOf, named, List.find?_eq_none, List.mem_cons, List.not_mem_nil, or_false, decide_eq_true_eq]
  rintro x (rfl | rfl) <;> simp only [Side.code] <;> omega

theorem headerOf_none {title : List Byte} {side count : Byte}
    (h : title.all printable = false ∨ side = 0 ∨ 2 < side.toNat ∨ count = 0 ∨ 12 < count.toNat) :
    headerOf title side count = none := by
  simp only [headerOf, Option.bind_eq_bind, Option.bind_eq_none_iff]
  intro x hx d hd c hc
  exfalso
  rcases h with h | h
  · simp [titleOf, h] at hx
  · rw [← or_assoc] at h
    rcases h with h | h
    · rw [sideOf_none h] at hd; cases hd
    · rw [inRange_zero h] at hc; cases hc

theorem optRange_some {ones lo hi k : Nat} (h : k = ones ∨ (lo ≤ k ∧ k ≤ hi)) :
    optRange ones lo hi k = some (if k = ones then none else some k) := by
  unfold optRange
  split
  · rfl
  next hk => rw [inRange_some (h.resolve_left hk).1 (h.resolve_left hk).2]; rfl

theorem flagOf_some {m : Byte} (h : m = 0 ∨ m = 1) : flagOf m = some (decide (m = 1)) := by
  rcases h with rfl | rfl <;> rfl

theorem flagOf_none {m : Byte} (h : 1 < m.toNat) : flagOf m = none := by
  have h0 : m ≠ 0 := by rintro rfl; exact absurd h (by decide)
  have h1 : m ≠ 1 := by rintro rfl; exact absurd h (by decide)
  rw [flagOf, if_neg h0, if_neg h1]

theorem labelOf_some {l : List Byte} (h : l.all (· == 0) = true ∨ l.all printable = true) :
    labelOf l = some (if l.all (· == 0) then none else some l) := by
  unfold labelOf
  split
  · rfl
  next hz => rw [if_pos (h.resolve_left hz)]

theorem labelOf_none {l : List Byte} (h : l.all (· == 0) = false) (hp : l.all printable = false) : labelOf l = none := by
  simp only [labelOf, h, hp, Bool.false_eq_true, if_false]

/-- The lead-in is absent at FFFFh, and only there. -/
theorem toNat_ffff (lead : Half) : lead.toNat = 0xFFFF ↔ lead = 0xFFFF :=
  ⟨fun h => BitVec.eq_of_toNat_eq h, fun h => by rw [h]; rfl⟩

theorem reelOf_some {lead m x e : Half} {marks : Byte} {label : List Byte} (hl : lead = 0xFFFF ∨ lead.toNat ≤ 480)
    (hm : m.toNat ≤ 38400) (hx : x.toNat ≤ 38400) (he : e.toNat ≤ 38400) (hf : marks = 0 ∨ marks = 1)
    (ht : label.all (· == 0) = true ∨ label.all printable = true) :
    reelOf lead m x e marks label = some
      ⟨if lead = 0xFFFF then none else some lead.toNat, m.toNat, x.toNat, e.toNat, decide (marks = 1),
        if label.all (· == 0) then none else some label⟩ := by
  have hl' : optRange 0xFFFF 0 480 lead.toNat = some (if lead = 0xFFFF then none else some lead.toNat) := by
    rw [optRange_some (hl.imp (toNat_ffff lead).mpr fun h => ⟨Nat.zero_le _, h⟩)]
    simp only [toNat_ffff]
  simp only [reelOf, hl', inRange_some (Nat.zero_le _) hm, inRange_some (Nat.zero_le _) hx,
    inRange_some (Nat.zero_le _) he, flagOf_some hf, labelOf_some ht]
  rfl

theorem reelOf_none {lead m x e : Half} {marks : Byte} {label : List Byte}
    (h : (lead ≠ 0xFFFF ∧ 480 < lead.toNat) ∨ 38400 < m.toNat ∨ 38400 < x.toNat ∨ 38400 < e.toNat ∨ 1 < marks.toNat ∨
      (label.all (· == 0) = false ∧ label.all printable = false)) : reelOf lead m x e marks label = none := by
  simp only [reelOf, Option.bind_eq_bind, Option.bind_eq_none_iff]
  intro l hl m' hm x' hx e' he f hf t ht
  exfalso
  rcases h with ⟨h1, h2⟩ | h | h | h | h | ⟨h1, h2⟩
  · rw [optRange, if_neg (mt (toNat_ffff lead).mp h1), inRange_none (.inr h2)] at hl
    cases hl
  · rw [inRange_none (.inr h)] at hm; cases hm
  · rw [inRange_none (.inr h)] at hx; cases hx
  · rw [inRange_none (.inr h)] at he; cases he
  · rw [flagOf_none h] at hf; cases hf
  · rw [labelOf_none h1 h2] at ht; cases ht

theorem anchorOf_some {anchor reel : Byte} {frame : Half} {a : Anchor}
    (h : anchor = 1 ∧ a = .showStart ∨ anchor = 3 ∧ a = .showEnd ∨
      anchor = 2 ∧ 1 ≤ reel.toNat ∧ reel.toNat ≤ 12 ∧ frame.toNat ≤ 38400 ∧ a = .reelFrame reel.toNat frame.toNat) :
    anchorOf anchor reel frame = some a := by
  rcases h with ⟨rfl, rfl⟩ | ⟨rfl, rfl⟩ | ⟨rfl, h1, h2, h3, rfl⟩
  · rfl
  · rfl
  · simp only [anchorOf, inRange_some h1 h2, inRange_some (Nat.zero_le _) h3]
    rfl

theorem anchorOf_none {a r : Byte} {f : Half}
    (h : a = 0 ∨ 3 < a.toNat ∨ (a = 2 ∧ (r = 0 ∨ 12 < r.toNat ∨ 38400 < f.toNat))) : anchorOf a r f = none := by
  rw [← or_assoc] at h
  rcases h with h | ⟨rfl, h⟩
  · have hz := toNat_zero_of h
    have h1 : a ≠ 1 := by rintro rfl; exact absurd hz (by decide)
    have h2 : a ≠ 2 := by rintro rfl; exact absurd hz (by decide)
    have h3 : a ≠ 3 := by rintro rfl; exact absurd hz (by decide)
    rw [anchorOf, if_neg h1, if_neg h2, if_neg h3]
  · rw [anchorOf, if_neg (by decide), if_pos rfl]
    simp only [Option.bind_eq_bind, Option.bind_eq_none_iff]
    intro r' hr f' hf
    exfalso
    rw [← or_assoc] at h
    rcases h with h | h
    · rw [inRange_zero h] at hr; cases hr
    · rw [inRange_none (.inr h)] at hf; cases hf

theorem sceneActionOf_some {scene : Byte} {fade : Half} {k : Option SceneAction}
    (h : scene = 0xFF ∧ k = none ∨
      1 ≤ scene.toNat ∧ scene.toNat ≤ 8 ∧ fade.toNat ≤ 6000 ∧ k = some ⟨scene.toNat, fade.toNat⟩) :
    sceneActionOf scene fade = some k := by
  rcases h with ⟨rfl, rfl⟩ | ⟨h1, h2, h3, rfl⟩
  · rfl
  · have hs : scene ≠ 0xFF := by rintro rfl; exact absurd h2 (by decide)
    simp only [sceneActionOf, if_neg hs, inRange_some h1 h2, inRange_some (Nat.zero_le _) h3]
    rfl

theorem sceneActionOf_none {k : Byte} {d : Half} (h : k = 0 ∨ (k ≠ 0xFF ∧ (8 < k.toNat ∨ 6000 < d.toNat))) :
    sceneActionOf k d = none := by
  have hk : k ≠ 0xFF := by
    rcases h with rfl | h
    · decide
    · exact h.1
  rw [sceneActionOf, if_neg hk]
  simp only [Option.bind_eq_bind, Option.bind_eq_none_iff]
  intro k' hk' d' hd'
  exfalso
  rcases h with rfl | ⟨-, h | h⟩
  · cases hk'
  · rw [inRange_zero (.inr h)] at hk'; cases hk'
  · rw [inRange_none (.inr h)] at hd'; cases hd'

theorem cueCurtainOf_some {curtain : Byte} {c : Option CurtainAction}
    (h : curtain = 0xFF ∧ c = none ∨ curtain = 1 ∧ c = some .opn ∨ curtain = 2 ∧ c = some .close) :
    cueCurtainOf curtain = some c := by
  rcases h with ⟨rfl, rfl⟩ | ⟨rfl, rfl⟩ | ⟨rfl, rfl⟩ <;> rfl

theorem cueCurtainOf_none {c : Byte} (h : c ≠ 0xFF ∧ c ≠ 1 ∧ c ≠ 2) : cueCurtainOf c = none := by
  rw [cueCurtainOf, if_neg h.1, if_neg h.2.1, if_neg h.2.2]

theorem cueOf_some {anchor reel scene curtain : Byte} {frame fade : Half} {a : Anchor} {k : Option SceneAction}
    {c : Option CurtainAction} (ha : anchorOf anchor reel frame = some a) (hk : sceneActionOf scene fade = some k)
    (hc : cueCurtainOf curtain = some c) (hkc : k ≠ none ∨ c ≠ none) :
    cueOf anchor reel frame scene fade curtain = some ⟨a, k, c⟩ := by
  have hn : (k.isNone && c.isNone) = false := by
    cases k with
    | some x => rfl
    | none =>
      cases c with
      | some y => rfl
      | none => simp at hkc
  simp only [cueOf, ha, hk, hc, Option.bind_eq_bind, Option.bind_some, hn, Bool.false_eq_true, if_false, pure]

theorem cueOf_none {a r k c : Byte} {f d : Half}
    (h : a = 0 ∨ 3 < a.toNat ∨ (a = 2 ∧ (r = 0 ∨ 12 < r.toNat ∨ 38400 < f.toNat)) ∨ k = 0 ∨
      (k ≠ 0xFF ∧ (8 < k.toNat ∨ 6000 < d.toNat)) ∨ (c ≠ 0xFF ∧ c ≠ 1 ∧ c ≠ 2) ∨ (k = 0xFF ∧ c = 0xFF)) :
    cueOf a r f k d c = none := by
  have hf : anchorOf a r f = none ∨ sceneActionOf k d = none ∨ cueCurtainOf c = none ∨ (k = 0xFF ∧ c = 0xFF) := by
    rcases h with h | h | h | h | h | h | h
    · exact .inl (anchorOf_none (.inl h))
    · exact .inl (anchorOf_none (.inr (.inl h)))
    · exact .inl (anchorOf_none (.inr (.inr h)))
    · exact .inr (.inl (sceneActionOf_none (.inl h)))
    · exact .inr (.inl (sceneActionOf_none (.inr h)))
    · exact .inr (.inr (.inl (cueCurtainOf_none h)))
    · exact .inr (.inr (.inr h))
  simp only [cueOf, Option.bind_eq_bind, Option.bind_eq_none_iff]
  intro a' ha k' hk c' hc
  rcases hf with hf | hf | hf | ⟨rfl, rfl⟩
  · rw [hf] at ha; cases ha
  · rw [hf] at hk; cases hk
  · rw [hf] at hc; cases hc
  · cases hk; cases hc; rfl

/-! ## The content writes -/

theorem writeReel_ok {i : Byte} {x : Reel} (h1 : 1 ≤ i.toNat) (h2 : i.toNat ≤ 12) :
    writeReel i (some x) b = .ok ({ b with reels := b.reels.setIfInBounds (i.toNat - 1) (some x) }, []) := by
  simp only [writeReel, inRange_some h1 h2]

theorem writeCue_ok {c : Cue} (h : b.cues.length < 16) :
    writeCue (some c) b = .ok ({ b with cues := insertCue b.cues c }, byte1 ((cuesBefore b.cues c).length + 1)) :=
  if_neg (Nat.not_le.mpr h)

theorem deleteCue_ok {i : Byte} (h1 : 1 ≤ i.toNat) (h2 : i.toNat ≤ b.cues.length) :
    deleteCue i b = .ok ({ b with cues := b.cues.eraseIdx (i.toNat - 1) }, []) := by
  rw [deleteCue, inRange_some h1 h2]
  rfl

theorem deleteCue_range {i : Byte} (h : i = 0 ∨ b.cues.length < i.toNat) : deleteCue i b = .error .range := by
  rw [deleteCue, inRange_zero h]
  rfl

/-- Settles O9: each write by the fields that its checks let through. -/
theorem contentWritesReplaceTheirPart : Obligations.ContentWritesReplaceTheirPart := by
  intro s t n b h ht hb hst
  have target : ∀ write, withTarget (bankOf t) (contentWrite write) s = contentWrite write (n, .next) s := fun write => by
    rw [ht, withTarget_some]
  refine ⟨fun title side count d hl hp hd h1 h2 => ?_, fun i lead m x e marks label hl h1 h2 hlead hm hx he hf ht => ?_,
    fun anchor reel frame scene fade curtain a k c hlen ha hk hc hkc => ?_, fun i h1 h2 => ?_⟩
  · refine (passes_writeHeader hl).answers h rfl ((target (writeHeader title side count)).trans ?_) h.work
    rw [contentWrite_ok hb hst (writeHeader_some (headerOf_some hp hd h1 h2)), List.append_nil]
  · refine (passes_writeReel hl).answers h rfl ((target (writeReel i (reelOf lead m x e marks label))).trans ?_) h.work
    rw [reelOf_some hlead hm hx he hf ht, contentWrite_ok hb hst (writeReel_ok h1 h2), List.append_nil]
  · refine (passes_writeCue _ _ _ _ _ _ _).answers h rfl
      ((target (writeCue (cueOf anchor reel frame scene fade curtain))).trans ?_) h.work
    rw [cueOf_some (anchorOf_some ha) (sceneActionOf_some hk) (cueCurtainOf_some hc) hkc,
      contentWrite_ok hb hst (writeCue_ok hlen)]
  · refine (passes_deleteCue t i).answers h rfl ((target (deleteCue i)).trans ?_) h.work
    rw [contentWrite_ok hb hst (deleteCue_ok h1 h2), List.append_nil]

/-- What refuses a content write before its fields are looked at refuses all four. -/
theorem content_writes_refused {t : Byte} {e : Status} (h : s.Ready .program)
    (hw : ∀ write, withTarget (bankOf t) (contentWrite write) s = refuse e s) :
    (∀ title side count, title.length = 16 → Refuses (.writeHeader .program t title side count) s e) ∧
    (∀ j lead m x y marks label, label.length = 10 → Refuses (.writeReel .program t j lead m x y marks label) s e) ∧
    (∀ a r f k d c, Refuses (.writeCue .program t a r f k d c) s e) ∧ ∀ i, Refuses (.deleteCue .program t i) s e :=
  ⟨fun title side count hl => (passes_writeHeader hl).refuses h rfl (hw (writeHeader title side count)),
    fun j lead m x y marks label hl =>
      (passes_writeReel hl).refuses h rfl (hw (writeReel j (reelOf lead m x y marks label))),
    fun a r f k d c => (passes_writeCue t a r f k d c).refuses h rfl (hw (writeCue (cueOf a r f k d c))),
    fun i => (passes_deleteCue t i).refuses h rfl (hw (deleteCue i))⟩

/-- Settles O10: the shared checks refuse all four writes at once, and then each write has its own. -/
theorem contentWritesAreRefusedInOrder : Obligations.ContentWritesAreRefusedInOrder := by
  intro s t h
  refine ⟨fun ht => content_writes_refused h fun _ => by rw [ht, withTarget_none], fun n role ht => ?_⟩
  have target : ∀ write, withTarget (bankOf t) (contentWrite write) s = contentWrite write (n, role) s := fun write => by
    rw [ht, withTarget_some]
  refine ⟨fun hc => content_writes_refused h fun w => (target w).trans (contentWrite_clearing (n, role) hc),
    fun hc hr => content_writes_refused h fun w => (target w).trans (contentWrite_in_use (n, role) hc hr),
    fun hc hr => ?_, fun hst hr => ?_⟩
  · subst hr
    exact content_writes_refused h fun w => (target w).trans (contentWrite_complete hc)
  subst hr
  refine ⟨fun title side count hl hf => ?_, fun j lead m x e marks label hl hf => ?_, fun a r f k d c hf => ?_,
    fun a r f k d c hc hlen => ?_⟩
  · refine (passes_writeHeader hl).refuses h rfl ((target (writeHeader title side count)).trans ?_)
    exact contentWrite_error rfl hst (by rw [writeHeader, headerOf_none hf])
  · refine (passes_writeReel hl).refuses h rfl ((target (writeReel j (reelOf lead m x e marks label))).trans ?_)
    refine contentWrite_error rfl hst ?_
    rw [← or_assoc] at hf
    rcases hf with hf | hf
    · simp [writeReel, inRange_zero hf]
    · simp [writeReel, reelOf_none hf]
  · refine (passes_writeCue t a r f k d c).refuses h rfl ((target (writeCue (cueOf a r f k d c))).trans ?_)
    exact contentWrite_error rfl hst (by rw [cueOf_none hf, writeCue])
  · refine (passes_writeCue t a r f k d c).refuses h rfl ((target (writeCue (cueOf a r f k d c))).trans ?_)
    obtain ⟨x, hx⟩ := Option.isSome_iff_exists.mp hc
    exact contentWrite_error rfl hst (by rw [hx, writeCue, if_pos hlen])

/-- Settles O11: the entry goes by `List.eraseIdx`. -/
theorem deleteCueRemovesOneEntry : Obligations.DeleteCueRemovesOneEntry := by
  intro s t i n b h ht hb hst
  refine ⟨fun h1 h2 => ⟨b.cues.eraseIdx (i.toNat - 1), ?_, ?_, fun k hk => ?_, fun k hk => ?_⟩, fun hi => ?_⟩
  · exact (contentWritesReplaceTheirPart s t n b h ht hb hst).2.2.2 i h1 h2
  · rw [List.length_eraseIdx_of_lt (by omega)]
    omega
  · rw [List.getElem?_eraseIdx_of_lt hk]
  · rw [List.getElem?_eraseIdx_of_ge hk]
  · refine (passes_deleteCue t i).refuses h (body := withTarget _ (contentWrite (deleteCue i))) rfl ?_
    rw [ht, withTarget_some]
    exact contentWrite_error hb hst (deleteCue_range hi)

/-! ## Anchor order (R8) -/

theorem Anchor.le_trans {a b c : Anchor} (h : a.le b = true) (k : b.le c = true) : a.le c = true := by
  cases a <;> cases b <;> cases c <;>
    simp only [Anchor.le, Bool.or_eq_true, Bool.and_eq_true, decide_eq_true_eq, Bool.false_eq_true] at *
  omega

theorem Anchor.le_of_not {a b : Anchor} (h : a.le b = false) : b.le a = true := by
  cases a <;> cases b <;>
    simp only [Anchor.le, Bool.or_eq_true, Bool.or_eq_false_iff, Bool.and_eq_true, Bool.and_eq_false_iff,
      decide_eq_true_eq, decide_eq_false_iff_not, Bool.true_eq_false] at *
  omega

/-- In anchor order, past the first entry of a later anchor every entry has a later anchor. -/
theorem later_of_mem_dropWhile {l : List Cue} {c x : Cue} (hl : l.Pairwise fun a b => a.anchor.le b.anchor = true)
    (hx : x ∈ l.dropWhile fun y => y.anchor.le c.anchor) : x.anchor.le c.anchor = false := by
  induction l with
  | nil => cases hx
  | cons y rest ih =>
    obtain ⟨hy, hrest⟩ := List.pairwise_cons.mp hl
    cases hyc : y.anchor.le c.anchor with
    | true =>
      rw [List.dropWhile_cons_of_pos (by simp [hyc])] at hx
      exact ih hrest hx
    | false =>
      rw [List.dropWhile_cons_of_neg (by simp [hyc])] at hx
      rcases List.mem_cons.mp hx with rfl | hx
      · exact hyc
      · by_contra hc
        simp only [Bool.not_eq_false] at hc
        rw [Anchor.le_trans (hy x hx) hc] at hyc
        cases hyc

/-- Settles O12: the entries up to the first later one stand before the new entry, and the rest after it. -/
theorem cuesStandInAnchorOrder : Obligations.CuesStandInAnchorOrder := by
  intro l c hl
  have hsplit := List.takeWhile_append_dropWhile (p := fun x : Cue => x.anchor.le c.anchor) (l := l)
  have hbefore : ∀ x ∈ cuesBefore l c, x.anchor.le c.anchor = true := fun x hx => by
    simpa using List.mem_takeWhile_imp hx
  have hafter : ∀ x ∈ l.dropWhile fun x => x.anchor.le c.anchor, x.anchor.le c.anchor = false :=
    fun x hx => later_of_mem_dropWhile hl hx
  refine ⟨cuesBefore l c, l.dropWhile fun x => x.anchor.le c.anchor, hsplit.symm, rfl, hbefore, hafter, ?_⟩
  rw [← hsplit] at hl
  obtain ⟨h1, h2, h3⟩ := List.pairwise_append.mp hl
  refine List.pairwise_append.mpr ⟨h1, List.pairwise_cons.mpr ⟨fun x hx => Anchor.le_of_not (hafter x hx), h2⟩,
    fun x hx y hy => ?_⟩
  rcases List.mem_cons.mp hy with rfl | hy
  · exact hbefore x hx
  · exact h3 x hx y hy

end Sys2Proof.Machine
end

section
/-! COMMIT_BANK with the checks of Table 7 (R11), REOPEN_BANK (R12), and the refusals of ROTATE (R14). -/

namespace Sys2Proof.Machine

variable {s : State} {n : ScreenNo} {b : Bank}

/-! ## The first place that fails -/

/-- `k` is the first of the places 1 to `top` where `f` holds. -/
def FirstIn (top : Nat) (f : Nat → Prop) (k : Nat) : Prop := 1 ≤ k ∧ k ≤ top ∧ f k ∧ ∀ j, 1 ≤ j → j < k → ¬ f j

/-- `f` holds at none of the places 1 to `top`. -/
def NeverIn (top : Nat) (f : Nat → Prop) : Prop := ∀ k, 1 ≤ k → k ≤ top → ¬ f k

variable {top k : Nat} {f : Nat → Prop}

theorem firstReel_some {passes : Option Reel → Bool} {item : Nat → Item} (hf : ∀ r, f r ↔ passes (b.slot r) = false)
    (h : FirstIn top f k) : b.firstReel top passes item = some (item k) := by
  obtain ⟨h1, h2, hk, hj⟩ := h
  have hfind : (List.range' 1 top).find? (fun r => !passes (b.slot r)) = some k := by
    rw [List.find?_range'_eq_some]
    refine ⟨by simp [(hf k).mp hk], by simp; omega, fun j hj1 hjk => ?_⟩
    simpa [hf] using hj j hj1 hjk
  rw [Bank.firstReel, hfind]
  rfl

theorem firstReel_none {passes : Option Reel → Bool} {item : Nat → Item} (hf : ∀ r, f r ↔ passes (b.slot r) = false)
    (h : NeverIn top f) : b.firstReel top passes item = none := by
  rw [Bank.firstReel, Option.map_eq_none_iff, List.find?_eq_none]
  intro r hr
  obtain ⟨h1, h2⟩ := List.mem_range'_1.mp hr
  simpa [hf] using h r h1 (by omega)

/-- The first entry of a numbered list that passes a test on entries. -/
theorem find?_zipIdx {α : Type} {p : α → Bool} {l : List α} {m i : Nat} {c : α} (hc : l[i]? = some c) (hp : p c = true)
    (hj : ∀ j, j < i → ∀ d, l[j]? = some d → p d = false) :
    (l.zipIdx m).find? (fun x => p x.1) = some (c, m + i) := by
  induction l generalizing m i with
  | nil => simp at hc
  | cons d rest ih =>
    cases i with
    | zero =>
      obtain rfl : d = c := by simpa using hc
      simp [hp]
    | succ i =>
      have hd : p d = false := hj 0 (Nat.succ_pos i) d rfl
      rw [List.zipIdx_cons, List.find?_cons_of_neg (by simp [hd]),
        ih (m := m + 1) (i := i) (by simpa using hc) fun j hji e he => hj (j + 1) (by omega) e (by simpa using he)]
      congr 2
      omega

theorem firstCue_some {passes : Anchor → Bool} {item : Nat → Item}
    (hf : ∀ j, f j ↔ ∃ c, b.cues[j - 1]? = some c ∧ passes c.anchor = false) (h : FirstIn b.cues.length f k) :
    b.firstCue passes item = some (item k) := by
  obtain ⟨h1, h2, hk, hj⟩ := h
  obtain ⟨c, hc, hp⟩ := (hf k).mp hk
  have hfind : (b.cues.zipIdx 1).find? (fun x => !passes x.1.anchor) = some (c, 1 + (k - 1)) := by
    refine find?_zipIdx (p := fun c : Cue => !passes c.anchor) hc (by simp [hp]) fun j hjk d hd => ?_
    have hnot := hj (j + 1) (by omega) (by omega)
    rw [hf] at hnot
    simpa using fun hpd => hnot ⟨d, hd, hpd⟩
  rw [Bank.firstCue, hfind, Nat.add_sub_cancel' h1]
  rfl

theorem firstCue_none {passes : Anchor → Bool} {item : Nat → Item}
    (hf : ∀ j, f j ↔ ∃ c, b.cues[j - 1]? = some c ∧ passes c.anchor = false) (h : NeverIn b.cues.length f) :
        b.firstCue passes item = none := by
  rw [Bank.firstCue, Option.map_eq_none_iff, List.find?_eq_none]
  intro x hx
  obtain ⟨h1, h2, h3⟩ := List.mem_zipIdx hx
  have hnot := h x.2 h1 (by omega)
  rw [hf] at hnot
  simpa using fun hp => hnot ⟨x.1, by rw [List.getElem?_eq_getElem (by omega), h3], hp⟩

/-! ## The checks of Table 7 -/

/-- A check on present records fails at a slot whose record fails it. -/
theorem onReel_eq_false {g : Reel → Bool} {o : Option Reel} : onReel g o = false ↔ ∃ x, o = some x ∧ g x = false := by
  cases o <;> simp [onReel]

/-- A check on REEL_FRAME anchors, which every other anchor passes. -/
def Anchor.check (g : Nat → Nat → Bool) : Anchor → Bool
  | .reelFrame r y => g r y
  | _ => true

/-- It fails at an entry with such an anchor that fails it. -/
theorem anchor_check_fails {g : Nat → Nat → Bool} {l : List Cue} {j : Nat} :
    (∃ c, l[j]? = some c ∧ c.anchor.check g = false) ↔
      ∃ c r y, l[j]? = some c ∧ c.anchor = .reelFrame r y ∧ g r y = false := by
  constructor
  · rintro ⟨c, hc, hg⟩
    cases ha : c.anchor with
    | reelFrame r y => exact ⟨c, r, y, hc, ha, by rwa [ha] at hg⟩
    | showStart => rw [ha] at hg; cases hg
    | showEnd => rw [ha] at hg; cases hg
  · rintro ⟨c, r, y, hc, ha, hg⟩
    exact ⟨c, hc, by rw [ha]; exact hg⟩

/-! The five checks that follow HEADER and REEL_MISSING, by their items. -/

def leadInCheck : Option Reel → Bool := onReel fun r => decide (r.leadIn.getD 192 < r.motorCue)

def orderCheck : Option Reel → Bool :=
  onReel fun r => decide (r.motorCue < r.changeoverCue) && decide (r.changeoverCue < r.pictureEnd)

def gapCheck : Option Reel → Bool := onReel fun r => decide (96 ≤ r.changeoverCue - r.motorCue)

def anchorReelCheck (count : Nat) : Anchor → Bool := Anchor.check fun r _ => decide (r ≤ count)

def anchorFrameCheck (b : Bank) : Anchor → Bool :=
  Anchor.check fun r f => onReel (fun x => decide (f < x.pictureEnd)) (b.slot r)

/-- The checks of a bank with a header, in their order (Table 7). -/
theorem Bank.commitFault_of_header {h : Header} (hh : b.header = some h) :
    b.commitFault = (b.firstReel h.reelCount Option.isSome .reelMissing <|> b.firstReel h.reelCount leadInCheck .leadIn <|>
      b.firstReel h.reelCount orderCheck .cueOrder <|> b.firstReel h.reelCount gapCheck .cueGap <|>
      b.firstCue (anchorReelCheck h.reelCount) .anchorReel <|> b.firstCue (anchorFrameCheck b) .anchorFrame) := by
  unfold Bank.commitFault
  rw [hh]
  rfl

theorem missing_iff (b : Bank) (r : Nat) : b.slot r = none ↔ (b.slot r).isSome = false := by simp

theorem leadInCheck_fails (b : Bank) (r : Nat) :
    (∃ x, b.slot r = some x ∧ x.motorCue ≤ x.leadIn.getD 192) ↔ leadInCheck (b.slot r) = false := by
  simp only [leadInCheck, onReel_eq_false, decide_eq_false_iff_not, Nat.not_lt]

theorem orderCheck_fails (b : Bank) (r : Nat) :
    (∃ x, b.slot r = some x ∧ ¬ (x.motorCue < x.changeoverCue ∧ x.changeoverCue < x.pictureEnd)) ↔
      orderCheck (b.slot r) = false := by
  simp only [orderCheck, onReel_eq_false, Bool.and_eq_false_iff, decide_eq_false_iff_not, not_and_or]

theorem gapCheck_fails (b : Bank) (r : Nat) :
    (∃ x, b.slot r = some x ∧ x.changeoverCue - x.motorCue < 96) ↔ gapCheck (b.slot r) = false := by
  simp only [gapCheck, onReel_eq_false, decide_eq_false_iff_not, Nat.not_le]

theorem anchorReelCheck_fails (b : Bank) (count j : Nat) :
    (∃ c r y, b.cues[j - 1]? = some c ∧ c.anchor = .reelFrame r y ∧ count < r) ↔
      ∃ c, b.cues[j - 1]? = some c ∧ anchorReelCheck count c.anchor = false := by
  simp only [anchorReelCheck, anchor_check_fails, decide_eq_false_iff_not, Nat.not_le]

theorem anchorFrameCheck_fails (b : Bank) (j : Nat) :
    (∃ c r y, b.cues[j - 1]? = some c ∧ c.anchor = .reelFrame r y ∧ ∃ x, b.slot r = some x ∧ x.pictureEnd ≤ y) ↔
      ∃ c, b.cues[j - 1]? = some c ∧ anchorFrameCheck b c.anchor = false := by
  simp only [anchorFrameCheck, anchor_check_fails, onReel_eq_false, decide_eq_false_iff_not, Nat.not_lt]

/-- COMMIT_BANK on a NEXT in EMPTY or DRAFT (R11). -/
theorem commit_open (h : (s.bankIn n .next).state = .empty ∨ (s.bankIn n .next).state = .draft) :
    commit n s = match (s.bankIn n .next).commitFault with
      | some i => (s, .incomplete i)
      | none => (s.setBank n (s.bankNo n .next) { s.bankIn n .next with state := .complete }, .ok []) := by
  have h1 : (s.bank n (s.bankNo n .next)).state ≠ .complete ∧ (s.bank n (s.bankNo n .next)).state ≠ .clearing := by
    have h' : (s.bank n (s.bankNo n .next)).state = .empty ∨ (s.bank n (s.bankNo n .next)).state = .draft := h
    rcases h' with h' | h' <;> simp [h']
  unfold commit
  dsimp only
  rw [if_neg (by simp [h1])]
  rfl

theorem commit_complete (h : (s.bankIn n .next).state = .complete) : commit n s = refuse .state s := by
  have h1 : (s.bank n (s.bankNo n .next)).state = .complete := h
  simp [commit, h1]

/-- Settles O13: the six checks after the header in their order, each through the places where it fails. -/
theorem commitRunsTheChecks : Obligations.CommitRunsTheChecks := by
  refine ⟨fun s t n b h ht hb => ⟨fun hst => ⟨fun hf => ?_, fun i hf => ?_⟩, fun hst => ?_⟩, fun b => ?_⟩
  · subst hb
    exact (passes_commitBank t).answers h (body := withTarget (screenOf t) commit) rfl
      (by rw [ht, withTarget_some, commit_open hst, hf]) h.work
  · subst hb
    exact (passes_commitBank t).answers h (body := withTarget (screenOf t) commit) rfl
      (by rw [ht, withTarget_some, commit_open hst, hf]) h.work
  · subst hb
    exact (passes_commitBank t).refuses h (body := withTarget (screenOf t) commit) rfl
      (by rw [ht, withTarget_some, commit_complete hst])
  · refine ⟨fun hh => by simp only [Bank.commitFault, hh], fun h hh => ?_⟩
    rw [Bank.commitFault_of_header hh]
    refine ⟨fun r hr => ?_, fun n1 => ⟨fun r hr => ?_, fun n2 => ⟨fun r hr => ?_, fun n3 => ⟨fun r hr => ?_,
      fun n4 => ⟨fun k hk => ?_, fun n5 => ⟨fun k hk => ?_, fun n6 => ?_⟩⟩⟩⟩⟩⟩
    · rw [firstReel_some (missing_iff b) hr]; rfl
    · rw [firstReel_none (missing_iff b) n1, firstReel_some (leadInCheck_fails b) hr]; rfl
    · rw [firstReel_none (missing_iff b) n1, firstReel_none (leadInCheck_fails b) n2,
        firstReel_some (orderCheck_fails b) hr]; rfl
    · rw [firstReel_none (missing_iff b) n1, firstReel_none (leadInCheck_fails b) n2,
        firstReel_none (orderCheck_fails b) n3, firstReel_some (gapCheck_fails b) hr]; rfl
    · rw [firstReel_none (missing_iff b) n1, firstReel_none (leadInCheck_fails b) n2,
        firstReel_none (orderCheck_fails b) n3, firstReel_none (gapCheck_fails b) n4,
        firstCue_some (anchorReelCheck_fails b _) hk]
      rfl
    · rw [firstReel_none (missing_iff b) n1, firstReel_none (leadInCheck_fails b) n2,
        firstReel_none (orderCheck_fails b) n3, firstReel_none (gapCheck_fails b) n4,
        firstCue_none (anchorReelCheck_fails b _) n5, firstCue_some (anchorFrameCheck_fails b) hk]
      rfl
    · rw [firstReel_none (missing_iff b) n1, firstReel_none (leadInCheck_fails b) n2,
        firstReel_none (orderCheck_fails b) n3, firstReel_none (gapCheck_fails b) n4,
        firstCue_none (anchorReelCheck_fails b _) n5, firstCue_none (anchorFrameCheck_fails b) n6]
      rfl

/-! ## REOPEN_BANK (R12) -/

theorem reopen_complete (h : (s.bankIn n .next).state = .complete) :
    reopen n s = (s.setBank n (s.bankNo n .next) { s.bankIn n .next with state := .draft }, .ok []) := if_pos h

theorem reopen_refused (h : (s.bankIn n .next).state ≠ .complete) : reopen n s = refuse .state s := if_neg h

/-- A rotation that waits finds nothing to rotate when NEXT is not COMPLETE (R16). -/
theorem State.deferredRotation_dropped (hp : s.retained.rotationPending.get n = true)
    (h : ¬ (s.darkAndIdle n = true ∧ (s.bankIn n .next).state = .complete)) :
    s.deferredRotation n = s.setRotationPending n false := by
  have hc : ¬ (s.darkAndIdle n && decide ((s.bankIn n .next).state = .complete)) = true := by simpa using h
  rw [State.deferredRotation, if_pos hp, if_neg hc]

/-- Settles O14. -/
theorem reopenReturnsNextToDraft : Obligations.ReopenReturnsNextToDraft := by
  intro s t n h ht
  refine ⟨fun hc => ?_, fun hst => ?_, fun hc hp => State.deferredRotation_dropped hp fun hd => hc hd.2⟩
  · exact (passes_reopenBank t).answers h (body := withTarget (screenOf t) reopen) rfl
      (by rw [ht, withTarget_some, reopen_complete hc]) h.work
  · have hc : (s.bankIn n .next).state ≠ .complete := by rcases hst with hst | hst <;> simp [hst]
    exact (passes_reopenBank t).refuses h (body := withTarget (screenOf t) reopen) rfl
      (by rw [ht, withTarget_some, reopen_refused hc])

/-! ## The refusals of ROTATE (R14) -/

theorem State.darkAndIdle_iff : s.darkAndIdle n = true ↔
    (s.screen n).state = .dark ∧ ((s.showRec n).state = .waiting ∨ (s.showRec n).state = .called) := by
  simp [State.darkAndIdle]

theorem rotateRequest_not_dark (h : s.darkAndIdle n = false) : rotateRequest n s = refuse .notDark s := by
  simp [rotateRequest, h]

theorem rotateRequest_incomplete (h : s.darkAndIdle n = true) (hc : (s.bankIn n .next).state ≠ .complete) :
    rotateRequest n s = (s, .incomplete (.nextState (s.bankIn n .next).state)) := by
  simp [rotateRequest, h, hc]

theorem rotateRequest_clearing (h : s.darkAndIdle n = true) (hc : (s.bankIn n .next).state = .complete)
    (hs : (s.bankIn n .spare).state = .clearing) : rotateRequest n s = refuse .bankClearing s := by
  simp [rotateRequest, h, hc, hs]

theorem rotateRequest_ok (h : s.darkAndIdle n = true) (hc : (s.bankIn n .next).state = .complete)
    (hs : (s.bankIn n .spare).state ≠ .clearing) :
    rotateRequest n s = (s.rotation n, .ok (byte1 (s.bankNo n .next).code)) := by
  simp [rotateRequest, h, hc, hs]

/-- Settles O16. -/
theorem rotateIsRefusedInOrder : Obligations.RotateIsRefusedInOrder := by
  intro s st t n h hst ht
  have target : withTarget (screenOf t) rotateRequest s = rotateRequest n s := by rw [ht, withTarget_some]
  refine ⟨fun hd => ?_, fun hd hsh => ⟨fun hc => ?_, fun hc hs => ?_⟩⟩
  · have hi : s.darkAndIdle n = false := by
      rw [Bool.eq_false_iff, Ne, State.darkAndIdle_iff]
      rintro ⟨h1, h2 | h2⟩ <;> simp [h1, h2] at hd
    exact (passes_rotate t hst).refuses h rfl (target.trans (rotateRequest_not_dark hi))
  · exact (passes_rotate t hst).answers h rfl
      (target.trans (rotateRequest_incomplete (State.darkAndIdle_iff.mpr ⟨hd, hsh⟩) hc)) h.work
  · exact (passes_rotate t hst).refuses h rfl
      (target.trans (rotateRequest_clearing (State.darkAndIdle_iff.mpr ⟨hd, hsh⟩) hc hs))

end Sys2Proof.Machine
end

section
/-! A rotation as a whole (R13): the banks and the clear queue, and the two projectors that it empties (R38). ROTATE (R14)
and the end of a clear (R16, R18) rest on it. -/

namespace Sys2Proof.Machine

variable {s t u w : State} {n : ScreenNo}

/-! ## What the scheduler leaves alone -/

/-- All but the show records and what has been sent in the step: what the scheduler reads and leaves. -/
def State.outsideShows (s : State) : State := { s with shows := .const ⟨.waiting, none, .none⟩, work := .empty }

@[simp] theorem State.tellDuty_outsideShows (s : State) (d : DutyNotice) : (s.tellDuty d).outsideShows = s.outsideShows :=
  rfl
@[simp] theorem State.post_outsideShows (s : State) (b : Block) (c : AttnCause) :
    (s.post b c).outsideShows = s.outsideShows := rfl
@[simp] theorem State.noteRetest_outsideShows (s : State) (m : ScreenNo) : (s.noteRetest m).outsideShows = s.outsideShows :=
  rfl
@[simp] theorem State.setShow_outsideShows (s : State) (m : ScreenNo) (r : ShowRec) :
    (s.setShow m r).outsideShows = s.outsideShows := rfl

@[simp] theorem State.storeReadiness_outsideShows (s : State) (m : ScreenNo) :
    (s.storeReadiness m).outsideShows = s.outsideShows := by
  unfold State.storeReadiness State.carbonNotice
  split <;> [split; skip] <;> rfl

@[simp] theorem State.armNext_outsideShows (s : State) (m : ScreenNo) : (s.armNext m).outsideShows = s.outsideShows := by
  have hc : ∀ (t : State) (k : Nat), (t.callScreen m k).outsideShows = t.outsideShows := fun t k => by
    simp [State.callScreen, State.setShowState]
  have hu : ∀ t : State, (t.uncall m).outsideShows = t.outsideShows := fun t => by
    unfold State.uncall State.setShowState
    split <;> rfl
  unfold State.armNext
  dsimp only
  split
  · split
    · split <;> simp [hc, hu]
    · simp [hu]
  · rfl

@[simp] theorem State.schedulerRotation_outsideShows (s : State) (m : ScreenNo) :
    (s.schedulerRotation m).outsideShows = s.outsideShows := by simp [State.schedulerRotation]

@[simp] theorem State.schedulerShowEnd_outsideShows (s : State) (m : ScreenNo) :
    (s.schedulerShowEnd m).outsideShows = s.outsideShows := by
  unfold State.schedulerShowEnd State.setShowState
  split <;> simp

/-! ## What the end of a showing leaves alone -/

/-- All but the arcs, their accounts and what has been sent in the step: what the arc unit's notices leave. -/
def State.outsideArcs (s : State) : State :=
  { s with arcs := .const (.ofStore .default), retained := { s.retained with arcs := .const .default }, work := .empty }

@[simp] theorem State.arcShowingEnded_outsideArcs (s : State) (p : ProjNo) :
    (s.arcShowingEnded p).outsideArcs = s.outsideArcs := by
  unfold State.arcShowingEnded State.retrimNotice State.noteArmIfStandby
  dsimp only
  split <;> [split; skip] <;> rfl

@[simp] theorem State.endShowing_outsideArcs (s : State) (p : ProjNo) : (s.endShowing p).outsideArcs = s.outsideArcs := by
  unfold State.endShowing
  split
  · exact s.arcShowingEnded_outsideArcs p
  · rfl

theorem State.runs_of_outsideArcs (h : t.outsideArcs = s.outsideArcs) :
    t.projectors = s.projectors ∧ t.trackers = s.trackers ∧ t.retained.runMarks = s.retained.runMarks ∧
      t.bankView = s.bankView := by
  simp only [State.outsideArcs, State.mk.injEq, Retained.mk.injEq] at h
  simp only [State.bankView, h, and_self]

/-! ## A projector that a rotation resets (R38) -/

/-- The opening reel is read from the header of CURRENT. -/
theorem State.openingReel_congr (h : t.bankView = s.bankView) (p : ProjNo) : t.openingReel p = s.openingReel p := by
  simp only [State.openingReel, State.header, State.bankIn_congr h]

/-- An EMPTY projector with an assignment. -/
def Projector.emptied (assigned : Option Nat) : Projector :=
  { runState := .empty, loaded := none, assigned := assigned, haltCause := none, midReel := false, douser := .closed }

theorem State.rotateProjector_runs (s : State) (p q : ProjNo) :
    (s.rotateProjector p).projector q = (if q = p then .emptied (s.openingReel p) else s.projector q) ∧
    (s.rotateProjector p).tracker q = (if q = p then (s.tracker p).emptied else s.tracker q) ∧
    (s.rotateProjector p).runMarks q = (if q = p then ⟨false, none, 0⟩ else s.runMarks q) := by
  have hk : ∃ w : State, s.rotateProjector p = (w.becomeEmpty p (w.openingReel p)).noteRunState p.screen ∧
      w.projectors = s.projectors ∧ w.trackers = s.trackers ∧ w.retained.runMarks = s.retained.runMarks ∧
      w.bankView = s.bankView := by
    have he := State.runs_of_outsideArcs (s.endShowing_outsideArcs p)
    have ho := State.openingReel_congr he.2.2.2 p
    unfold State.rotateProjector
    dsimp only
    rw [← ho]
    split
    · exact ⟨(s.endShowing p).clearCause (.filmBreak p), rfl, he⟩
    · exact ⟨s.endShowing p, rfl, he⟩
  obtain ⟨w, hw, hp, ht, hm, hv⟩ := hk
  rw [hw, State.openingReel_congr hv p]
  simp [State.becomeEmpty, State.noteRunState, State.projector, State.tracker, State.runMarks, hp, ht, hm,
    Projector.emptied]

/-- A rotation empties both projectors of its screen, and gives each the opening reel of its side in the new CURRENT. -/
theorem State.rotation_runs (s : State) (n : ScreenNo) (d : Side) :
    (s.rotation n).projector ⟨n, d⟩ = .emptied ((s.rotateBanks n).openingReel ⟨n, d⟩) ∧
    ((s.rotation n).tracker ⟨n, d⟩).counter = 0 ∧ (s.rotation n).runMarks ⟨n, d⟩ = ⟨false, none, 0⟩ := by
  have ha := State.rotateProjector_runs (s.rotateBanks n) ⟨n, .a⟩ ⟨n, .a⟩
  have ho : ∀ e, ((s.rotateBanks n).rotateProjector ⟨n, .a⟩).openingReel e = (s.rotateBanks n).openingReel e :=
    State.openingReel_congr (State.bankPart_iff.mp (State.rotateProjector_bankPart _ _)).1
  have hb := State.rotateProjector_runs ((s.rotateBanks n).rotateProjector ⟨n, .a⟩) ⟨n, .b⟩ ⟨n, d⟩
  generalize hw : ((s.rotateBanks n).rotateProjector ⟨n, .a⟩).rotateProjector ⟨n, .b⟩ = w at hb
  have hs := w.schedulerRotation_outsideShows n
  simp only [State.outsideShows, State.mk.injEq] at hs
  have hr : (s.rotation n).projector ⟨n, d⟩ = w.projector ⟨n, d⟩ ∧ (s.rotation n).tracker ⟨n, d⟩ = w.tracker ⟨n, d⟩ ∧
      (s.rotation n).runMarks ⟨n, d⟩ = w.runMarks ⟨n, d⟩ := by
    unfold State.rotation
    rw [hw]
    simp only [State.projector, State.tracker, State.runMarks, State.post_projectors, State.tellDuty_projectors,
      State.post_trackers, State.tellDuty_trackers, State.post_retained, State.tellDuty_retained, hs, and_self]
  rw [hr.1, hr.2.1, hr.2.2, hb.1, hb.2.1, hb.2.2]
  cases d
  · simp [ha, Tracker.emptied]
  · simp [ho, Tracker.emptied]

/-! ## The banks after a rotation -/

theorem State.bankIn_rotateBanks (h : s.RolesApart n) :
    (s.rotateBanks n).bankIn n .current = { s.bankIn n .next with role := .current } ∧
    (s.rotateBanks n).bankIn n .next = { s.bankIn n .spare with role := .next } ∧
    (s.rotateBanks n).bankIn n .spare = { s.bankIn n .current with role := .spare, state := .clearing } := by
  have key : ∀ r, (s.rotateBanks n).bankIn n r.rotated = (s.bankIn n r).rotated := by
    intro r
    have hb : (s.rotateBanks n).bank n (s.bankNo n r) = (s.bankIn n r).rotated := by
      rw [State.bank_rotateBanks, if_pos rfl, State.bankIn]
    have hr : ((s.rotateBanks n).bank n (s.bankNo n r)).role = r.rotated := by
      rw [hb, Bank.rotated_role, h.role_bankIn]
    rw [(State.rotateBanks_apart h).bankIn_eq hr, hb]
  refine ⟨(key .next).trans ?_, (key .spare).trans ?_, (key .current).trans ?_⟩ <;> simp [Bank.rotated, h.role_bankIn]

/-- A state with the banks of a rotation and the projectors that it has emptied (R13, R38). -/
structure Rotated (s u : State) (n : ScreenNo) : Prop where
  current : u.bankIn n .current = { s.bankIn n .next with role := .current }
  next : u.bankIn n .next = { s.bankIn n .spare with role := .next }
  spare : u.bankIn n .spare = { s.bankIn n .current with role := .spare, state := .clearing }
  others : ∀ m b, m ≠ n → u.bank m b = s.bank m b
  unit : u.bankUnit = (s.rotateBanks n).bankUnit
  pending : u.retained.rotationPending = s.retained.rotationPending.set n false
  emptied : ∀ d, (u.projector ⟨n, d⟩).runState = .empty ∧ (u.projector ⟨n, d⟩).loaded = none ∧
    (u.projector ⟨n, d⟩).assigned = u.openingReel ⟨n, d⟩ ∧ (u.tracker ⟨n, d⟩).counter = 0 ∧
    u.runMarks ⟨n, d⟩ = ⟨false, none, 0⟩

theorem State.rotation_rotated (h : s.RolesApart n) : Rotated s (s.rotation n) n := by
  have hv : (s.rotation n).bankView = (s.rotateBanks n).bankView := (State.bankPart_iff.mp (s.rotation_bankPart n)).1
  obtain ⟨hc, hn, hs⟩ := State.bankIn_rotateBanks h
  refine ⟨(State.bankIn_congr hv _ _).trans hc, (State.bankIn_congr hv _ _).trans hn, (State.bankIn_congr hv _ _).trans hs,
    fun m b hmn => ?_, State.bankUnit_congr hv, congrArg BankView.rotationPending hv, fun d => ?_⟩
  · rw [State.bank_congr hv, State.bank_rotateBanks, if_neg hmn]
  · obtain ⟨h1, h2, h3⟩ := State.rotation_runs s n d
    rw [h1, h2, h3, State.openingReel_congr hv]
    exact ⟨rfl, rfl, rfl, rfl, rfl⟩

theorem Rotated.reply (h : Rotated s w n) (st : Station) (r : Request) (a : Answer) : Rotated s (w.reply st r a) n :=
  ⟨h.current, h.next, h.spare, h.others, h.unit, h.pending, h.emptied⟩

theorem Rotated.post (h : Rotated s w n) (b : Block) (c : AttnCause) : Rotated s (w.post b c) n :=
  ⟨h.current, h.next, h.spare, h.others, h.unit, h.pending, h.emptied⟩

/-- The end of the step leaves a rotation as it is: no EMPTY projector is started. -/
theorem Rotated.settle (h : Rotated s w n) : Rotated s w.settle n := by
  have hv := w.settle_bankView
  have hq := fun d => w.settle_projector ⟨n, d⟩ (by rw [(h.emptied d).1]; simp)
  refine ⟨(State.bankIn_congr hv _ _).trans h.current, (State.bankIn_congr hv _ _).trans h.next,
    (State.bankIn_congr hv _ _).trans h.spare, fun m b hmn => (State.bank_congr hv m b).trans (h.others m b hmn),
    (State.bankUnit_congr hv).trans h.unit, by rw [State.settle_retained]; exact h.pending, fun d => ?_⟩
  rw [(hq d).1, (hq d).2, State.openingReel_congr hv, State.runMarks, State.settle_retained]
  exact h.emptied d

/-! ## ROTATE (R14) -/

theorem State.links_congr (h : t.fixed = s.fixed) : t.links = s.links := congrArg Fixed.links h

/-- The reply of a request that is taken is at its link when the step has ended. -/
theorem Passes.sends {c : Instr} {st : Station} {r : Request} (hp : Passes c st r) (a : Answer) :
    (w.reply st r a).settle.Sends c a := by
  have hl : (w.reply st r a).settle.link st = (w.reply st r a).link st :=
    congrArg (ByStation.get · st) (State.links_congr (State.settle_fixed _))
  refine ⟨st, r, hp.frame, ?_⟩
  rw [hl]
  simp [State.reply, Link.startReply]

/-- Settles O15: a taken ROTATE is a rotation, which the end of the step leaves as it is. -/
theorem rotateMovesTheRoles : Obligations.RotateMovesTheRoles := by
  intro s st t n h hst ht hd hsh hroles hc hs
  have hbody : withTarget (screenOf t) rotateRequest s = (s.rotation n, .ok (byte1 (s.bankNo n .next).code)) := by
    rw [ht, withTarget_some, rotateRequest_ok (State.darkAndIdle_iff.mpr ⟨hd, hsh⟩) hc hs]
  have hx := (passes_rotate t hst).exec_eq h (body := withTarget (screenOf t) rotateRequest) rfl
  rw [hbody] at hx
  have hr : Rotated s ((s.rotation n).reply st ⟨0x18#8, t, []⟩ (.ok (byte1 (s.bankNo n .next).code))).settle n :=
    ((State.rotation_rotated hroles).reply _ _ _).settle
  refine ⟨_, hx, (passes_rotate t hst).sends _, hr.current, hr.next, hr.spare, hr.others, ?_, ?_, hr.emptied⟩
  · rw [hr.unit]; rfl
  · rw [hr.pending, ByScreen.get_set, if_pos rfl]

/-! ## The end of a clear (R16, R18) -/

theorem State.bankNo_of_roles (h : ∀ b, (t.bank n b).role = (s.bank n b).role) (r : Role) : t.bankNo n r = s.bankNo n r :=
    by
  simp only [State.bankNo, h]

theorem State.clearExpiry_of_queue {x : BankRef} {rest : List BankRef} (hq : s.bankUnit.queue = x :: rest)
    (hc : s.bankUnit.clearLeft ≠ none) :
    s.clearExpiry = ((s.cleared x rest).deferredRotation x.screen).post .clearEngine (.cleared x.screen) := by
  obtain ⟨k, hk⟩ := Option.ne_none_iff_exists'.mp hc
  simp only [State.clearExpiry, hk, hq, State.endClear_eq]

theorem State.deferredRotation_idle (h : s.retained.rotationPending.get n = false) : s.deferredRotation n = s := by
  simp [State.deferredRotation, h]

theorem State.deferredRotation_made (hp : s.retained.rotationPending.get n = true) (hd : s.darkAndIdle n = true)
    (hc : (s.bankIn n .next).state = .complete) : s.deferredRotation n = s.rotation n := by
  simp [State.deferredRotation, hp, hd, hc]

/-- A notice that a quiet state posts is all that the end of its step sees. -/
theorem State.settle_post_of_quiet (h : w.work = .empty) (b : Block) (c : AttnCause) :
    (w.post b c).settle = { w with attention := w.offered c, work := .empty } := by
  rw [State.settle_of_post (b := b) (c := c) (by rw [State.post_work, h]; rfl)]
  rfl

/-- A clear leaves every bank but the one that it clears. -/
theorem State.cleared_others {x : BankRef} (rest : List BankRef) {m : ScreenNo} {b : BankNo}
    (h : (m, b) ≠ (x.screen, x.bank)) : (s.cleared x rest).bank m b = s.bank m b := by
  rw [State.bank_cleared, if_neg fun hmb => h (Prod.ext hmb.1 hmb.2)]

/-- The bank of a role other than SPARE comes out of the clear of SPARE as it went in. -/
theorem State.bankIn_cleared {x : BankRef} (rest : List BankRef) (ha : s.RolesApart x.screen)
    (hx : (s.bank x.screen x.bank).role = .spare) {r : Role} (hr : r ≠ .spare) :
    (s.cleared x rest).bankIn x.screen r = s.bankIn x.screen r := by
  have hb : s.bankNo x.screen r ≠ x.bank := fun hb => hr (by rw [← ha.role_bankNo r, hb, hx])
  have hno := State.bankNo_of_roles (State.cleared_role s x rest x.screen) r
  rw [State.bankIn, hno]
  exact State.cleared_others rest fun he => hb (congrArg Prod.snd he)

/-- Settles O17: the clear, and then the deferred rotation in its three cases. -/
theorem clearCompleteEmptiesTheBank : Obligations.ClearCompleteEmptiesTheBank := by
  rintro s x rest n h hq hc rfl
  have hx : exec .clearComplete s =
      .next (((s.cleared x rest).deferredRotation x.screen).post .clearEngine (.cleared x.screen)).settle := by
    rw [← State.clearExpiry_of_queue hq hc]
    exact event_of_awake h State.clearExpiry
  have hbank : (s.cleared x rest).bank x.screen x.bank = .blank (s.bank x.screen x.bank).role .empty := by
    rw [State.bank_cleared, if_pos ⟨rfl, rfl⟩]
  have hunit : (s.cleared x rest).bankUnit = ⟨rest, if rest = [] then none else some 2000⟩ := by
    cases rest <;> rfl
  have hpend : (s.cleared x rest).retained.rotationPending = s.retained.rotationPending := rfl
  have hwork : (s.cleared x rest).work = .empty := h.work
  refine ⟨fun hp => ?_, fun hp hroles hsp => ⟨fun hfree => ?_, fun hfree => ?_⟩⟩
  · rw [State.deferredRotation_idle (by rw [hpend, hp]), State.settle_post_of_quiet hwork] at hx
    exact ⟨_, hx, hbank, fun m b hmb => State.cleared_others rest hmb, hunit, rfl, rfl, rfl, rfl⟩
  · have hd : ¬ ((s.cleared x rest).darkAndIdle x.screen = true ∧
        ((s.cleared x rest).bankIn x.screen .next).state = .complete) := by
      rw [State.darkAndIdle_iff, State.bankIn_cleared rest hroles hsp (by simp), and_assoc]
      exact hfree
    rw [State.deferredRotation_dropped (by rw [hpend, hp]) hd,
      State.settle_post_of_quiet (by rw [State.setRotationPending_work, hwork])] at hx
    exact ⟨_, hx, hbank, fun m b hmb => State.cleared_others rest hmb, hunit, by
      simp only [State.setRotationPending_retained, hpend], rfl⟩
  · obtain ⟨hd, hsh, hcomp⟩ := hfree
    have hn := State.bankIn_cleared rest hroles hsp (r := .next) (by simp)
    have hcur := State.bankIn_cleared rest hroles hsp (r := .current) (by simp)
    have hspare := State.spare_cleared rest hroles hsp
    have hroles' : (s.cleared x rest).RolesApart x.screen :=
      State.RolesApart.of_roles hroles (State.cleared_role s x rest x.screen)
    rw [State.deferredRotation_made (s := s.cleared x rest) (by rw [hpend, hp]) (State.darkAndIdle_iff.mpr ⟨hd, hsh⟩)
      (by rw [hn]; exact hcomp)] at hx
    have hr : Rotated (s.cleared x rest)
        (((s.cleared x rest).rotation x.screen).post .clearEngine (.cleared x.screen)).settle x.screen :=
      ((State.rotation_rotated hroles').post _ _).settle
    refine ⟨_, hx, by rw [hr.current, hn], by rw [hr.next, hspare]; rfl, by rw [hr.spare, hcur], fun m b hm => ?_, ?_, ?_,
      hr.emptied⟩
    · rw [hr.others m b hm, State.cleared_others rest fun he => hm (congrArg Prod.fst he)]
    · rw [hr.unit]
      have hno := State.bankNo_of_roles (State.cleared_role s x rest x.screen) .current
      simp only [State.rotateBanks, hno, hunit]
      cases rest <;> rfl
    · rw [hr.pending]; rfl

end Sys2Proof.Machine
end

section
/-! The supplies: what a power-on reset sets up in each block, what is left without main power, and the state of a reset
(R19, R20). -/

namespace Sys2Proof.Machine

variable {s t u w : State} {n : ScreenNo}

/-! ## The state of reset -/

@[simp] theorem State.reset_bank (n : ScreenNo) (b : BankNo) :
    State.reset.bank n b = .blank (match b with | .b0 => .current | .b1 => .next | .b2 => .spare) .empty :=
  State.bank_default rfl n b

@[simp] theorem State.reset_bankUnit : State.reset.bankUnit = ⟨[], none⟩ := rfl

section Reset

variable (n : ScreenNo) (p : ProjNo) (i : ShutterNo) (st : Station)

@[simp] theorem State.reset_projector : State.reset.projector p = .blank := ByProj.get_const _ _
@[simp] theorem State.reset_tracker : State.reset.tracker p = .blank := ByProj.get_const _ _
@[simp] theorem State.reset_runMarks : State.reset.runMarks p = ⟨false, none, 0⟩ := ByProj.get_const _ _
@[simp] theorem State.reset_arc : State.reset.arc p = .ofStore .default := ByProj.get_const _ _
@[simp] theorem State.reset_arcStore : State.reset.arcStore p = .default := ByProj.get_const _ _
@[simp] theorem State.reset_shutter : State.reset.shutter i = .powerOn false := ByShutter.get_const _ _
@[simp] theorem State.reset_screen : State.reset.screen n = .blank := ByScreen.get_const _ _
@[simp] theorem State.reset_curtain : State.reset.curtain n = ⟨.halfway, none, false, false⟩ := ByScreen.get_const _ _
@[simp] theorem State.reset_showRec : State.reset.showRec n = ⟨.waiting, none, .none⟩ := ByScreen.get_const _ _
@[simp] theorem State.reset_link : State.reset.link st = .blank ⟨false, false⟩ := ByStation.get_const _ _
@[simp] theorem State.reset_attn : State.reset.attn st = .blank := ByStation.get_const _ _

end Reset

theorem State.reset_banksSound : State.reset.BanksSound where
  roles n b c := by cases b <;> cases c <;> simp [Bank.blank]
  spare n b := by simp [Bank.blank]
  queued _ n b := by simp [Bank.blank]
  once _ := List.nodup_nil
  clearing _ := by simp

theorem State.reset_projectorsSound : State.reset.ProjectorsSound where
  film p := by simp [Projector.blank]
  halted p := by simp [Projector.blank]
  assigned p := by simp [Projector.blank]
  open_ p := by simp [Projector.blank]
  still p := by simp [Tracker.blank]
  marks p := by simp
  single p := by simp [Projector.blank]
  port p := by simp [Projector.blank]
  kept _ p := by simp [Projector.blank, Tracker.blank]

theorem State.reset_shuttersSound : State.reset.ShuttersSound where
  causes i := by simp [Shutter.powerOn]
  solenoid i := by simp [Shutter.powerOn]
  timer i := by simp [Shutter.powerOn]

theorem State.reset_fireSound : State.reset.FireSound := ⟨nofun, nofun⟩

theorem State.reset_carbonSound : State.reset.CarbonSound where
  account p := by simp [ArcStore.default]
  ranges p := by simp [ArcStore.default]
  history p := by simp [ArcStore.default]
  low _ p := by simp [Arc.ofStore]

theorem State.reset_bellSound : State.reset.BellSound where
  late n := by cases n <;> rfl
  held n := by cases n <;> decide
  cadence := by decide
  quiet _ := rfl

theorem powerOnDuties_sound : DutySound powerOnDuties := ⟨by decide, by decide, by decide⟩

theorem Link.blank_sound (rates : RateStraps) : (Link.blank rates).Sound := by constructor <;> simp [Link.blank]

/-- Settles O60. -/
theorem resetIsSound : Obligations.ResetIsSound := by
  refine ⟨State.reset_banksSound, State.reset_projectorsSound, State.reset_shuttersSound, State.reset_fireSound,
    State.reset_carbonSound, State.reset_bellSound, powerOnDuties_sound, fun n => ⟨?_, ?_⟩, fun st => ⟨?_, ?_⟩⟩
  · rw [State.reset_screen]
    constructor <;> simp [Screen.blank]
  · rw [State.reset_curtain]
    simp [Curtain.Sound]
  · rw [State.reset_link]
    exact Link.blank_sound _
  · rw [State.reset_attn]
    constructor <;> simp [Attention.blank]

/-! ## The set-up of a power-on reset -/

/-- All but the house. -/
def State.outsideHouse (s : State) : State := { s with house := State.reset.house }

theorem State.outsideHouse_congr (h : t.outsideHouse = s.outsideHouse) : t = { s with house := t.house } :=
  congrArg (fun u : State => { u with house := t.house }) h

@[simp] theorem State.standingUp_outsideHouse (s : State) (k : StandingKey) :
    (s.standingUp k).outsideHouse = s.outsideHouse := by
  have hc : ∀ (e : StandingEntry) (a : State × Bool) (c : ChannelNo),
      (standingChannel k e a c).1.outsideHouse = a.1.outsideHouse := by
    intro e a c
    unfold standingChannel
    split <;> [rfl; split] <;> rfl
  unfold State.standingUp State.applyStanding
  split
  · rfl
  · exact foldl_keeps (fun a : State × Bool => a.1.outsideHouse) _ (hc _) _ (s, false)

theorem State.setupHouse_outsideHouse (s : State) : s.setupHouse.outsideHouse = s.outsideHouse := by
  unfold State.setupHouse
  dsimp only
  split <;> simp only [State.standingUp_outsideHouse] <;> rfl

/-- The set-up up to the changeovers (R20, R39, R59, R60, R104, R124). -/
def State.beforeHouse (s : State) : State :=
  s.setupStore.setupClears.setupProjectors.setupTrackers.setupArcs.setupShutters.setupScreens

theorem State.powerOn_eq (s : State) :
    s.powerOn = { s.beforeHouse.setupShows.setupStations with house := s.powerOn.house } := by
  have h := State.outsideHouse_congr s.beforeHouse.setupHouse_outsideHouse
  have hp : s.powerOn = s.beforeHouse.setupHouse.setupShows.setupStations := rfl
  rw [hp, h]
  rfl

theorem State.setupStore_valid (h : s.retained.markerValid = true) : s.setupStore = { s with powered := true } := by
  rw [State.setupStore, if_pos h]

theorem State.setupStore_invalid (h : s.retained.markerValid = false) :
    s.setupStore = { s with retained := .default, powered := true } := by
  rw [State.setupStore, if_neg (by rw [h]; exact Bool.false_ne_true)]

/-- With the defaults in the store and quiet pins nothing of the old state is left. -/
theorem State.powerOn_reset (hm : s.retained.markerValid = false) (hp : s.pins = .quiet) :
    s.powerOn = { State.reset with free := s.free, pending := s.pending } := by
  obtain ⟨⟩ := s
  subst hp
  unfold State.powerOn
  rw [State.setupStore_invalid hm]
  rfl

/-- A projector and its tracker by the run marks (R39, R59). -/
theorem State.powerOn_runs (s : State) (p : ProjNo) :
    ((s.powerOn.runMarks p).filmOn = true → (s.powerOn.projector p).runState = .halted ∧
      (s.powerOn.projector p).haltCause = some .power ∧ (s.powerOn.projector p).loaded = (s.powerOn.runMarks p).reel ∧
      (s.powerOn.tracker p).counter = (s.powerOn.runMarks p).counter) ∧
    ((s.powerOn.runMarks p).filmOn = false → (s.powerOn.projector p).runState = .empty ∧
      (s.powerOn.projector p).assigned = s.powerOn.openingReel p ∧ (s.powerOn.tracker p).counter = 0) := by
  have ho : s.powerOn.openingReel p = s.setupStore.setupClears.openingReel p :=
    State.openingReel_congr (State.bankPart_iff.mp s.powerOn_bankPart).1 p
  have hm : s.powerOn.runMarks p = s.setupStore.setupClears.runMarks p := by rw [s.powerOn_eq]; rfl
  have hp : s.powerOn.projector p = s.setupStore.setupClears.projectorUp p := by
    rw [s.powerOn_eq]
    exact ByProj.get_ofFn _ p
  have ht : s.powerOn.tracker p = s.setupStore.setupClears.setupProjectors.trackerUp p := by
    rw [s.powerOn_eq]
    exact ByProj.get_ofFn _ p
  have hm' : s.setupStore.setupClears.setupProjectors.runMarks p = s.setupStore.setupClears.runMarks p := rfl
  rw [ho, hm, hp, ht, State.projectorUp, State.trackerUp, hm']
  refine ⟨fun hf => ?_, fun hf => ?_⟩
  · simp [hf]
  · simp [hf, Projector.blank, Tracker.blank]

theorem State.powerOn_bankUnit (s : State) : s.powerOn.bankUnit = s.setupStore.setupClears.bankUnit :=
  State.bankUnit_congr (State.bankPart_iff.mp s.powerOn_bankPart).1

theorem State.powerOn_retained (s : State) : s.powerOn.retained = s.setupStore.setupClears.retained := by
  rw [s.powerOn_eq]
  rfl

/-- Every arc is OFF or SPENT by its account (R104). -/
theorem State.powerOn_arc (s : State) (p : ProjNo) : s.powerOn.arc p = .ofStore (s.powerOn.arcStore p) := by
  rw [s.powerOn_eq]
  exact ByProj.get_map _ _ _

/-- Every shutter is DROPPED by POWER, with the causes of the standing inputs (R124). -/
theorem State.powerOn_shutter (s : State) (i : ShutterNo) :
    s.powerOn.shutter i = { Shutter.powerOn (s.pins.home.get i) with
      causes := s.setupStore.setupClears.setupProjectors.setupTrackers.setupArcs.causesUp i } := by
  rw [s.powerOn_eq]
  exact ByShutter.get_ofFn _ _

theorem State.powerOn_screen (s : State) (n : ScreenNo) : (s.powerOn.screen n).state = .dark := by
  have h : s.beforeHouse.screen n = _ := ByScreen.get_ofFn _ n
  rw [s.powerOn_eq]
  exact congrArg Screen.state h

/-- A show is PLAYING exactly where film was found, and none is called (R148). -/
theorem State.powerOn_showRec (s : State) (n : ScreenNo) : s.powerOn.showRec n =
    ⟨if (s.powerOn.screen n).currentReel.isSome then .playing else .waiting, none, .none⟩ := by
  rw [s.powerOn_eq]
  exact ByScreen.get_map _ _ _

theorem State.powerOn_link (s : State) (st : Station) : s.powerOn.link st = .blank (s.pins.rates.get st) := by
  rw [s.powerOn_eq]
  exact ByStation.get_map _ _ _

theorem State.powerOn_attentionLine (s : State) (st : Station) : s.powerOn.attentionLine st = false := by
  rw [s.powerOn_eq]
  cases st <;> rfl

theorem standbySupplyLoss_exec (s : State) : exec .standbySupplyLoss s = .next s.standbyLost := rfl

/-- Settles O57. -/
theorem suppliesComeAndGo : Obligations.SuppliesComeAndGo := by
  intro s
  refine ⟨⟨s.powerOn, rfl, ?_⟩, fun hm hp => congrArg _ (State.powerOn_reset hm hp),
    ⟨s.powerLost, rfl, rfl, rfl, rfl, rfl, rfl⟩, fun hp => ?_, fun hp => ?_⟩
  · have hq : ∀ x, x ∈ s.powerOn.bankUnit.queue ↔ (s.powerOn.bank x.screen x.bank).state = .clearing := fun x => by
      rw [s.powerOn_bankUnit, State.bank_congr (State.bankPart_iff.mp s.powerOn_bankPart).1]
      exact s.setupStore.mem_clearing x
    have hl : s.powerOn.bankUnit.clearLeft = if s.powerOn.bankUnit.queue = [] then none else some 2000 := by
      rw [s.powerOn_bankUnit]
      simp only [State.setupClears, List.isEmpty_iff]
    obtain ⟨hfire, hclock, hrestored, hduty⟩ : s.powerOn.shutterUnit.fireActive = s.pins.fireLoop ∧
        s.powerOn.clock = ⟨0, 0, true⟩ ∧ s.powerOn.powerRestored = true ∧ s.powerOn.duty = powerOnDuties := by
      rw [s.powerOn_eq]
      exact ⟨rfl, rfl, rfl, rfl⟩
    obtain ⟨hpow, hpins, hpend⟩ : s.powerOn.powered = true ∧ s.powerOn.pins = s.pins ∧ s.powerOn.pending = s.pending := by
      rw [s.powerOn_eq]
      exact ⟨rfl, rfl, rfl⟩
    refine ⟨hpow, hpins, hpend, fun hm => ?_, fun hm => ?_, hq, hl, s.powerOn_runs, fun p => ?_, fun i => ?_, hfire,
      fun n => ?_, by rw [hclock], by rw [hclock], by rw [hclock], hrestored, hduty, fun st => ?_⟩
    · rw [s.powerOn_retained, State.setupStore_valid hm]
      rfl
    · rw [s.powerOn_retained, State.setupStore_invalid hm]
      rfl
    · rw [s.powerOn_arc, Arc.ofStore]
    · rw [s.powerOn_shutter]
      exact ⟨rfl, rfl, rfl, rfl, rfl⟩
    · rw [s.powerOn_showRec]
      refine ⟨s.powerOn_screen n, rfl, ?_⟩
      cases (s.powerOn.screen n).currentReel <;> simp
    · rw [s.powerOn_link]
      exact ⟨rfl, rfl, s.powerOn_attentionLine st⟩
  · rw [standbySupplyLoss_exec, State.standbyLost, if_pos hp]
  · rw [standbySupplyLoss_exec, State.standbyLost, if_neg (by rw [hp]; exact Bool.false_ne_true)]

end Sys2Proof.Machine
end

section
/-! SET_STARTS (R147): the start list of a bank, and the start that its screen is then armed with (R149). -/

namespace Sys2Proof.Machine

variable {s t u w : State} {n : ScreenNo} {role : Role} {times : List Half}

/-! ## Lists of starts -/

theorem ascending_iff (l : List Nat) : ascending l = true ↔ l.Pairwise (· < ·) := by
  rw [← List.isChain_iff_pairwise]
  induction l with
  | nil => simp [ascending]
  | cons a l ih =>
    cases l with
    | nil => simp [ascending]
    | cons b l => rw [ascending, Bool.and_eq_true, decide_eq_true_eq, ih, List.isChain_cons_cons]

theorem startsOf_some (hlen : times.length ≤ 8) (hday : ∀ x ∈ times, x.toNat ≤ 1439)
    (hasc : (times.map BitVec.toNat).Pairwise (· < ·)) : startsOf times = some (times.map BitVec.toNat) :=
  if_pos (by simpa [(ascending_iff _).mpr hasc, hlen] using hday)

theorem startsOf_none (h : 8 < times.length ∨ (∃ x ∈ times, 1439 < x.toNat) ∨ ¬ (times.map BitVec.toNat).Pairwise (· < ·)) :
    startsOf times = none := by
  refine if_neg fun hc => ?_
  simp only [Bool.and_eq_true, decide_eq_true_eq, List.length_map, List.all_eq_true, List.mem_map, forall_exists_index,
    and_imp, forall_apply_eq_imp_iff₂, ascending_iff] at hc
  obtain ⟨⟨hlen, hday⟩, hasc⟩ := hc
  rcases h with h | ⟨x, hx, h⟩ | h
  · omega
  · exact absurd (hday x hx) (by omega)
  · exact h hasc

/-! ## The body of SET_STARTS -/

theorem setStarts_clearing (h : (s.bankIn n role).state = .clearing) :
    setStarts times (n, role) s = refuse .bankClearing s := if_pos h

theorem setStarts_spare (h : (s.bankIn n role).state ≠ .clearing) (hr : role = .spare) :
    setStarts times (n, role) s = refuse .bankInUse s := (if_neg h).trans (if_pos hr)

theorem setStarts_range (h : (s.bankIn n role).state ≠ .clearing) (hr : role ≠ .spare) (hl : startsOf times = none) :
    setStarts times (n, role) s = refuse .range s :=
  (if_neg h).trans ((if_neg hr).trans (by rw [hl]))

/-- The state in which the bank has taken its list. -/
def State.withStarts (s : State) (n : ScreenNo) (role : Role) (l : List Nat) : State :=
  s.setBank n (s.bankNo n role) { s.bankIn n role with starts := l, state := (s.bankIn n role).state.started }

theorem State.bank_withStarts (s : State) (l : List Nat) (m : ScreenNo) (x : BankNo) :
    (s.withStarts n role l).bank m x = if (m, x) = (n, s.bankNo n role) then
      { s.bankIn n role with starts := l, state := (s.bankIn n role).state.started } else s.bank m x := by
  rw [State.withStarts, State.bank_setBank]
  simp only [Prod.mk.injEq]

/-- A start list leaves the roles, so the bank of its role is still the one written. -/
theorem State.bankIn_withStarts (s : State) (l : List Nat) : ((s.withStarts n role l).bankIn n role).starts = l := by
  have hroles : ∀ x, ((s.withStarts n role l).bank n x).role = (s.bank n x).role := fun x => by
    rw [State.bank_withStarts]
    split
    next h => rw [(Prod.mk.inj h).2, ← State.bankIn]
    · rfl
  rw [State.bankIn, State.bankNo_of_roles hroles, State.bank_withStarts, if_pos rfl]

theorem setStarts_ok {l : List Nat} (h : (s.bankIn n role).state ≠ .clearing) (hr : role ≠ .spare)
    (hl : startsOf times = some l) :
    setStarts times (n, role) s = ((s.withStarts n role l).armAfterStarts n role, .ok (byte1 (s.bankNo n role).code)) :=
  (if_neg h).trans ((if_neg hr).trans (by rw [hl]; rfl))

theorem BankState.started_eq (st : BankState) : st.started = if st = .empty then .draft else st := by cases st <;> rfl

theorem State.armAfterStarts_bankView (s : State) (n : ScreenNo) (role : Role) :
    (s.armAfterStarts n role).bankView = s.bankView := by
  unfold State.armAfterStarts
  split
  · exact congrArg Calm.banks (s.armNext_calm n)
  · rfl

@[simp] theorem State.reply_bank (s : State) (st : Station) (r : Request) (a : Answer) (m : ScreenNo) (x : BankNo) :
    (s.reply st r a).bank m x = s.bank m x := rfl

/-! ## Arming (R149) -/

@[simp] theorem State.showRec_tellDuty (s : State) (d : DutyNotice) : (s.tellDuty d).showRec n = s.showRec n := rfl
@[simp] theorem State.showRec_post (s : State) (b : Block) (c : AttnCause) : (s.post b c).showRec n = s.showRec n := rfl

/-- An arming gives a screen without a show its chosen start, and asks for no check and no test at the end of the step. -/
theorem State.armNext_next (h : (s.showRec n).state = .waiting ∨ (s.showRec n).state = .called) :
    ((s.armNext n).showRec n).next = s.chosenStart n ∧ (s.armNext n).work.arm = s.work.arm ∧
      (s.armNext n).work.retest = s.work.retest := by
  have key : ∀ t : State, (∀ k, ((t.callScreen n k).showRec n).next = (t.showRec n).next ∧
      (t.callScreen n k).work.arm = t.work.arm ∧ (t.callScreen n k).work.retest = t.work.retest) ∧
      ((t.uncall n).showRec n).next = (t.showRec n).next ∧ (t.uncall n).work.arm = t.work.arm ∧
      (t.uncall n).work.retest = t.work.retest := by
    intro t
    refine ⟨fun k => ?_, ?_⟩
    · unfold State.callScreen State.storeReadiness State.carbonNotice
      split <;> [split; skip] <;> simp [State.setShowState]
    · unfold State.uncall
      split <;> simp [State.setShowState]
  have hb : ((s.showRec n).state = .waiting || (s.showRec n).state = .called) = true := by simpa using h
  obtain ⟨hcall, huncall⟩ := key (s.setShow n { s.showRec n with next := s.chosenStart n })
  simp only [State.showRec_setShow, State.setShow_work, if_pos] at hcall huncall
  unfold State.armNext
  rw [if_pos hb]
  dsimp only
  split
  · split
    · exact hcall _
    · exact huncall
  · exact huncall

/-- A step in which no arming check and no readiness test came due leaves the shows. -/
theorem State.settle_shows (ha : s.work.arm = .const false) (hr : s.work.retest = .const false) :
    s.settle.shows = s.shows := by
  have harm : s.settleArming = s := by simp [State.settleArming, allScreens, ha]
  have htest : s.settleTests = s := by simp [State.settleTests, allScreens, hr]
  obtain ⟨-, -, -, -, -, -, -, -, -, -, hs⟩ := s.settle_rest
  rw [hs, harm, htest]

theorem passes_setStarts (t : Byte) (h : times.length ≤ 28) :
    Passes (.setStarts .program t times) .program ⟨0x72#8, t, times.flatMap Half.bytes⟩ :=
  .of_statement ⟨0x72, .program, .even⟩ (Laws.Frames.setStarts _ _ _) (by simp [Instr.wellFormed, h]) rfl rfl rfl

/-- Settles O50. -/
theorem startListsAreWritten : Obligations.StartListsAreWritten := by
  rintro s t n role _ l h ht rfl hlen
  have hp := passes_setStarts (times := l) t hlen
  have hbody : withTarget (bankOf t) (setStarts l) s = setStarts l (n, role) s := by rw [ht, withTarget_some]
  refine ⟨fun hc => ?_, fun hc hr => ?_, fun hc hr => ⟨fun hbad => ?_, fun h8 hday hasc => ?_⟩⟩
  · exact hp.refuses h (body := withTarget (bankOf t) (setStarts l)) rfl (by rw [hbody, setStarts_clearing hc])
  · exact hp.refuses h (body := withTarget (bankOf t) (setStarts l)) rfl (by rw [hbody, setStarts_spare hc hr])
  · exact hp.refuses h (body := withTarget (bankOf t) (setStarts l)) rfl
      (by rw [hbody, setStarts_range hc hr (startsOf_none hbad)])
  · have hx := hp.exec_eq h (body := withTarget (bankOf t) (setStarts l)) rfl
    rw [hbody, setStarts_ok hc hr (startsOf_some h8 hday hasc)] at hx
    dsimp only at hx
    refine ⟨_, hx, hp.sends _, ?_, fun m x hmx => ?_, ?_, ?_⟩
    · rw [State.bank_congr (State.settle_bankView _), State.reply_bank,
        State.bank_congr (State.armAfterStarts_bankView _ _ _),
        State.bank_withStarts, if_pos rfl, BankState.started_eq]
    · rw [State.bank_congr (State.settle_bankView _), State.reply_bank,
        State.bank_congr (State.armAfterStarts_bankView _ _ _),
        State.bank_withStarts, if_neg hmx]
    · rintro rfl
      refine (State.settle_shows ?_ ?_).trans rfl
      · exact congrArg Work.arm h.work
      · exact congrArg Work.retest h.work
    · rintro rfl hst hset
      obtain ⟨hnext, harm, hretest⟩ := State.armNext_next (s := s.withStarts n .current (l.map BitVec.toNat)) hst
      have hshows := State.settle_shows
        (s := ((s.withStarts n .current (l.map BitVec.toNat)).armAfterStarts n .current).reply .program
          ⟨0x72#8, t, l.flatMap Half.bytes⟩ (.ok (byte1 (s.bankNo n .current).code)))
        (harm.trans (congrArg Work.arm h.work)) (hretest.trans (congrArg Work.retest h.work))
      rw [State.showRec, hshows]
      refine hnext.trans ?_
      rw [State.chosenStart, State.bankIn_withStarts]
      exact if_neg (by rw [show (s.withStarts n .current (l.map BitVec.toNat)).clock = s.clock from rfl, hset]; simp)

end Sys2Proof.Machine
end

section
/-! A counted sprocket pulse (R41 to R48): what the operations that its notices call may do to the projector it counts for.
They may halt it, close it or open its douser; its counter stands, and its speed record stands until the motor goes off. -/

namespace Sys2Proof.Machine

variable {a s t u : State} {p q : ProjNo} {n m : ScreenNo}

/-! ## What a pulse leaves of its projector -/

/-- The record of projector `p` in `t`, since the pulse has been counted in `a`: the film and the counter stand, the
projector runs or has halted, and its tracker is that of `a` but for the cue context, with the motor off where the
projector has halted (R44). A screen that the pulse would close as FINAL has not come to be FINAL since (R78). -/
structure Pulsed (p : ProjNo) (a t : State) : Prop where
  calm : t.calm = a.calm
  loaded : (t.projector p).loaded = (a.projector p).loaded
  marks : t.runMarks p = a.runMarks p
  state : (t.projector p).runState.motor = true ∨ (t.projector p).runState = .halted
  tracker : ∃ x, t.tracker p =
    if (t.projector p).runState.motor then { a.tracker p with context := x }
    else ({ a.tracker p with context := x } : Tracker).motorOff
  final : (t.screen p.screen).state = .final → (a.screen p.screen).state = .final

theorem Pulsed.refl (h : (a.projector p).runState.motor = true) : Pulsed p a a :=
  ⟨rfl, rfl, rfl, .inl h, ⟨(a.tracker p).context, by rw [if_pos h]⟩, id⟩

/-- What keeps the film, the run state, the tracker and the run marks, and leads no screen to FINAL. -/
theorem Pulsed.same (h : Pulsed p a t) (hc : u.calm = t.calm) (hl : (u.projector p).loaded = (t.projector p).loaded)
    (hr : (u.projector p).runState = (t.projector p).runState) (ht : u.tracker p = t.tracker p)
    (hm : u.runMarks p = t.runMarks p) (hf : (u.screen p.screen).state = .final → (t.screen p.screen).state = .final) :
    Pulsed p a u :=
  ⟨hc.trans h.calm, hl.trans h.loaded, hm.trans h.marks, by rw [hr]; exact h.state, by rw [hr, ht]; exact h.tracker,
    fun k => h.final (hf k)⟩

/-- What keeps a running projector running, with its film, its tracker and its run marks. -/
theorem Pulsed.run (h : Pulsed p a t) (hc : u.calm = t.calm) (hl : (u.projector p).loaded = (t.projector p).loaded)
    (hr : (t.projector p).runState.motor = true) (hr' : (u.projector p).runState.motor = true)
    (ht : u.tracker p = t.tracker p) (hm : u.runMarks p = t.runMarks p) (hf : u.screens = t.screens) : Pulsed p a u :=
  ⟨hc.trans h.calm, hl.trans h.loaded, hm.trans h.marks, .inl hr', by simpa only [hr', ht, hr] using h.tracker,
    by rw [State.screen, hf]; exact h.final⟩

theorem State.bankView_of_calm (h : t.calm = s.calm) : t.bankView = s.bankView := congrArg Calm.banks h

/-- The record of a loaded reel is read from the banks. -/
theorem State.loadedRecord_congr (hl : (t.projector p).loaded = (s.projector p).loaded) (hv : t.bankView = s.bankView) :
    t.loadedRecord p = s.loadedRecord p := by
  have hr : t.reelRecord p.screen = s.reelRecord p.screen := by
    funext r
    simp only [State.reelRecord, State.header, State.bankIn_congr hv]
  rw [State.loadedRecord, State.loadedRecord, hl, hr]

theorem Pulsed.loadedRecord (h : Pulsed p a t) : t.loadedRecord p = a.loadedRecord p :=
  State.loadedRecord_congr h.loaded (State.bankView_of_calm h.calm)

theorem Pulsed.counter (h : Pulsed p a t) : (t.tracker p).counter = (a.tracker p).counter := by
  obtain ⟨x, hx⟩ := h.tracker
  rw [hx]
  split <;> rfl

theorem Pulsed.atRunoutLimit (h : Pulsed p a t) : t.atRunoutLimit p = a.atRunoutLimit p := by
  simp only [State.atRunoutLimit, h.loadedRecord, h.counter]

theorem Pulsed.not_threaded (h : Pulsed p a t) : (t.projector p).runState ≠ .threaded := by
  intro hs
  rcases h.state with hm | hm <;> simp [hs, RunState.motor] at hm

/-! ## Records of the screens and notices -/

theorem Pulsed.post (h : Pulsed p a t) (b : Block) (c : AttnCause) : Pulsed p a (t.post b c) :=
  h.same rfl rfl rfl rfl rfl id

theorem Pulsed.noteArm (h : Pulsed p a t) (m : ScreenNo) : Pulsed p a (t.noteArm m) := h.same rfl rfl rfl rfl rfl id

/-- A change of a changeover record that does not lead to FINAL. -/
theorem Pulsed.modScreen (h : Pulsed p a t) (m : ScreenNo) {f : Screen → Screen}
    (hf : ∀ r, (f r).state = r.state := by exact fun _ => rfl) :
    Pulsed p a (t.modScreen m f) := by
  refine h.same rfl rfl rfl rfl rfl fun k => ?_
  rw [State.modScreen, State.screen_setScreen] at k
  split at k
  next hm => rwa [hf, ← hm] at k
  · exact k

theorem Pulsed.clearLate (h : Pulsed p a t) (m : ScreenNo) : Pulsed p a (t.clearLate m) :=
  (h.modScreen m (f := fun r => { r with lateMotor := false })).same rfl rfl rfl rfl rfl id

theorem Pulsed.setLate (h : Pulsed p a t) (m : ScreenNo) : Pulsed p a (t.setLate m) :=
  (h.modScreen m (f := fun r => { r with lateMotor := true })).same rfl rfl rfl rfl rfl id

theorem Pulsed.setScreenState (h : Pulsed p a t) (m : ScreenNo) {x : ScreenState}
    (hx : x ≠ .final := by decide) :
    Pulsed p a (t.setScreenState m x) := by
  unfold State.setScreenState
  dsimp only
  have hmod : Pulsed p a (t.modScreen m fun r => { r with state := x }) := by
    refine h.same rfl rfl rfl rfl rfl fun k => ?_
    rw [State.modScreen, State.screen_setScreen] at k
    split at k
    · exact absurd k hx
    · exact k
  split
  · exact h
  · split <;> exact hmod.same rfl rfl rfl rfl rfl id

/-! ## Arcs and house -/

theorem State.screens_of_outsideArcs (h : t.outsideArcs = s.outsideArcs) : t.screens = s.screens ∧ t.shows = s.shows := by
  simp only [State.outsideArcs, State.mk.injEq] at h
  simp only [h, and_self]

theorem Pulsed.of_outsideHouse (h : Pulsed p a t) (hc : u.calm = t.calm) (ho : u.outsideHouse = t.outsideHouse) :
    Pulsed p a u := by
  have hu := State.outsideHouse_congr ho
  exact h.same hc (by rw [hu]; rfl) (by rw [hu]; rfl) (by rw [hu]; rfl) (by rw [hu]; rfl) (by rw [hu]; exact id)

@[simp] theorem State.fireWhere_outsideHouse (s : State) (n : ScreenNo) (f : Cue → Bool) :
    (s.fireWhere n f).outsideHouse = s.outsideHouse := by
  have hrecall : ∀ (t : State) (k i : Nat), (t.recallScene n k i).1.outsideHouse = t.outsideHouse := by
    intro t k i
    have hc : ∀ (x : State × Nat) (c : ChannelPos),
        (recallChannel (t.scene n k) i n x c).1.outsideHouse = x.1.outsideHouse := by
      intro x c
      unfold recallChannel
      split <;> [rfl; split] <;> rfl
    exact foldl_keeps (fun x : State × Nat => x.1.outsideHouse) (recallChannel (t.scene n k) i n) hc _ (t, 0)
  have hcurtain : ∀ (t : State) (c : CurtainAction), (t.actCurtain n c).outsideHouse = t.outsideHouse := fun _ _ => rfl
  have hentry : ∀ (t : State) (k : Nat) (c : Cue), (t.fireEntry n k c).outsideHouse = t.outsideHouse := by
    intro t k c
    unfold State.fireEntry
    dsimp only
    split
    · rfl
    · split <;> split
      · rfl
      · exact hrecall _ _ _
      · rfl
      · exact (hcurtain _ _).trans (hrecall _ _ _)
  have hstep : ∀ (t : State) (x : Cue × Nat),
      (if f x.1 then t.fireEntry n x.2 x.1 else t).outsideHouse = t.outsideHouse := by
    intro t x
    split
    · exact hentry _ _ _
    · rfl
  exact foldl_keeps State.outsideHouse (fun t (x : Cue × Nat) => if f x.1 then t.fireEntry n x.2 x.1 else t) hstep _ s

theorem Pulsed.fireWhere (h : Pulsed p a t) (m : ScreenNo) (f : Cue → Bool) : Pulsed p a (t.fireWhere m f) :=
  h.of_outsideHouse (t.fireWhere_calm m f) (t.fireWhere_outsideHouse m f)

/-! ## Orders -/

section Records

variable (s : State) (p q : ProjNo)

@[simp] theorem State.projector_setTracker (r : Tracker) : (s.setTracker p r).projector q = s.projector q := rfl
@[simp] theorem State.projector_setRunMarks (r : RunMarks) : (s.setRunMarks p r).projector q = s.projector q := rfl
@[simp] theorem State.tracker_setProjector (r : Projector) : (s.setProjector p r).tracker q = s.tracker q := rfl
@[simp] theorem State.tracker_setRunMarks (r : RunMarks) : (s.setRunMarks p r).tracker q = s.tracker q := rfl
@[simp] theorem State.runMarks_setProjector (r : Projector) : (s.setProjector p r).runMarks q = s.runMarks q := rfl
@[simp] theorem State.runMarks_setTracker (r : Tracker) : (s.setTracker p r).runMarks q = s.runMarks q := rfl

end Records

/-- A change of another projector, its tracker and its run marks. -/
theorem Pulsed.other (h : Pulsed p a t) (hq : p ≠ q) (hc : u.calm = t.calm)
    (hr : ∀ x, x ≠ q → u.projector x = t.projector x ∧ u.tracker x = t.tracker x ∧ u.runMarks x = t.runMarks x)
    (hs : u.screens = t.screens) : Pulsed p a u := by
  obtain ⟨h1, h2, h3⟩ := hr p hq
  exact h.same hc (by rw [h1]) (by rw [h1]) h2 h3 (by simp [State.screen, hs])

theorem Pulsed.startOrder (h : Pulsed p a t) (q : ProjNo) : Pulsed p a (t.startOrder q).1 := by
  have hc := t.startOrder_calm q
  unfold State.startOrder at hc ⊢
  split
  next hq =>
    have hpq : p ≠ q := fun hpq => h.not_threaded (hpq ▸ hq)
    rw [if_pos hq] at hc
    exact h.other hpq hc (fun x hx => by simp [hx]) rfl
  · exact h

/-- A change of the douser alone. -/
theorem Pulsed.setDouser (h : Pulsed p a t) (q : ProjNo) (d : DouserCommand) :
    Pulsed p a (t.setProjector q { t.projector q with douser := d }) := by
  refine h.same rfl ?_ ?_ rfl rfl id <;>
  · rw [State.projector_setProjector]
    split
    next hq => rw [hq]
    · rfl

theorem Pulsed.openOrder (h : Pulsed p a t) (q : ProjNo) : Pulsed p a (t.openOrder q).1 := by
  unfold State.openOrder
  split
  · exact h.setDouser q _
  · exact h

theorem Pulsed.douseOrder (h : Pulsed p a t) (q : ProjNo) : Pulsed p a (t.douseOrder q) := by
  unfold State.douseOrder
  split
  · exact h.setDouser q _
  · exact h

@[simp] theorem State.arcShowingEnded_posts (s : State) (q : ProjNo) : (s.arcShowingEnded q).work.posts = s.work.posts := by
  unfold State.arcShowingEnded State.retrimNotice State.noteArmIfStandby
  dsimp only
  split <;> [split; skip] <;> rfl

@[simp] theorem State.endShowing_posts (s : State) (q : ProjNo) : (s.endShowing q).work.posts = s.work.posts := by
  unfold State.endShowing
  split
  · exact s.arcShowingEnded_posts q
  · rfl

/-- What a halt other than a film break does to the projectors, what it posts, and that it leaves the screens and the shows
(R31). -/
theorem State.haltCore_fields {c : HaltCause} (hm : (s.projector q).runState.motor = true) (hc : c ≠ .filmBreak) :
    (∀ x, (s.haltCore q c).projector x = if x = q then
        { s.projector q with runState := .halted, haltCause := some c, douser := .closed } else s.projector x) ∧
    (∀ x, (s.haltCore q c).tracker x = if x = q then (s.tracker q).motorOff else s.tracker x) ∧
    (s.haltCore q c).retained.runMarks = s.retained.runMarks ∧ (s.haltCore q c).screens = s.screens ∧
    (s.haltCore q c).shows = s.shows ∧
    (s.haltCore q c).work.posts = s.work.posts ++ (c.posts q).toList.map (Prod.mk (.projector q)) := by
  obtain ⟨hp, ht, hr, -⟩ := State.runs_of_outsideArcs (s.endShowing_outsideArcs q)
  obtain ⟨hs, hw⟩ := State.screens_of_outsideArcs (s.endShowing_outsideArcs q)
  have hb : ((s.projector q).runState = .showing && c = .filmBreak : Bool) = false := by simp [hc]
  unfold State.haltCore
  rw [if_pos hm]
  simp only [hb, Bool.false_eq_true, if_false]
  cases c.posts q <;> simp [State.projector, State.tracker, State.noteRunState, hp, ht, hr, hs, hw]

theorem State.haltCore_still {c : HaltCause} (hm : (s.projector q).runState.motor = false) : s.haltCore q c = s :=
  if_neg (by simp [hm])

/-- The motor of a projector goes off at a halt (R44). -/
theorem Pulsed.haltCore (h : Pulsed p a t) (q : ProjNo) {c : HaltCause} (hc : c ≠ .filmBreak) :
    Pulsed p a (t.haltCore q c) := by
  cases hm : (t.projector q).runState.motor with
  | false => rwa [State.haltCore_still hm]
  | true =>
    obtain ⟨hp, ht, hr, hs, -, -⟩ := State.haltCore_fields hm hc
    have hcalm := t.haltCore_calm q c
    by_cases hq : p = q
    · subst hq
      obtain ⟨x, hx⟩ := h.tracker
      rw [if_pos hm] at hx
      have hp' := hp p
      rw [if_pos rfl] at hp'
      refine ⟨hcalm.trans h.calm, ?_, ?_, .inr ?_, ⟨x, ?_⟩, ?_⟩
      · rw [hp']
        exact h.loaded
      · rw [State.runMarks, hr]
        exact h.marks
      · rw [hp']
      · rw [hp', ht, if_pos rfl, hx]
        rfl
      · rw [State.screen, hs]
        exact h.final
    · exact h.other hq hcalm (fun x hx => by simp [State.runMarks, hp, ht, hr, hx]) hs

/-- A projector that has run to its limit is emptied. -/
theorem State.emptyRun_others (s : State) (q : ProjNo) : (∀ x, x ≠ q → (s.emptyRun q).projector x = s.projector x ∧
    (s.emptyRun q).tracker x = s.tracker x ∧ (s.emptyRun q).runMarks x = s.runMarks x) ∧
    (s.emptyRun q).screens = s.screens := by
  have ho := s.endShowing_outsideArcs q
  obtain ⟨hp, ht, hr, -⟩ := State.runs_of_outsideArcs ho
  have hs := (State.screens_of_outsideArcs ho).1
  unfold State.emptyRun
  refine ⟨fun x hx => ?_, hs⟩
  simp [State.becomeEmpty, State.noteRunState, State.projector, State.tracker, State.runMarks, hp, ht, hr, hx]

/-- A SHOWING projector goes to RUNOUT, and is emptied where it stands at its runout limit (R30, R47). -/
theorem State.closeOrder_showing (h : (s.projector q).runState = .showing) : ∃ w : State, s.closeOrder q =
    (if w.atRunoutLimit q then w.emptyRun q else w) ∧ w.calm = s.calm ∧
    (∀ x, w.projector x = if x = q then { s.projector q with runState := .runout, douser := .closed } else s.projector x) ∧
    w.trackers = s.trackers ∧ w.retained.runMarks = s.retained.runMarks ∧ w.screens = s.screens ∧ w.shows = s.shows ∧
    w.work.posts = s.work.posts := by
  obtain ⟨hp, ht, hr, -⟩ := State.runs_of_outsideArcs (s.arcShowingEnded_outsideArcs q)
  obtain ⟨hs, hw⟩ := State.screens_of_outsideArcs (s.arcShowingEnded_outsideArcs q)
  unfold State.closeOrder State.enterRunout
  rw [if_pos h]
  refine ⟨_, rfl, by simp, fun x => ?_, ht, hr, hs, hw, s.arcShowingEnded_posts q⟩
  simp [State.projector, hp]

/-- A SHOWING projector that stands short of its runout limit goes to RUNOUT (R30). -/
theorem Pulsed.closeOrder (ha : a.atRunoutLimit p = false) (h : Pulsed p a t) (q : ProjNo) :
    Pulsed p a (t.closeOrder q) := by
  by_cases hq : (t.projector q).runState = .showing
  · obtain ⟨w, hw, hc, hp, ht, hr, hs, -, -⟩ := State.closeOrder_showing hq
    rw [hw]
    have hwp : Pulsed p a w := by
      by_cases hpq : p = q
      · subst hpq
        have hp' := hp p
        rw [if_pos rfl] at hp'
        exact h.run hc (by rw [hp']) (by rw [hq]; rfl) (by rw [hp']; rfl) (by simp [State.tracker, ht])
          (by simp [State.runMarks, hr]) hs
      · exact h.other hpq hc (fun x hx => by simp [State.tracker, State.runMarks, hp, ht, hr, hx]) hs
    split
    next hlim =>
      have hpq : p ≠ q := fun hpq => by rw [← hpq, hwp.atRunoutLimit, ha] at hlim; cases hlim
      obtain ⟨ho, hes⟩ := w.emptyRun_others q
      exact hwp.other hpq (w.emptyRun_calm q) ho hes
    · exact hwp
  · rwa [show t.closeOrder q = t from if_neg hq]

/-! ## The sequencer -/

theorem Pulsed.interrupt (h : Pulsed p a t) (m : ScreenNo) : Pulsed p a (t.interrupt m) := by
  have hstop : Pulsed p a (t.stopIdle m) := by
    unfold State.stopIdle
    split
    · split
      · exact h.haltCore _ (by simp)
      · exact h
    · exact h
  unfold State.interrupt
  split
  · exact h
  · exact (((hstop.modScreen m).clearLate m).setScreenState m).post _ _

theorem Pulsed.openTest (h : Pulsed p a t) (m : ScreenNo) : Pulsed p a (t.openTest m) := by
  unfold State.openTest
  split
  · split
    · have ho := fun q : ProjNo => (h.openOrder q).modScreen m (f := fun r => { r with confirmTimer := timerFor q })
      dsimp only
      split
      · exact ho _
      · exact ((ho _).haltCore _ (by simp)).interrupt m
    · exact h
  · exact h

theorem Pulsed.roll (h : Pulsed p a t) (m : ScreenNo) (q : ProjNo) : Pulsed p a (t.roll m q) :=
  (h.startOrder q).setScreenState m

theorem Pulsed.rescueRolling (h : Pulsed p a t) (m : ScreenNo) (q : ProjNo) : Pulsed p a (t.rescueRolling m q) :=
  (((h.modScreen m).setScreenState m).post _ _).openTest m

theorem Pulsed.rescueSwapping (h : Pulsed p a t) (m : ScreenNo) (q : ProjNo) : Pulsed p a (t.rescueSwapping m q) :=
  ((h.modScreen m).setScreenState m).post _ _

theorem Pulsed.showingHalt (h : Pulsed p a t) (m : ScreenNo) : Pulsed p a (t.showingHalt m) := by
  unfold State.showingHalt
  split
  · split
    · exact h.rescueRolling m _
    · exact h.interrupt m
  · exact h.rescueSwapping m _
  · exact h.interrupt m
  · exact h.interrupt m
  · exact h.interrupt m
  · exact h

theorem Pulsed.swapFail (ha : a.atRunoutLimit p = false) (h : Pulsed p a t) (m : ScreenNo) (q r : ProjNo) :
    Pulsed p a (t.swapFail m q r) := by
  unfold State.swapFail
  split
  · exact ((Pulsed.closeOrder ha h r).haltCore q (by simp)).interrupt m
  · have hrev : Pulsed p a ((((((t.douseOrder q).openOrder r).1.modScreen m fun x =>
        { x with sound := r.side, closeWatch := none, confirmTimer := none, swapFailed := true }).setScreenState m
        .rolling).post (.sequencer m) (.revert m))) :=
      ((((h.douseOrder q).openOrder r).modScreen m).setScreenState m).post _ _
    dsimp only
    split
    · exact hrev
    · exact hrev.showingHalt m

theorem Pulsed.swapStart (ha : a.atRunoutLimit p = false) (h : Pulsed p a t) (m : ScreenNo) (q r : ProjNo) (late : Bool) :
    Pulsed p a (t.swapStart m q r late) := by
  have hswap : Pulsed p a ((((t.openOrder q).1.douseOrder r).modScreen m fun x =>
      { x with sound := q.side, confirmTimer := timerFor q, closeWatch := timerFor r, swapPending := false,
               immediate := false }).setScreenState m .swapping) :=
    (((h.openOrder q).douseOrder r).modScreen m).setScreenState m
  unfold State.swapStart
  dsimp only
  split <;> split
  · exact hswap.post _ _
  · exact hswap
  · exact Pulsed.swapFail ha (hswap.post _ _) m q r
  · exact Pulsed.swapFail ha hswap m q r

/-! ## The notices of a pulse -/

theorem Pulsed.onSpeed (ha : a.atRunoutLimit p = false) (h : Pulsed p a t) (q : ProjNo) : Pulsed p a (t.onSpeed q) := by
  unfold State.onSpeed State.swapIfReady
  dsimp only
  split
  · split
    · exact h.openTest _
    · exact h
  · split
    · split
      · split
        · exact h.swapStart ha _ _ _ _
        · exact h
      · exact h
    · exact h
  · exact h

theorem Pulsed.onLeadIn (h : Pulsed p a t) (q : ProjNo) : Pulsed p a (t.onLeadIn q) := by
  unfold State.onLeadIn
  split
  · exact h.openTest _
  · exact h

theorem Pulsed.onMotorCue (h : Pulsed p a t) (q : ProjNo) : Pulsed p a (t.onMotorCue q) := by
  unfold State.onMotorCue
  dsimp only
  split
  · split
    · exact h.roll _ _
    · exact (h.setLate _).post _ _
    · exact h
  · exact h

theorem Pulsed.onChangeoverCue (ha : a.atRunoutLimit p = false) (h : Pulsed p a t) (q : ProjNo) :
    Pulsed p a (t.onChangeoverCue q) := by
  unfold State.onChangeoverCue
  dsimp only
  split
  · split
    · split
      · exact h
      · split
        · exact Pulsed.swapStart ha h _ _ _ _
        · exact h.modScreen _
    · exact h.modScreen _
    · exact h.modScreen _
    · exact h
  · exact h

/-- A cue that is settled changes the context of its tracker, and may be a cue for the sequencer (R50, R54). -/
theorem Pulsed.settleCue (ha : a.atRunoutLimit p = false) (h : Pulsed p a t) (x : CueContext) (k : CueKind) (v :
    CueStatus) :
    Pulsed p a (t.settleCue p x k v) := by
  have hset : Pulsed p a (t.setTracker p { t.tracker p with context := some (x.setStatus k v) }) := by
    obtain ⟨y, hy⟩ := h.tracker
    refine ⟨h.calm, h.loaded, h.marks, h.state, ⟨some (x.setStatus k v), ?_⟩, h.final⟩
    rw [State.tracker_setTracker, if_pos rfl, State.projector_setTracker, hy]
    split <;> rfl
  unfold State.settleCue State.cueNotice
  split
  · split
    · exact hset.onMotorCue p
    · exact Pulsed.onChangeoverCue ha hset p
    · exact hset
  · exact hset

theorem Pulsed.cueCheck (ha : a.atRunoutLimit p = false) (h : Pulsed p a t) (c : Nat) (k : CueKind) :
    Pulsed p a (t.cueCheck p c k) := by
  unfold State.cueCheck
  split
  · split
    · split
      · split
        · exact Pulsed.settleCue ha (h.post _ _) _ _ _
        · exact h
      · split
        · exact Pulsed.settleCue ha h _ _ _
        · exact h
    · exact h
  · exact h

theorem Pulsed.leadInCheck (h : Pulsed p a t) (c : Nat) : Pulsed p a (t.leadInCheck p c) := by
  unfold State.leadInCheck
  split
  · exact h.onLeadIn p
  · exact h

theorem Pulsed.anchorCheck (h : Pulsed p a t) (c : Nat) : Pulsed p a (t.anchorCheck p c) := by
  unfold State.anchorCheck
  split
  · exact h.fireWhere _ _
  · exact h

/-- The at-speed notice takes a STARTING projector to RUNNING (R27). -/
theorem Pulsed.atSpeedNotice (ha : a.atRunoutLimit p = false) (h : Pulsed p a t) : Pulsed p a (t.atSpeedNotice p) := by
  unfold State.atSpeedNotice
  split
  next hs =>
    have hrun : Pulsed p a (t.setProjector p { t.projector p with runState := .running }) := by
      refine h.run rfl ?_ (by rw [hs]; rfl) ?_ rfl rfl rfl <;> simp [RunState.motor]
    exact (Pulsed.onSpeed ha hrun p).noteArm _
  · exact Pulsed.onSpeed ha h p

/-- The picture end of a projector that does not show on a FINAL screen. -/
theorem Pulsed.endCheck (ha : a.atRunoutLimit p = false) (h : Pulsed p a t) {c : Nat}
    (hf : (a.screen p.screen).state ≠ .final ∨ ∀ r, a.loadedRecord p = some r → c ≠ r.pictureEnd) :
    Pulsed p a (t.endCheck p c) := by
  unfold State.endCheck
  split
  next r _ hr =>
    split
    next he =>
      have hfinal : (t.screen p.screen).state ≠ .final := fun hs =>
        hf.elim (fun hf => hf (h.final hs)) fun hf => hf r (by rw [← h.loadedRecord, hr]) he.symm
      unfold State.onPictureEnd
      dsimp only
      split
      · split
        · split
          · exact (Pulsed.closeOrder ha h p).interrupt _
          · exact Pulsed.swapStart ha h _ _ _ _
        · exact (Pulsed.closeOrder ha h p).interrupt _
        · exact (Pulsed.closeOrder ha h p).interrupt _
        next hs => exact absurd hs hfinal
        · exact h
      · exact h
    · exact h
  · exact h

/-- Short of the runout limit the check of R47 does nothing. -/
theorem Pulsed.limitCheck (ha : a.atRunoutLimit p = false) (h : Pulsed p a t) :
    t.limitCheck p (a.tracker p).counter = t := by
  unfold State.limitCheck
  split
  next r _ hr =>
    refine if_neg fun he => ?_
    simp only [State.atRunoutLimit, ← h.loadedRecord, hr, decide_eq_false_iff_not] at ha
    omega
  · rfl

/-! ## The pulse -/

/-- The tracker of a counted pulse, with whether the at-speed notice is sent (R41 to R43). -/
def Tracker.pulsed (t : Tracker) (interval : Nat) : Tracker × Bool := t.count.capture interval

/-- The state in which a pulse has been counted (R41). -/
def State.counted (s : State) (p : ProjNo) (interval : Nat) : State :=
  (s.setTracker p ((s.tracker p).pulsed interval).1).setRunMarks p
    { s.runMarks p with counter := ((s.tracker p).pulsed interval).1.counter }

theorem State.sprocket_motor (h : (s.projector p).runState.motor = true) (interval : Nat) : s.sprocket p interval =
    (if ((s.tracker p).pulsed interval).2 then (s.counted p interval).atSpeedNotice p else s.counted p
        interval).frameChecks p
      ((s.tracker p).pulsed interval).1.counter := if_pos h

theorem State.sprocket_still (h : (s.projector p).runState.motor = false) (interval : Nat) : s.sprocket p interval = s :=
  if_neg (by simp [h])

/-- Counting a pulse gives the record of the speed judge (R41 to R43). -/
theorem Tracker.pulsed_fields (t : Tracker) (interval : Nat) :
    (t.pulsed interval).1.counter = min 65535 (t.counter + 1) ∧ (t.pulsed interval).1.stallTimer = some 500 ∧
    (t.pulsed interval).1.lastInterval = (if t.timing then min 65535 interval else t.lastInterval) ∧
    (t.pulsed interval).1.atSpeed = (if t.timing then (t.judge (min 65535 interval)).1 else t).atSpeed ∧
    (t.pulsed interval).1.inBand = (if t.timing then (t.judge (min 65535 interval)).1 else t).inBand ∧
    (t.pulsed interval).1.outBand = (if t.timing then (t.judge (min 65535 interval)).1 else t).outBand ∧
    (t.pulsed interval).1.startTimer = (if t.timing then (t.judge (min 65535 interval)).1 else t).startTimer := by
  unfold Tracker.pulsed Tracker.capture
  cases ht : t.timing with
  | false => simp [Tracker.count, ht]
  | true =>
    simp only [Tracker.count, ht, if_true]
    unfold Tracker.judge
    dsimp only
    split <;> split <;> [skip; split; split; skip] <;> exact ⟨rfl, rfl, rfl, rfl, rfl, rfl, rfl⟩

@[simp] theorem State.counted_projector (s : State) (p q : ProjNo) (i : Nat) : (s.counted p i).projector q =
    s.projector q :=
  rfl
@[simp] theorem State.counted_screen (s : State) (p : ProjNo) (n : ScreenNo) (i : Nat) :
    (s.counted p i).screen n = s.screen n := rfl
@[simp] theorem State.counted_loadedRecord (s : State) (p q : ProjNo) (i : Nat) :
    (s.counted p i).loadedRecord q = s.loadedRecord q := rfl
@[simp] theorem State.counted_tracker (s : State) (p : ProjNo) (i : Nat) :
    (s.counted p i).tracker p = ((s.tracker p).pulsed i).1 := by simp [State.counted]
@[simp] theorem State.counted_runMarks (s : State) (p : ProjNo) (i : Nat) :
    (s.counted p i).runMarks p = { s.runMarks p with counter := ((s.tracker p).pulsed i).1.counter } := by
  simp [State.counted]

theorem Pulsed.frameChecks (ha : a.atRunoutLimit p = false) (h : Pulsed p a t)
    (hf : (a.screen p.screen).state ≠ .final ∨ ∀ r, a.loadedRecord p = some r → (a.tracker p).counter ≠ r.pictureEnd) :
    Pulsed p a (t.frameChecks p (a.tracker p).counter) := by
  have hcues := Pulsed.cueCheck ha (Pulsed.cueCheck ha (h.leadInCheck (a.tracker p).counter) (a.tracker p).counter .motor)
    (a.tracker p).counter .changeover
  have hend := Pulsed.endCheck ha (hcues.anchorCheck (a.tracker p).counter) hf
  unfold State.frameChecks
  dsimp only
  rwa [Pulsed.limitCheck ha hend]

theorem State.sprocket_pulsed {interval : Nat} (h : (s.projector p).runState.motor = true)
    (ha : (s.counted p interval).atRunoutLimit p = false)
    (hf : (s.screen p.screen).state ≠ .final ∨
      ∀ r, s.loadedRecord p = some r → min 65535 ((s.tracker p).counter + 1) ≠ r.pictureEnd) :
    Pulsed p (s.counted p interval) (s.sprocket p interval) := by
  have h0 : Pulsed p (s.counted p interval) (s.counted p interval) := .refl h
  have hc := (s.tracker p).pulsed_fields interval
  have h1 : Pulsed p (s.counted p interval) (if ((s.tracker p).pulsed interval).2 then
      (s.counted p interval).atSpeedNotice p else s.counted p interval) := by
    split
    · exact Pulsed.atSpeedNotice ha h0
    · exact h0
  rw [State.sprocket_motor h, ← State.counted_tracker s p interval]
  exact Pulsed.frameChecks ha h1 (by rw [State.counted_tracker, hc.1]; exact hf)

/-- The end of the step leaves the projector that the pulse has counted for, as it is not THREADED. -/
theorem Pulsed.settle (h : Pulsed p a t) : t.settle.projector p = t.projector p ∧ t.settle.tracker p = t.tracker p ∧
    t.settle.runMarks p = t.runMarks p ∧ t.settle.shutterUnit = a.shutterUnit := by
  obtain ⟨hp, ht⟩ := t.settle_projector p h.not_threaded
  refine ⟨hp, ht, by rw [State.runMarks, State.settle_retained, State.runMarks], ?_⟩
  rw [State.settle_shutterUnit]
  exact congrArg Calm.shutterUnit h.calm

/-! ## The clauses of a counted pulse -/

theorem sprocketPulse_exec (h : s.Awake) (interval : Nat) :
    exec (.sprocketPulse p interval) s = .next (s.sprocket p interval).settle :=
  event_of_awake h fun s => s.sprocket p interval

/-- Short of the runout limit a pulse is counted and judged (R41 to R46). -/
theorem sprocketPulse_counts {interval : Nat} (h : s.Awake) (hm : (s.projector p).runState.motor = true)
    (hlim : ∀ r, s.loadedRecord p = some r → min 65535 ((s.tracker p).counter + 1) < r.pictureEnd + 320)
    (hf : (s.screen p.screen).state ≠ .final ∨
      ∀ r, s.loadedRecord p = some r → min 65535 ((s.tracker p).counter + 1) ≠ r.pictureEnd) :
    Leads (.sprocketPulse p interval) s fun t =>
      (t.tracker p).counter = min 65535 ((s.tracker p).counter + 1) ∧
      (t.runMarks p).counter = min 65535 ((s.tracker p).counter + 1) ∧
      (t.tracker p).lastInterval = (if (s.tracker p).timing then min 65535 interval else (s.tracker p).lastInterval) ∧
      t.shutterUnit = s.shutterUnit ∧
      let judged := if (s.tracker p).timing then ((s.tracker p).judge (min 65535 interval)).1 else s.tracker p
      if (t.projector p).runState.motor then
        (t.tracker p).atSpeed = judged.atSpeed ∧ (t.tracker p).inBand = judged.inBand ∧
        (t.tracker p).outBand = judged.outBand ∧ (t.tracker p).startTimer = judged.startTimer ∧
        (t.tracker p).stallTimer = some 500
      else
        (t.tracker p).atSpeed = false ∧ (t.tracker p).inBand = 0 ∧ (t.tracker p).outBand = 0 ∧
        (t.tracker p).startTimer = none ∧ (t.tracker p).stallTimer = none := by
  obtain ⟨hc, hstall, hint, hspeed, hin, hout, hstart⟩ := (s.tracker p).pulsed_fields interval
  have ha : (s.counted p interval).atRunoutLimit p = false := by
    unfold State.atRunoutLimit
    rw [State.counted_loadedRecord]
    split
    · rfl
    next r hr =>
      have := hlim r hr
      rw [State.counted_tracker, hc]
      exact decide_eq_false (by omega)
  have hp := State.sprocket_pulsed hm ha hf
  obtain ⟨hsp, hst, hsr, hss⟩ := hp.settle
  refine ⟨_, sprocketPulse_exec h interval, ?_⟩
  obtain ⟨x, hx⟩ := hp.tracker
  rw [hsp, hst, hsr, hss, hp.marks, hx, State.counted_tracker, State.counted_runMarks]
  dsimp only
  cases hmotor : ((s.sprocket p interval).projector p).runState.motor with
  | true => simp only [if_true]; exact ⟨hc, hc, hint, rfl, hspeed, hin, hout, hstart, hstall⟩
  | false =>
    simp only [Bool.false_eq_true, if_false]
    exact ⟨hc, hc, hint, rfl, rfl, rfl, rfl, rfl, rfl⟩

/-- Outside the motor states a pulse changes nothing (R41). -/
theorem sprocketPulse_still (h : s.Awake) (hm : (s.projector p).runState.motor = false) (interval : Nat) :
    exec (.sprocketPulse p interval) s = .next s := by
  rw [sprocketPulse_exec h, State.sprocket_still hm, State.settle_of_empty _ h.work]

end Sys2Proof.Machine
end

section
/-! The speed judge (R43), and the at-speed notice of a projector that its screen neither opens nor rolls (R27). -/

namespace Sys2Proof.Machine

variable {s t u w : State} {p q : ProjNo} {n : ScreenNo} {c interval : Nat}

/-! ## The speed judge -/

theorem isInBand_iff (x : Nat) : isInBand x = true ↔ 400 ≤ x ∧ x ≤ 434 := by simp [isInBand]

theorem isInBand_out {x : Nat} (h : x < 400 ∨ 434 < x) : ¬ isInBand x = true := by
  rw [isInBand_iff]
  omega

section Judge

variable (t : Tracker) (x : Nat)

theorem Tracker.judge_slow_out (h : t.atSpeed = false) (hx : x < 400 ∨ 434 < x) :
    t.judge x = ({ t with inBand := 0 }, false) := by
  rw [Tracker.judge, if_neg (by simp [h]), if_neg (isInBand_out hx)]

theorem Tracker.judge_slow_in (h : t.atSpeed = false) (hlo : 400 ≤ x) (hhi : x ≤ 434) (hn : t.inBand < 11) :
    t.judge x = ({ t with inBand := t.inBand + 1 }, false) := by
  rw [Tracker.judge, if_neg (by simp [h]), if_pos ((isInBand_iff x).mpr ⟨hlo, hhi⟩), if_pos (by omega)]

theorem Tracker.judge_reaches (h : t.atSpeed = false) (hlo : 400 ≤ x) (hhi : x ≤ 434) (hn : 11 ≤ t.inBand) :
    t.judge x = ({ t with atSpeed := true, inBand := 0, startTimer := none }, true) := by
  rw [Tracker.judge, if_neg (by simp [h]), if_pos ((isInBand_iff x).mpr ⟨hlo, hhi⟩), if_neg (by omega)]

theorem Tracker.judge_fast_in (h : t.atSpeed = true) (hlo : 400 ≤ x) (hhi : x ≤ 434) :
    t.judge x = ({ t with outBand := 0 }, false) := by
  rw [Tracker.judge, if_pos h, if_pos ((isInBand_iff x).mpr ⟨hlo, hhi⟩)]

theorem Tracker.judge_fast_out (h : t.atSpeed = true) (hx : x < 400 ∨ 434 < x) (hn : t.outBand < 2) :
    t.judge x = ({ t with outBand := t.outBand + 1 }, false) := by
  rw [Tracker.judge, if_pos h, if_neg (isInBand_out hx), if_pos (by omega)]

theorem Tracker.judge_leaves (h : t.atSpeed = true) (hx : x < 400 ∨ 434 < x) (hn : 2 ≤ t.outBand) :
    t.judge x = ({ t with atSpeed := false, inBand := 0, outBand := 0 }, false) := by
  rw [Tracker.judge, if_pos h, if_neg (isInBand_out hx), if_neg (by omega)]

end Judge

/-- The twelfth in-band interval in a row sets the flag and sends the at-speed notice. -/
theorem Tracker.pulsed_reaches {x : Tracker} (ht : x.timing = true) (hs : x.atSpeed = false) (hlo : 400 ≤ interval)
    (hhi : interval ≤ 434) (hn : 11 ≤ x.inBand) : x.pulsed interval = ({ x with
      counter := min 65535 (x.counter + 1), stallTimer := some 500, lastInterval := min 65535 interval, atSpeed := true,
      inBand := 0, startTimer := none }, true) := by
  have hmin : min 65535 interval = interval := by omega
  rw [Tracker.pulsed, Tracker.capture, if_pos (show x.count.timing = true from ht), hmin]
  exact Tracker.judge_reaches _ _ hs hlo hhi hn

/-! ## The at-speed notice on a screen that neither opens the projector nor rolls -/

theorem State.openTest_idle (h : (s.screen n).state ≠ .starting) : s.openTest n = s := by
  unfold State.openTest
  split
  next hs _ => exact absurd hs h
  · rfl

theorem State.onSpeed_idle (hs : (s.screen p.screen).state = .starting → (s.screen p.screen).opening ≠ some p)
    (hr : (s.screen p.screen).state ≠ .rolling) : s.onSpeed p = s := by
  unfold State.onSpeed
  dsimp only
  split
  next h => exact if_neg (hs h)
  next h => exact absurd h hr
  · rfl

theorem State.onLeadIn_idle (hs : (s.screen p.screen).state = .starting → (s.screen p.screen).opening ≠ some p) :
    s.onLeadIn p = s := by
  unfold State.onLeadIn
  split
  next ho => exact State.openTest_idle fun h => hs h ho
  · rfl

theorem State.leadInCheck_idle (hs : (s.screen p.screen).state = .starting → (s.screen p.screen).opening ≠ some p) :
    s.leadInCheck p c = s := by
  unfold State.leadInCheck
  rw [State.onLeadIn_idle hs, ite_self]

/-- From `s` to `t` a projector is the same, and so is its tracker but for the cue context. -/
structure ContextOnly (p : ProjNo) (s t : State) : Prop where
  projector : t.projector p = s.projector p
  tracker : ∃ x, t.tracker p = { s.tracker p with context := x }

theorem ContextOnly.refl (s : State) : ContextOnly p s s := ⟨rfl, (s.tracker p).context, rfl⟩

theorem ContextOnly.trans (h : ContextOnly p s t) (k : ContextOnly p t u) : ContextOnly p s u := by
  obtain ⟨x, hx⟩ := h.tracker
  obtain ⟨y, hy⟩ := k.tracker
  exact ⟨k.projector.trans h.projector, y, by rw [hy, hx]⟩

/-- A cue of a projector that does not show is settled, and no block hears of it (R54). -/
theorem State.settleCue_unseen (h : (s.projector p).runState ≠ .showing) (x : CueContext) (k : CueKind) (v : CueStatus) :
    ContextOnly p s (s.settleCue p x k v) := by
  have hn : (s.setTracker p { s.tracker p with context := some (x.setStatus k v) }).cueNotice p k v =
    s.setTracker p { s.tracker p with context := some (x.setStatus k v) } := if_neg h
  unfold State.settleCue
  rw [hn]
  exact ⟨rfl, some (x.setStatus k v), by rw [State.tracker_setTracker, if_pos rfl]⟩

theorem State.cueCheck_unseen (h : (s.projector p).runState ≠ .showing) (k : CueKind) :
    ContextOnly p s (s.cueCheck p c k) := by
  unfold State.cueCheck
  split
  · split
    · split
      · split
        · have hpost : ContextOnly p s (s.post (.tracker p) (.missed p k)) := ⟨rfl, (s.tracker p).context, rfl⟩
          exact hpost.trans (State.settleCue_unseen (by rwa [hpost.projector]) _ _ _)
        · exact .refl s
      · split
        · exact State.settleCue_unseen h _ _ _
        · exact .refl s
    · exact .refl s
  · exact .refl s

/-- The frame checks of a RUNNING projector that its screen does not open (R48, R50, R55, R56). -/
theorem State.frameChecks_running (hr : (s.projector p).runState = .running)
    (hs : (s.screen p.screen).state = .starting → (s.screen p.screen).opening ≠ some p) :
    ContextOnly p s (s.frameChecks p c) := by
  have h1 := State.cueCheck_unseen (c := c) (s := s) (p := p) (by simp [hr]) .motor
  have hr1 : ((s.cueCheck p c .motor).projector p).runState = .running := by rw [h1.projector, hr]
  have h2 := h1.trans (State.cueCheck_unseen (c := c) (by simp [hr1]) .changeover)
  have hr2 := h2.projector
  unfold State.frameChecks
  dsimp only
  rw [State.leadInCheck_idle hs]
  generalize (s.cueCheck p c .motor).cueCheck p c .changeover = w at h2 hr2
  have hanchor : w.anchorCheck p c = w := by simp [State.anchorCheck, hr2, hr]
  have hend : w.endCheck p c = w := by simp [State.endCheck, hr2, hr]
  have hlimit : w.limitCheck p c = w := by simp [State.limitCheck, hr2, hr]
  rwa [hanchor, hend, hlimit]

/-- The at-speed notice leaves a RUNNING projector RUNNING, and takes a STARTING one to it (R27). -/
theorem State.atSpeedNotice_idle (hm : (s.projector p).runState = .starting ∨ (s.projector p).runState = .running)
    (hs : (s.screen p.screen).state = .starting → (s.screen p.screen).opening ≠ some p)
    (hr : (s.screen p.screen).state ≠ .rolling) :
    (s.atSpeedNotice p).projector p = { s.projector p with runState := .running } ∧
      (s.atSpeedNotice p).tracker p = s.tracker p ∧ (s.atSpeedNotice p).screens = s.screens := by
  unfold State.atSpeedNotice
  split
  · dsimp only
    rw [State.onSpeed_idle (by exact hs) (by exact hr)]
    exact ⟨(ByProj.get_set _ p p _).trans (if_pos rfl), rfl, rfl⟩
  next hn =>
    rw [State.onSpeed_idle hs hr, ← hm.resolve_left hn]
    exact ⟨rfl, rfl, rfl⟩

theorem sprocketPulse_reaches_speed (h : s.Awake)
    (hm : (s.projector p).runState = .starting ∨ (s.projector p).runState = .running)
    (ht : (s.tracker p).timing = true) (hslow : (s.tracker p).atSpeed = false) (hlo : 400 ≤ interval) (hhi : interval ≤ 434)
    (hn : 11 ≤ (s.tracker p).inBand)
    (hs : (s.screen p.screen).state = .starting → (s.screen p.screen).opening ≠ some p)
    (hr : (s.screen p.screen).state ≠ .rolling) :
    Leads (.sprocketPulse p interval) s fun t =>
      t.projector p = { s.projector p with runState := .running } ∧ (t.tracker p).atSpeed = true ∧
      (t.tracker p).inBand = 0 ∧ (t.tracker p).startTimer = none ∧ (t.tracker p).stallTimer = some 500 := by
  have hmotor : (s.projector p).runState.motor = true := by rcases hm with hm | hm <;> rw [hm] <;> rfl
  have hp := Tracker.pulsed_reaches ht hslow hlo hhi hn
  obtain ⟨hproj, htrack, hscreens⟩ := State.atSpeedNotice_idle (s := s.counted p interval) hm hs hr
  have hrun : (((s.counted p interval).atSpeedNotice p).projector p).runState = .running := by rw [hproj]
  obtain ⟨hproj', x, htrack'⟩ := State.frameChecks_running (c := ((s.tracker p).pulsed interval).1.counter) hrun
    (by rw [State.screen, hscreens]; exact hs)
  have hsprocket := State.sprocket_motor hmotor interval
  rw [hp, if_pos rfl] at hsprocket
  rw [hp] at hproj' htrack'
  rw [← hsprocket] at hproj' htrack'
  obtain ⟨hset, hset'⟩ := (s.sprocket p interval).settle_projector p (by rw [hproj', hproj]; simp)
  refine ⟨_, sprocketPulse_exec h interval, ?_⟩
  dsimp only
  rw [hset, hset', hproj', hproj, htrack', htrack, State.counted_tracker, hp]
  exact ⟨rfl, rfl, rfl, rfl, rfl⟩

end Sys2Proof.Machine
end

section
/-! The end of a step at a screen (log entry 5): a screen outside SINGLE and ARMED comes out of the arming checks and the
readiness tests as it went in, with its show in the same state, unless a held show could start on it; and a step that posts
one cause of class CHANGE offers it to every record (R185, R186). -/

namespace Sys2Proof.Machine

variable {s t u w : State} {p q : ProjNo} {n m : ScreenNo}

/-! ## One screen -/

/-- From `s` to `t` the changeover record of a screen is the same, and so is the state of its show. -/
structure Stays (n : ScreenNo) (s t : State) : Prop where
  screen : t.screen n = s.screen n
  show_ : (t.showRec n).state = (s.showRec n).state

theorem Stays.refl (s : State) : Stays n s s := ⟨rfl, rfl⟩

theorem Stays.trans (h : Stays n s t) (k : Stays n t u) : Stays n s u :=
  ⟨k.screen.trans h.screen, k.show_.trans h.show_⟩

theorem Stays.of_fields (hs : t.screens = s.screens) (hw : t.shows = s.shows) : Stays n s t :=
  ⟨by rw [State.screen, hs, State.screen], by rw [State.showRec, hw, State.showRec]⟩

theorem Stays.modScreen (s : State) (hm : n ≠ m) (f : Screen → Screen) : Stays n s (s.modScreen m f) :=
  ⟨by rw [State.modScreen, State.screen_setScreen, if_neg hm], rfl⟩

theorem Stays.setShow (s : State) (hm : n ≠ m) (r : ShowRec) : Stays n s (s.setShow m r) :=
  ⟨rfl, by rw [State.showRec_setShow, if_neg hm]⟩

theorem Stays.clearLate (s : State) (hm : n ≠ m) : Stays n s (s.clearLate m) :=
  (Stays.modScreen s hm fun r => { r with lateMotor := false }).trans (.of_fields rfl rfl)

theorem Stays.setScreenState (s : State) (hm : n ≠ m) (x : ScreenState) : Stays n s (s.setScreenState m x) := by
  unfold State.setScreenState
  dsimp only
  have hmod := Stays.modScreen s hm fun r => { r with state := x }
  split
  · exact .refl s
  · split <;> exact hmod.trans (.of_fields rfl rfl)

theorem Stays.startOrder (s : State) (q : ProjNo) : Stays n s (s.startOrder q).1 := by
  unfold State.startOrder
  split <;> exact .of_fields rfl rfl

theorem Stays.haltCore (s : State) (q : ProjNo) {c : HaltCause} (hc : c ≠ .filmBreak) : Stays n s (s.haltCore q c) := by
  cases hm : (s.projector q).runState.motor with
  | false =>
    rw [State.haltCore_still hm]
    exact .refl s
  | true =>
    obtain ⟨-, -, -, hs, hw, -⟩ := State.haltCore_fields hm hc
    exact .of_fields hs hw

theorem Stays.stopIdle (s : State) (m : ScreenNo) : Stays n s (s.stopIdle m) := by
  unfold State.stopIdle
  split
  · split
    · exact .haltCore s _ (by simp)
    · exact .refl s
  · exact .refl s

theorem Stays.interrupt (s : State) (hm : n ≠ m) : Stays n s (s.interrupt m) := by
  unfold State.interrupt
  split
  · exact .refl s
  · exact ((((Stays.stopIdle s m).trans (.modScreen _ hm _)).trans (.clearLate _ hm)).trans (.setScreenState _ hm _)).trans
      (.of_fields rfl rfl)

/-! ## The arming checks -/

theorem Stays.armingCheck_other (s : State) (hm : n ≠ m) : Stays n s (s.armingCheck m) := by
  have hact : ∀ (t : State) (q : ProjNo) (b : Bool), Stays n t (t.actOnArming m q b) := by
    intro t q b
    unfold State.actOnArming
    split
    · split
      · exact ((Stays.clearLate t hm).trans (.startOrder _ q)).trans (.setScreenState _ hm _)
      · exact .setScreenState t hm _
    · exact .setScreenState t hm _
    · exact .refl t
  unfold State.armingCheck
  split
  · split
    · exact .refl s
    next q _ =>
      have hmod := Stays.modScreen s hm fun r => { r with arming := resultOf (s.armingFails m q) }
      dsimp only
      refine Stays.trans ?_ (hact _ _ _)
      split
      · exact hmod.trans (.of_fields rfl rfl)
      · exact hmod
  · exact .refl s

theorem State.armingCheck_idle (hs : (s.screen n).state ≠ .single) (ha : (s.screen n).state ≠ .armed) :
    s.armingCheck n = s := if_neg (by simp [hs, ha])

/-! ## The readiness tests -/

theorem State.carbonNotice_fields (s : State) (m : ScreenNo) : (s.carbonNotice m).screens = s.screens ∧
    (s.carbonNotice m).shows = s.shows ∧ (s.carbonNotice m).work.posts = s.work.posts := by
  unfold State.carbonNotice
  split <;> [split; skip] <;> exact ⟨rfl, rfl, rfl⟩

/-- A stored test leaves the screens and the states of the shows. -/
theorem Stays.storeReadiness (s : State) (m : ScreenNo) : Stays n s (s.storeReadiness m) := by
  obtain ⟨hs, hw, -⟩ := (s.setShow m { s.showRec m with readiness := s.readiness m }).carbonNotice_fields m
  refine Stays.trans (t := s.setShow m { s.showRec m with readiness := s.readiness m }) ⟨rfl, ?_⟩ (.of_fields hs hw)
  rw [State.showRec_setShow]
  split
  next h => rw [h]
  · rfl

theorem Stays.startShow_other (s : State) (hm : n ≠ m) : Stays n s (s.startShow m) := by
  have hgive : ∀ t : State, Stays n t (t.giveStart m) := by
    intro t
    unfold State.giveStart State.beginOpening
    split
    · dsimp only
      have hopen := fun (f : Screen → Screen) (q : ProjNo) =>
        ((Stays.modScreen t hm f).trans (.setScreenState _ hm .starting)).trans (.startOrder _ q)
      split
      · exact hopen _ _
      · exact (hopen _ _).trans (.interrupt _ hm)
    · exact .refl t
  have hhouse : ∀ t : State, Stays n t (t.houseShowStart m) := fun t => by
    have h := State.outsideHouse_congr ((t.setMarks m 0#16).fireWhere_outsideHouse m fun c => decide (c.anchor =
        .showStart))
    unfold State.houseShowStart
    rw [h]
    exact .of_fields rfl rfl
  have hbell : ∀ t : State, Stays n t (t.releaseBell m) := fun _ => .of_fields rfl rfl
  have htell : ∀ (t : State) (d : DutyNotice) (b : Block) (c : AttnCause), Stays n t ((t.tellDuty d).post b c) :=
    fun _ _ _ _ => .of_fields rfl rfl
  have h := fun r : ShowRec => ((Stays.setShow s hm r).trans (hgive _)).trans (hhouse _)
  unfold State.startShow
  dsimp only
  split
  · exact ((h _).trans (hbell _)).trans (htell _ _ _ _)
  · exact (h _).trans (htell _ _ _ _)

theorem Stays.retest_other (s : State) (hm : n ≠ m) : Stays n s (s.retest m) := by
  unfold State.retest
  split
  · exact .storeReadiness s m
  · dsimp only
    split
    · exact (Stays.storeReadiness s m).trans (.startShow_other _ hm)
    · exact .storeReadiness s m
  · exact .refl s

/-- A test of a screen that is not DARK does not pass, so it starts no held show (R151, R153). -/
theorem Stays.retest (s : State) (h : (s.showRec n).state = .held → (s.screen n).state ≠ .dark) :
    Stays n s (s.retest n) := by
  unfold State.retest
  split
  · exact .storeReadiness s n
  next hh =>
    dsimp only
    rw [if_neg]
    · exact .storeReadiness s n
    · rw [State.storeReadiness_result]
      intro hp
      obtain ⟨_, -, hd, -⟩ := State.readiness_pass s hp
      exact h hh hd
  · exact .refl s

theorem Stays.foldl {ι : Type} (f : State → ι → State) (hf : ∀ t x, Stays n s t → Stays n t (f t x)) (l : List ι)
    (h : Stays n s t) : Stays n s (l.foldl f t) := by
  induction l generalizing t with
  | nil => exact h
  | cons x rest ih => exact ih (h.trans (hf t x h))

/-- The end of a step leaves a screen outside SINGLE and ARMED, and the state of its show, where no held show can start. -/
theorem State.settle_stays (hs : (s.screen n).state ≠ .single) (ha : (s.screen n).state ≠ .armed)
    (hh : (s.showRec n).state = .held → (s.screen n).state ≠ .dark) : Stays n s s.settle := by
  have harm : Stays n s s.settleArming := by
    refine .foldl _ (fun t m h => ?_) _ (.refl s)
    split
    · by_cases hm : n = m
      · subst hm
        rw [State.armingCheck_idle (by rwa [h.screen]) (by rwa [h.screen])]
        exact .refl t
      · exact .armingCheck_other t hm
    · exact .refl t
  have htest : Stays n s s.settleArming.settleTests := by
    refine .foldl _ (fun t m h => ?_) _ harm
    split
    · by_cases hm : n = m
      · subst hm
        exact .retest t (by rwa [h.screen, h.show_])
      · exact .retest_other t hm
    · exact .refl t
  obtain ⟨-, -, -, -, -, hscreens, -, -, -, -, hshows⟩ := s.settle_rest
  exact htest.trans (.of_fields hscreens hshows)

/-! ## The causes of class CHANGE -/

/-- The causes of class CHANGE that the step has posted so far. -/
def State.changes (s : State) : List (Block × AttnCause) := s.work.posts.filter fun x => decide (x.2.cls = .change)

theorem State.changes_congr (h : t.work.posts = s.work.posts) : t.changes = s.changes := by
  rw [State.changes, h, State.changes]

theorem State.post_changes (s : State) (b : Block) {c : AttnCause} (h : c.cls ≠ .change) : (s.post b c).changes =
    s.changes := by
  simp [State.changes, h]

theorem State.setScreenState_posts (s : State) (m : ScreenNo) (x : ScreenState) :
    (s.setScreenState m x).work.posts = s.work.posts := by
  unfold State.setScreenState
  dsimp only
  split <;> [skip; split] <;> rfl

theorem State.startOrder_posts (s : State) (q : ProjNo) : (s.startOrder q).1.work.posts = s.work.posts := by
  unfold State.startOrder
  split <;> rfl

theorem State.armingCheck_posts (s : State) (m : ScreenNo) : (s.armingCheck m).work.posts = s.work.posts := by
  have hact : ∀ (t : State) (q : ProjNo) (b : Bool), (t.actOnArming m q b).work.posts = t.work.posts := by
    intro t q b
    unfold State.actOnArming
    split
    · split
      · exact (State.setScreenState_posts _ _ _).trans (State.startOrder_posts _ _)
      · exact State.setScreenState_posts _ _ _
    · exact State.setScreenState_posts _ _ _
    · rfl
  unfold State.armingCheck
  split
  · split
    · rfl
    · dsimp only
      rw [hact]
      split <;> rfl
  · rfl

theorem State.storeReadiness_posts (s : State) (m : ScreenNo) : (s.storeReadiness m).work.posts = s.work.posts :=
  (State.carbonNotice_fields _ m).2.2

theorem State.storeReadiness_runs (s : State) (m : ScreenNo) : (s.storeReadiness m).projectors = s.projectors ∧
    (s.storeReadiness m).retained = s.retained := by
  unfold State.storeReadiness State.carbonNotice
  split <;> [split; skip] <;> exact ⟨rfl, rfl⟩

/-- A show that starts on a passing test interrupts nothing: its Start order is taken (R63, R152). -/
theorem State.startShow_changes (h : ∀ x, s.header m = some x → (s.projector ⟨m, x.firstSide⟩).runState = .threaded) :
    (s.startShow m).changes = s.changes := by
  have hgive : ∀ t : State, t.projectors = s.projectors → t.retained = s.retained →
      (t.giveStart m).work.posts = t.work.posts := by
    intro t hp hr
    unfold State.giveStart
    split
    next x _ hx =>
      have hopen : ∀ u : State, u.projectors = s.projectors → (u.startOrder ⟨m, x.firstSide⟩).2 = true := by
        intro u hu
        have hthr : (u.projector ⟨m, x.firstSide⟩).runState = .threaded := by
          rw [State.projector, hu]
          exact h x (by rw [← State.header_congr hr m, hx])
        rw [State.startOrder, if_pos hthr]
      have hss : ∀ (u : State) (y : ScreenState), (u.setScreenState m y).projectors = u.projectors := fun u y => by
        unfold State.setScreenState
        dsimp only
        split <;> [skip; split] <;> rfl
      have htaken : ∀ f : Screen → Screen,
          (((t.modScreen m f).setScreenState m .starting).startOrder ⟨m, x.firstSide⟩).2 = true :=
        fun f => hopen _ ((hss _ _).trans hp)
      unfold State.beginOpening
      dsimp only
      rw [if_pos (htaken _), State.startOrder_posts, State.setScreenState_posts]
      rfl
    · rfl
  have hhouse : ∀ t : State, (t.houseShowStart m).work.posts = t.work.posts := fun t => by
    have h := State.outsideHouse_congr ((t.setMarks m 0#16).fireWhere_outsideHouse m fun c => decide (c.anchor =
        .showStart))
    unfold State.houseShowStart
    rw [h]
    rfl
  have h1 := fun r : ShowRec => State.changes_congr ((hhouse _).trans (hgive (s.setShow m r) rfl rfl))
  have hset : ∀ r : ShowRec, (s.setShow m r).changes = s.changes := fun _ => rfl
  have hbell : ∀ t : State, (t.releaseBell m).changes = t.changes := fun _ => rfl
  have htell : ∀ (t : State) (d : DutyNotice), (t.tellDuty d).changes = t.changes := fun _ _ => rfl
  unfold State.startShow
  dsimp only
  rw [State.post_changes _ _ (by simp [AttnCause.cls]), htell]
  split
  · rw [hbell, h1, hset]
  · rw [h1, hset]

theorem State.retest_changes (s : State) (m : ScreenNo) : (s.retest m).changes = s.changes := by
  unfold State.retest
  split
  · exact State.changes_congr (s.storeReadiness_posts m)
  · dsimp only
    split
    next hp =>
      rw [State.storeReadiness_result] at hp
      obtain ⟨x, hx, -, hthr⟩ := State.readiness_pass s hp
      obtain ⟨hproj, hret⟩ := s.storeReadiness_runs m
      rw [State.startShow_changes fun y hy => ?_]
      · exact State.changes_congr (s.storeReadiness_posts m)
      · rw [State.header_congr hret, hx] at hy
        rw [State.projector, hproj, ← Option.some.inj hy]
        exact hthr
    · exact State.changes_congr (s.storeReadiness_posts m)
  · rfl

theorem State.settleArming_changes (s : State) : s.settleArming.changes = s.changes := by
  have hstep : ∀ (t : State) (m : ScreenNo), (if t.work.arm.get m then t.armingCheck m else t).changes = t.changes := by
    intro t m
    split
    · exact State.changes_congr (t.armingCheck_posts m)
    · rfl
  unfold State.settleArming
  exact foldl_keeps State.changes _ hstep _ s

theorem State.settleTests_changes (s : State) : s.settleTests.changes = s.changes := by
  have hstep : ∀ (t : State) (m : ScreenNo), (if t.work.retest.get m then t.retest m else t).changes = t.changes := by
    intro t m
    split
    · exact t.retest_changes m
    · rfl
  unfold State.settleTests
  exact foldl_keeps State.changes _ hstep _ s

/-- The duty unit posts causes of class DUTY alone (R162). -/
theorem State.insertDuty_changes (s : State) (e : DutyEntry) : (s.insertDuty e).changes = s.changes := by
  unfold State.insertDuty
  dsimp only
  split
  · rfl
  · exact State.post_changes _ _ (by simp [AttnCause.cls])

theorem State.derive_changes (s : State) (ps : List ProjNo) : (s.derive ps).changes = s.changes := by
  unfold State.derive
  exact foldl_keeps State.changes _ (fun t _ => t.insertDuty_changes _) _ _

theorem State.settleDuty_changes (s : State) : s.settleDuty.changes = s.changes := by
  have hshuffle : ∀ (t : State) (q : ProjNo), (t.shuffleRetrim q).changes = t.changes := by
    intro t q
    unfold State.shuffleRetrim
    dsimp only
    split <;> [split; skip] <;> rfl
  have hrestore : ∀ (t : State) (i : ShutterNo), (t.restoreRearm i).changes = t.changes := by
    intro t i
    unfold State.restoreRearm
    split
    · exact t.insertDuty_changes _
    · rfl
  have htake : ∀ (t : State) (d : DutyNotice), (t.takeDuty d).changes = t.changes := by
    intro t d
    cases d with
    | projector q => exact t.derive_changes _
    | screen m =>
      unfold State.takeDuty State.deriveScreen
      exact (foldl_keeps State.changes State.restoreRearm hrestore _ _).trans (t.derive_changes _)
    | retrim q => exact (State.derive_changes _ _).trans (by split <;> rfl)
    | low q => exact t.insertDuty_changes _
    | lowCleared q => rfl
    | carbonShort q => exact t.insertDuty_changes _
    | dropped i => exact State.insertDuty_changes _ _
    | up i => rfl
  unfold State.settleDuty
  dsimp only
  rw [foldl_keeps State.changes State.takeDuty htake, foldl_keeps State.changes State.shuffleRetrim hshuffle]

/-! ## The attention records -/

/-- The order in which causes reach the records adds none. -/
theorem mem_of_mem_mergePosts {c : AttnCause} (k : Nat) (l : List (Block × AttnCause)) (f : Nat)
    (h : c ∈ (mergePosts k l f).1) : ∃ x ∈ l, x.2 = c := by
  induction k generalizing l f with
  | zero => simp [mergePosts] at h
  | succ k ih =>
    unfold mergePosts at h
    split at h
    · simp at h
    · simpa using h
    next b bs _ _ =>
      dsimp only at h
      generalize ((b :: bs)[Config.freePick f % (bs.length + 1)]?).getD b = chosen at h
      cases hnow : (l.filter fun x => decide (x.1 = chosen)).head? with
      | none =>
        rw [hnow] at h
        exact ih l _ (by simpa using h)
      | some x =>
        rw [hnow] at h
        rcases List.mem_append.mp h with h | h
        · have hx := List.mem_of_mem_filter (List.mem_of_head? hnow)
          exact ⟨x, hx, (List.mem_singleton.mp h).symm⟩
        · obtain ⟨y, hy, hc⟩ := ih _ _ h
          exact ⟨y, List.mem_of_mem_erase hy, hc⟩

/-- What a cause leaves in a record's entry of a class depends on that entry and its armed mark alone. -/
theorem Attention.offer_congr {x y : Attention} (c : AttnCause) (hp : x.pending.get c.cls = y.pending.get c.cls)
    (ha : x.armed.get c.cls = y.armed.get c.cls) : (x.offer c).pending.get c.cls = (y.offer c).pending.get c.cls := by
  unfold Attention.offer
  rw [hp, ha]
  split <;> [skip; split] <;> simp [hp]

theorem Attention.offer_other (x : Attention) (c : AttnCause) {k : AttnClass} (h : k ≠ c.cls) :
    (x.offer c).pending.get k = x.pending.get k ∧ (x.offer c).armed.get k = x.armed.get k := by
  unfold Attention.offer
  split <;> [skip; split] <;> simp [h]

/-- The causes of another class leave the entry of a class and its armed mark. -/
theorem State.offerClass_other (s : State) {k j : AttnClass} (h : k ≠ j) (st : Station) :
    ((s.offerClass j).attn st).pending.get k = (s.attn st).pending.get k ∧
      ((s.offerClass j).attn st).armed.get k = (s.attn st).armed.get k := by
  have hfold : ∀ (l : List AttnCause) (t : State), (∀ c ∈ l, c.cls = j) →
      ((l.foldl State.offer t).attn st).pending.get k = (t.attn st).pending.get k ∧
        ((l.foldl State.offer t).attn st).armed.get k = (t.attn st).armed.get k := by
    intro l
    induction l with
    | nil => exact fun t _ => ⟨rfl, rfl⟩
    | cons c l ih =>
      intro t hl
      have hattn : (t.offer c).attn st = (t.attn st).offer c := ByStation.get_map _ _ _
      have hc := (t.attn st).offer_other c (k := k) (by rw [hl c (by simp)]; exact h)
      have hrest := ih (t.offer c) fun d hd => hl d (by simp [hd])
      rw [hattn, hc.1, hc.2] at hrest
      exact hrest
  unfold State.offerClass
  refine hfold _ { s with free := _ } fun c hc => ?_
  obtain ⟨x, hx, rfl⟩ := mem_of_mem_mergePosts _ _ _ hc
  simpa using (List.mem_filter.mp hx).2

theorem State.offerClass_work (s : State) (j : AttnClass) : (s.offerClass j).work = s.work := by
  unfold State.offerClass
  dsimp only
  rw [foldl_keeps State.work State.offer fun _ _ => rfl]

theorem State.offerClasses_other {k : AttnClass} (st : Station) (l : List AttnClass) (h : k ∉ l) (s : State) :
    ((l.foldl State.offerClass s).attn st).pending.get k = (s.attn st).pending.get k ∧
      ((l.foldl State.offerClass s).attn st).armed.get k = (s.attn st).armed.get k ∧
      (l.foldl State.offerClass s).work = s.work := by
  induction l generalizing s with
  | nil => exact ⟨rfl, rfl, rfl⟩
  | cons j l ih =>
    obtain ⟨hj, hl⟩ := List.ne_and_not_mem_of_not_mem_cons h
    obtain ⟨hp, ha, hw⟩ := ih hl (s.offerClass j)
    obtain ⟨hp', ha'⟩ := s.offerClass_other hj st
    exact ⟨hp.trans hp', ha.trans ha', hw.trans (s.offerClass_work j)⟩

/-- The causes of a class of which one was posted reach the records without a free choice. -/
theorem State.offerClass_single {b : Block} {c : AttnCause} (h : s.changes = [(b, c)]) :
    s.offerClass .change = { s with attention := s.offered c } := by
  have he : [b].eraseDups = [b] := by simp [List.eraseDups_cons]
  have hl : s.work.posts.filter (fun x => decide (x.2.cls = .change)) = [(b, c)] := h
  simp [State.offerClass, hl, mergePosts, blocksOf, he, State.offer, State.offered]

/-- One cause of class CHANGE that the step has posted is offered to every record. -/
theorem State.settlePosts_change {b : Block} {c : AttnCause} (h : s.changes = [(b, c)]) (st : Station) :
    (s.settlePosts.attn st).pending.get .change = ((s.attn st).offer c).pending.get .change := by
  have hc : c.cls = .change := by
    have hmem : (b, c) ∈ s.changes := by rw [h]; exact List.mem_singleton.mpr rfl
    simpa using (List.mem_filter.mp hmem).2
  obtain ⟨hp, ha, hw⟩ := s.offerClasses_other (k := .change) st [.fire, .filmBreak, .shutter, .arc] (by decide)
  have hsplit : allClasses = [.fire, .filmBreak, .shutter, .arc] ++ .change :: [.shows, .house, .duty, .link] := by decide
  unfold State.settlePosts
  rw [hsplit, List.foldl_append, List.foldl_cons]
  generalize [AttnClass.fire, .filmBreak, .shutter, .arc].foldl State.offerClass s = t at hp ha hw ⊢
  obtain ⟨hp', -, -⟩ := (t.offerClass .change).offerClasses_other (k := .change) st [.shows, .house, .duty,
      .link] (by decide)
  have hoffered : ({ t with attention := t.offered c } : State).attn st = (t.attn st).offer c := ByStation.get_map _ _ _
  rw [hp', State.offerClass_single (b := b) (c := c) (by rw [State.changes, hw]; exact h), hoffered, ← hc]
  exact Attention.offer_congr c (by rw [hc, hp]) (by rw [hc, ha])

@[simp] theorem State.attn_begin (s : State) (st : Station) : s.begin.attn st = s.attn st := rfl

/-- A step whose causes of class CHANGE come to one lets that cause be heard. -/
theorem State.settle_heard {b : Block} {c : AttnCause} (ha : t.attention = s.attention) (h : t.changes = [(b, c)]) :
    s.Heard t.settle c := by
  have hc : c.cls = .change := by
    have hmem : (b, c) ∈ t.changes := by rw [h]; exact List.mem_singleton.mpr rfl
    simpa using (List.mem_filter.mp hmem).2
  have hchanges : t.settleArming.settleTests.settleDuty.changes = [(b, c)] := by
    rw [State.settleDuty_changes, State.settleTests_changes, State.settleArming_changes, h]
  have hattn : t.settleArming.settleTests.settleDuty.attention = s.attention := by
    have hduty := State.settleDuty_outside t.settleArming.settleTests
    simp only [State.outsideDuty, State.mk.injEq] at hduty
    have hcalm : t.settleArming.settleTests.calm = t.calm := by simp
    have hcalm' : t.settleArming.settleTests.attention = t.attention := congrArg Calm.attention hcalm
    simp only [hduty, hcalm', ha]
  intro st
  rw [hc]
  have hset := State.settlePosts_change hchanges st
  have hst : t.settleArming.settleTests.settleDuty.attn st = s.attn st := by rw [State.attn, hattn, State.attn]
  rw [State.settle, State.attn_begin, hset, hst]

end Sys2Proof.Machine
end

section
/-! The pulse that brings a showing projector to its picture end (R55, R71): what has happened before the sequencer takes
the notice, the closing of an unready screen (R66), and the forced swap of a rolling one (R72). -/

namespace Sys2Proof.Machine

variable {a b s t u w : State} {p q x y : ProjNo} {n m : ScreenNo} {r : Reel} {c interval : Nat}

@[simp] theorem ProjNo.other_ne (p : ProjNo) : p.other ≠ p := by
  obtain ⟨n, d⟩ := p
  cases d <;> simp [ProjNo.other, Side.other]

/-! ## The notice reaches the sequencer -/

theorem Tracker.pulsed_context (t : Tracker) (interval : Nat) : (t.pulsed interval).1.context = t.context := by
  unfold Tracker.pulsed Tracker.capture Tracker.judge
  split
  · split <;> split <;> [skip; split; split; skip] <;> rfl
  · rfl

theorem State.showingProj_of_side (h : (s.screen p.screen).showingSide = some p.side) :
    s.showingProj p.screen = some p := by
  rw [State.showingProj, h]
  rfl

theorem State.standby_of_side (h : (s.screen p.screen).showingSide = some p.side) :
    s.standby p.screen = some p.other := by
  rw [State.standby, State.showingProj_of_side h]
  rfl

/-- The at-speed notice of the showing projector changes nothing (R27, R70). -/
theorem State.atSpeedNotice_showing (hp : (s.projector p).runState = .showing)
    (hside : (s.screen p.screen).showingSide = some p.side) (hs : (s.screen p.screen).state ≠ .starting) :
    s.atSpeedNotice p = s := by
  rw [State.atSpeedNotice, if_neg (by simp [hp])]
  unfold State.onSpeed
  dsimp only
  split
  next h => exact absurd h hs
  · rw [if_neg]
    simp [State.standby_of_side hside]
  · rfl

/-- A cue that is no longer PENDING is not settled again (R50, R51). -/
theorem State.cueCheck_settled {k : CueKind} (h : ∀ x, (s.tracker p).context = some x → x.status k ≠ .pending) :
    s.cueCheck p c k = s := by
  unfold State.cueCheck
  split
  next x _ hx _ => exact if_neg (h x hx)
  · rfl

/-- The anchor notices reach the house alone (R56, R132). -/
theorem State.anchorCheck_house (s : State) (p : ProjNo) (c : Nat) : ∃ h, s.anchorCheck p c = { s with house := h } := by
  unfold State.anchorCheck
  split
  · exact ⟨_, State.outsideHouse_congr (s.fireWhere_outsideHouse _ _)⟩
  · exact ⟨s.house, rfl⟩

/-- The state in which the sequencer takes the picture-end notice of a pulse. -/
def State.atEnd (s : State) (p : ProjNo) (interval : Nat) (h : House) : State := { s.counted p interval with house := h }

/-- A pulse that brings the showing projector to E, its cues settled, is the picture-end notice and the check of the runout
limit (R57). -/
theorem State.sprocket_atEnd (hp : (s.projector p).runState = .showing)
    (hside : (s.screen p.screen).showingSide = some p.side) (hs : (s.screen p.screen).state ≠ .starting)
    (hr : s.loadedRecord p = some r) (hc : (s.tracker p).counter + 1 = r.pictureEnd) (hmax : r.pictureEnd ≤ 65535)
    (hcues : ∀ x, (s.tracker p).context = some x → x.motor ≠ .pending ∧ x.changeover ≠ .pending) (interval : Nat) :
    ∃ h, s.sprocket p interval = ((s.atEnd p interval h).onPictureEnd p).limitCheck p r.pictureEnd := by
  have hcount : ((s.tracker p).pulsed interval).1.counter = r.pictureEnd := by
    rw [((s.tracker p).pulsed_fields interval).1]
    omega
  have hspeed : (s.counted p interval).atSpeedNotice p = s.counted p interval :=
    State.atSpeedNotice_showing hp hside hs
  have hcue : ∀ k, (s.counted p interval).cueCheck p r.pictureEnd k = s.counted p interval := by
    refine fun k => State.cueCheck_settled fun x hx => ?_
    rw [State.counted_tracker, Tracker.pulsed_context] at hx
    obtain ⟨hmotor, hchange⟩ := hcues x hx
    cases k
    · exact hmotor
    · exact hchange
  obtain ⟨h, hanchor⟩ := (s.counted p interval).anchorCheck_house p r.pictureEnd
  have hend : (s.atEnd p interval h).endCheck p r.pictureEnd = (s.atEnd p interval h).onPictureEnd p := by
    have hp' : ((s.atEnd p interval h).projector p).runState = .showing := hp
    have hr' : (s.atEnd p interval h).loadedRecord p = some r := hr
    simp [State.endCheck, hp', hr']
  refine ⟨h, ?_⟩
  rw [State.sprocket_motor (by rw [hp]; rfl), hcount, hspeed, ite_self]
  unfold State.frameChecks
  dsimp only
  rw [State.leadInCheck_idle (by exact fun k => absurd k hs), hcue, hcue, hanchor]
  exact congrArg (State.limitCheck · p r.pictureEnd) hend

/-- The check of R47 does nothing to a projector that stands at E. -/
theorem State.limitCheck_atEnd (h : (s.projector p).runState = .runout → s.loadedRecord p = some r) :
    s.limitCheck p r.pictureEnd = s := by
  unfold State.limitCheck
  split
  next y hrun hy =>
    have hry := Option.some.inj ((h hrun).symm.trans hy)
    exact if_neg (by rw [hry]; omega)
  · rfl

/-! ## An interruption (R66) -/

/-- A change of changeover state writes the state of its screen, and sends notices. -/
theorem State.setScreenState_fields (s : State) (m : ScreenNo) (y : ScreenState) :
    (s.setScreenState m y).screen m = { s.screen m with state := y } ∧ (s.setScreenState m y).projectors = s.projectors ∧
      (s.setScreenState m y).trackers = s.trackers ∧ (s.setScreenState m y).shows = s.shows ∧
      (s.setScreenState m y).work.posts = s.work.posts := by
  unfold State.setScreenState
  dsimp only
  split
  next h => exact ⟨by rw [← h], rfl, rfl, rfl, rfl⟩
  · split <;> exact ⟨(ByScreen.get_set _ _ _ _).trans (if_pos rfl), rfl, rfl, rfl, rfl⟩

/-- A projector that the Stop order of an interruption stops (R66). -/
def State.stoppable (s : State) (x : ProjNo) : Prop :=
  (s.projector x).runState = .starting ∨ (s.projector x).runState = .running

theorem State.stopIdle_eq (s : State) (n : ScreenNo) :
    (s.stopIdle n = s ∧ ∀ x, s.idleProj n = some x → ¬ s.stoppable x) ∨
      ∃ y, s.idleProj n = some y ∧ s.stoppable y ∧ s.stopIdle n = s.haltCore y .stop := by
  unfold State.stopIdle State.stoppable
  split
  next y hy =>
    split
    next h => exact .inr ⟨y, hy, by simpa using h, rfl⟩
    next h =>
      refine .inl ⟨rfl, fun x hx => ?_⟩
      obtain rfl := Option.some.inj (hy.symm.trans hx)
      simpa using h
  next hn => exact .inl ⟨rfl, fun x hx => absurd hx (by simp [hn])⟩

/-- The Stop order of an interruption (R66): what it halts, and what it leaves. -/
theorem State.stopIdle_fields (s : State) (n : ScreenNo) :
    (∀ x, ((s.stopIdle n).projector x).loaded = (s.projector x).loaded) ∧
    (∀ x, ¬ s.stoppable x → (s.stopIdle n).projector x = s.projector x ∧ (s.stopIdle n).tracker x = s.tracker x) ∧
    (∀ x, s.idleProj n = some x → s.stoppable x → ((s.stopIdle n).projector x).runState = .halted) ∧
    (s.stopIdle n).screens = s.screens ∧ (s.stopIdle n).shows = s.shows ∧ (s.stopIdle n).work.posts = s.work.posts := by
  rcases s.stopIdle_eq n with ⟨h, hn⟩ | ⟨y, hy, hs, h⟩
  · rw [h]
    exact ⟨fun _ => rfl, fun _ _ => ⟨rfl, rfl⟩, fun x hx hs => absurd hs (hn x hx), rfl, rfl, rfl⟩
  · have hm : (s.projector y).runState.motor = true := by rcases hs with hs | hs <;> rw [hs] <;> rfl
    obtain ⟨hp, ht, -, hsc, hw, hposts⟩ := State.haltCore_fields (c := .stop) hm (by simp)
    rw [h]
    refine ⟨fun x => ?_, fun x hx => ?_, fun x hx _ => ?_, hsc, hw, by simpa [HaltCause.posts] using hposts⟩
    · rw [hp]
      split
      next hxy => rw [hxy]
      · rfl
    · have hxy : x ≠ y := fun hxy => hx (hxy ▸ hs)
      rw [hp, ht, if_neg hxy, if_neg hxy]
      exact ⟨rfl, rfl⟩
    · rw [hp, if_pos (Option.some.inj (hx.symm.trans hy))]

/-- An interruption of a screen that is not DARK (R66). -/
theorem State.interrupt_fields (h : (s.screen n).state ≠ .dark) :
    (s.interrupt n).screen n = { (s.screen n).darkened with
      currentReel := (s.stopIdle n).settledReel n, lateMotor := false, state := .dark } ∧
    (s.interrupt n).projectors = (s.stopIdle n).projectors ∧ (s.interrupt n).trackers = (s.stopIdle n).trackers ∧
    (s.interrupt n).shows = s.shows ∧
    (s.interrupt n).work.posts = s.work.posts ++ [(.sequencer n, .dark n)] := by
  obtain ⟨-, -, -, hsc, hw, hposts⟩ := s.stopIdle_fields n
  have hscreen : (s.stopIdle n).screen n = s.screen n := by rw [State.screen, hsc, State.screen]
  generalize hv : s.stopIdle n = v at hsc hw hposts hscreen ⊢
  have hlate : ∀ u : State, (u.clearLate n).screen n = { u.screen n with lateMotor := false } := fun u =>
    (ByScreen.get_set _ _ _ _).trans (if_pos rfl)
  have hmod : ∀ f, (v.modScreen n f).screen n = f (v.screen n) := fun f => (ByScreen.get_set _ _ _ _).trans (if_pos rfl)
  obtain ⟨h1, h2, h3, h4, h5⟩ := State.setScreenState_fields
    ((v.modScreen n fun r => { r.darkened with currentReel := v.settledReel n }).clearLate n) n .dark
  unfold State.interrupt
  rw [if_neg h, hv]
  refine ⟨?_, h2, h3, h4.trans hw, ?_⟩
  · exact h1.trans (by rw [hlate, hmod, hscreen])
  · rw [State.post_work, ← hposts]
    exact congrArg (· ++ [(Block.sequencer n, AttnCause.dark n)]) h5

/-! ## A screen that closes (R66, R71) -/

/-- The reel to be shown next after an interruption, where the reel that has run to E was the current one (R66, step 2). -/
theorem State.settledReel_atEnd {k : Nat} (hk : (s.screen p.screen).currentReel = some k)
    (hp : (s.projector p).loaded = some k) (hq : (s.projector p.other).loaded ≠ some k) (he : s.atPictureEnd p = true) :
    s.settledReel p.screen = some (k + 1) := by
  have hhold : s.holderOf p.screen k = some p := by
    obtain ⟨n, d⟩ := p
    cases d <;> simp_all [State.holderOf, projectorsOf, ProjNo.other, Side.other]
  unfold State.settledReel
  rw [hk]
  dsimp only
  rw [hhold]
  exact if_pos he

/-- A screen that has closed at a picture end: DARK, its projector in RUNOUT with the douser closed, the next reel current,
and the incoming halted. -/
def State.ClosedAt (s : State) (p : ProjNo) (t : State) : Prop :=
  (t.screen p.screen).state = .dark ∧ (t.screen p.screen).showingSide = none ∧ (t.projector p).runState = .runout ∧
  (t.projector p).douser = .closed ∧
  (∀ k, (s.screen p.screen).currentReel = some k → (s.projector p).loaded = some k → (s.projector p.other).loaded ≠ some k →
    (t.screen p.screen).currentReel = some (k + 1)) ∧
  ((s.projector p.other).runState = .starting ∨ (s.projector p.other).runState = .running →
    (t.projector p.other).runState = .halted)

/-- A state in which a screen is interrupted at a picture end: the projector that showed is in RUNOUT at E, the incoming
has halted or is the projector that the interruption stops, and the rest is as in `s`. -/
structure Closing (s : State) (p : ProjNo) (r : Reel) (w : State) : Prop where
  run : (w.projector p).runState = .runout
  douser : (w.projector p).douser = .closed
  record : w.loadedRecord p = some r
  counter : (w.tracker p).counter = r.pictureEnd
  loaded : (w.projector p).loaded = (s.projector p).loaded ∧ (w.projector p.other).loaded = (s.projector p.other).loaded
  screen : (w.screen p.screen).state ≠ .dark ∧ (w.screen p.screen).currentReel = (s.screen p.screen).currentReel
  incoming : s.stoppable p.other → (w.projector p.other).runState = .halted ∨
    (w.stoppable p.other ∧ w.idleProj p.screen = some p.other)
  show_ : w.showRec p.screen = s.showRec p.screen

theorem Closing.not_stoppable (h : Closing s p r w) : ¬ w.stoppable p := by
  simp [State.stoppable, h.run]

/-- The interrupted state stands, and the check of the runout limit does nothing to it. -/
theorem Closing.interrupted (h : Closing s p r w) : (w.interrupt p.screen).projector p = w.projector p ∧
    (w.interrupt p.screen).limitCheck p r.pictureEnd = w.interrupt p.screen := by
  obtain ⟨-, hprojs, -, -, -⟩ := State.interrupt_fields h.screen.1
  obtain ⟨-, hkeep, -⟩ := w.stopIdle_fields p.screen
  have hp : (w.interrupt p.screen).projector p = w.projector p := by
    rw [State.projector, hprojs]
    exact (hkeep p h.not_stoppable).1
  refine ⟨hp, State.limitCheck_atEnd fun _ => ?_⟩
  rw [State.loadedRecord_congr (s := w) (by rw [hp]) (State.bankView_of_calm (w.interrupt_calm _)), h.record]

/-- The interruption closes the screen, and the end of the step leaves it closed where no held show can start on it. -/
theorem Closing.closes (h : Closing s p r w) (hshow : (s.showRec p.screen).state ≠ .held) :
    s.ClosedAt p (w.interrupt p.screen).settle := by
  obtain ⟨hscreen, hprojs, -, hshows, -⟩ := State.interrupt_fields h.screen.1
  obtain ⟨hloaded, hkeep, hhalt, hscreens, -, -⟩ := w.stopIdle_fields p.screen
  obtain ⟨hp, -⟩ := h.interrupted
  have hheld : ((w.interrupt p.screen).showRec p.screen).state ≠ .held := by
    rw [State.showRec, hshows, ← State.showRec, h.show_]
    exact hshow
  have hstays := State.settle_stays (s := w.interrupt p.screen) (n :=
      p.screen) (by rw [hscreen]; simp) (by rw [hscreen]; simp)
    fun k => absurd k hheld
  have hreel : ∀ k, (s.screen p.screen).currentReel = some k → (s.projector p).loaded = some k →
      (s.projector p.other).loaded ≠ some k → (w.stopIdle p.screen).settledReel p.screen = some (k + 1) := by
    intro k hk hpk hqk
    have hend : (w.stopIdle p.screen).atPictureEnd p = true := by
      rw [State.atPictureEnd, State.loadedRecord_congr (s := w) (hloaded p) (State.bankView_of_calm (w.stopIdle_calm _)),
        h.record, (hkeep p h.not_stoppable).2]
      exact decide_eq_true (Nat.le_of_eq h.counter.symm)
    refine State.settledReel_atEnd ?_ (by rw [hloaded, h.loaded.1, hpk]) (by rw [hloaded, h.loaded.2]; exact hqk) hend
    rw [State.screen, hscreens]
    exact h.screen.2.trans hk
  have hrun : ((w.interrupt p.screen).projector p).runState = .runout := by rw [hp, h.run]
  obtain ⟨hsettle, -⟩ := (w.interrupt p.screen).settle_projector p (by rw [hrun]; simp)
  refine ⟨by rw [hstays.screen, hscreen], by rw [hstays.screen, hscreen]; rfl, by rw [hsettle, hrun],
    by rw [hsettle, hp, h.douser], fun k hk hpk hqk => ?_, fun hq => ?_⟩
  · rw [hstays.screen, hscreen]
    exact hreel k hk hpk hqk
  · have hhalted : ((w.interrupt p.screen).projector p.other).runState = .halted := by
      rw [State.projector, hprojs]
      rcases h.incoming hq with hh | ⟨hstop, hidle⟩
      · have hns : ¬ w.stoppable p.other := by simp [State.stoppable, hh]
        exact (congrArg Projector.runState (hkeep _ hns).1).trans hh
      · exact hhalt _ hidle hstop
    rw [((w.interrupt p.screen).settle_projector p.other (by rw [hhalted]; simp)).1, hhalted]

/-- The Close order at a projector that shows its last frame (R30). -/
theorem State.closeOrder_atEnd (h : (s.projector p).runState = .showing) (hr : s.loadedRecord p = some r)
    (hc : (s.tracker p).counter = r.pictureEnd) :
    (∀ x, (s.closeOrder p).projector x = if x = p then { s.projector p with runState := .runout, douser := .closed }
      else s.projector x) ∧ (s.closeOrder p).trackers = s.trackers ∧ (s.closeOrder p).screens = s.screens ∧
    (s.closeOrder p).shows = s.shows ∧ (s.closeOrder p).work.posts = s.work.posts ∧
    (s.closeOrder p).loadedRecord p = some r := by
  obtain ⟨w, hw, hcalm, hp, ht, -, hs, hshows, hposts⟩ := State.closeOrder_showing h
  have hrec : w.loadedRecord p = some r := by
    rw [State.loadedRecord_congr (s := s) (by rw [hp, if_pos rfl]) (State.bankView_of_calm hcalm), hr]
  have hlim : w.atRunoutLimit p = false := by
    rw [State.atRunoutLimit, hrec, State.tracker, ht]
    exact decide_eq_false (by rw [← State.tracker, hc]; omega)
  rw [hw, hlim]
  exact ⟨hp, ht, hs, hshows, hposts, hrec⟩

/-! ## The three cases short of FINAL (R71) -/

/-- The premises on a pulse that brings the showing projector to E. -/
structure EndPulse (s : State) (p : ProjNo) (r : Reel) : Prop where
  awake : s.Awake
  showing : (s.projector p).runState = .showing
  side : (s.screen p.screen).showingSide = some p.side
  record : s.loadedRecord p = some r
  counter : (s.tracker p).counter + 1 = r.pictureEnd
  max : r.pictureEnd ≤ 65535
  cues : ∀ x, (s.tracker p).context = some x → x.motor ≠ .pending ∧ x.changeover ≠ .pending

theorem EndPulse.exec (h : EndPulse s p r) (hs : (s.screen p.screen).state ≠ .starting) (interval : Nat) :
    ∃ k, Machine.exec (.sprocketPulse p interval) s =
      .next (((s.atEnd p interval k).onPictureEnd p).limitCheck p r.pictureEnd).settle := by
  obtain ⟨k, hk⟩ := State.sprocket_atEnd h.showing h.side hs h.record h.counter h.max h.cues interval
  exact ⟨k, by rw [sprocketPulse_exec h.awake, hk]⟩

section AtEnd

variable (k : House)

@[simp] theorem State.atEnd_projector (x : ProjNo) : (s.atEnd p interval k).projector x = s.projector x := rfl
@[simp] theorem State.atEnd_screen : (s.atEnd p interval k).screen n = s.screen n := rfl
@[simp] theorem State.atEnd_showRec : (s.atEnd p interval k).showRec n = s.showRec n := rfl
@[simp] theorem State.atEnd_loadedRecord (x : ProjNo) : (s.atEnd p interval k).loadedRecord x = s.loadedRecord x := rfl
@[simp] theorem State.atEnd_permit (x : ProjNo) : (s.atEnd p interval k).permit x = s.permit x := rfl
@[simp] theorem State.atEnd_showingProj : (s.atEnd p interval k).showingProj n = s.showingProj n := rfl

theorem EndPulse.counted (h : EndPulse s p r) : ((s.atEnd p interval k).tracker p).counter = r.pictureEnd := by
  have hc : ((s.atEnd p interval k).tracker p).counter = ((s.tracker p).pulsed interval).1.counter :=
    congrArg Tracker.counter (State.counted_tracker s p interval)
  have hcount := h.counter
  have hmax := h.max
  rw [hc, ((s.tracker p).pulsed_fields interval).1]
  omega

theorem EndPulse.posts (h : EndPulse s p r) : (s.atEnd p interval k).work.posts = [] := congrArg Work.posts h.awake.work

end AtEnd

/-! ## The sequencer at a picture end (R71, R78) -/

/-- A screen at the picture end of its showing projector has no swap to make. -/
def State.unready (s : State) (n : ScreenNo) : Prop :=
  (s.screen n).state = .single ∨ (s.screen n).state = .armed ∨
    ((s.screen n).state = .rolling ∧ (s.screen n).swapFailed = true)

theorem State.onPictureEnd_unready (hside : (s.screen p.screen).showingSide = some p.side) (hs : s.unready p.screen) :
    s.onPictureEnd p = (s.closeOrder p).interrupt p.screen := by
  unfold State.onPictureEnd
  dsimp only
  rw [if_pos (State.showingProj_of_side hside)]
  rcases hs with hs | hs | ⟨hs, hf⟩ <;> rw [hs]
  exact if_pos hf

theorem State.onPictureEnd_rolling (hside : (s.screen p.screen).showingSide = some p.side)
    (hs : (s.screen p.screen).state = .rolling) (hf : (s.screen p.screen).swapFailed = false) :
    s.onPictureEnd p = s.swapStart p.screen p.other p true := by
  unfold State.onPictureEnd
  dsimp only
  rw [if_pos (State.showingProj_of_side hside), hs]
  exact if_neg (by simp [hf])

theorem State.onPictureEnd_final (hside : (s.screen p.screen).showingSide = some p.side)
    (hs : (s.screen p.screen).state = .final) : s.onPictureEnd p = s.closeShow p.screen p := by
  unfold State.onPictureEnd
  dsimp only
  rw [if_pos (State.showingProj_of_side hside), hs]

/-- An unready screen closes (R71). -/
theorem EndPulse.closes (h : EndPulse s p r) (hshow : (s.showRec p.screen).state ≠ .held)
    (ho : (s.screen p.screen).opening = none)
    (hs : s.unready p.screen) (interval : Nat) :
    Leads (.sprocketPulse p interval) s fun t => s.ClosedAt p t ∧ s.Heard t (.dark p.screen) := by
  have hns : (s.screen p.screen).state ≠ .starting := by rcases hs with hs | hs | ⟨hs, -⟩ <;> simp [hs]
  have hnd : (s.screen p.screen).state ≠ .dark := by rcases hs with hs | hs | ⟨hs, -⟩ <;> simp [hs]
  obtain ⟨k, hexec⟩ := h.exec hns interval
  have hend : (s.atEnd p interval k).onPictureEnd p = _ := State.onPictureEnd_unready h.side hs
  obtain ⟨hp, ht, hscreens, hshows, hposts, hrec⟩ :=
    State.closeOrder_atEnd (s := s.atEnd p interval k) h.showing h.record (h.counted k)
  have hpo := hp p.other
  rw [if_neg (ProjNo.other_ne p)] at hpo
  have hpp := hp p
  rw [if_pos rfl] at hpp
  have hcalm := (s.atEnd p interval k).closeOrder_calm p
  generalize (s.atEnd p interval k).closeOrder p = w at *
  have hscreen : w.screen p.screen = s.screen p.screen := by rw [State.screen, hscreens]; rfl
  have hclosing : Closing s p r w := by
    refine ⟨by rw [hpp], by rw [hpp], hrec, by rw [State.tracker, ht]; exact h.counted k, ⟨by rw [hpp]; rfl,
        by rw [hpo]; rfl⟩,
      ⟨by rwa [hscreen], by rw [hscreen]⟩, fun hq => .inr ⟨by rwa [State.stoppable, hpo], ?_⟩,
      by rw [State.showRec, hshows]; rfl⟩
    rw [State.idleProj, hscreen, ho]
    exact State.standby_of_side (by rw [hscreen, h.side])
  rw [hend, hclosing.interrupted.2] at hexec
  refine ⟨_, hexec, hclosing.closes hshow, ?_⟩
  have hchanges : (w.interrupt p.screen).changes = [(.sequencer p.screen, .dark p.screen)] := by
    obtain ⟨-, -, -, -, hdark⟩ := State.interrupt_fields hclosing.screen.1
    rw [hposts, h.posts] at hdark
    rw [State.changes, hdark]
    rfl
  have hattn : (w.interrupt p.screen).attention = s.attention :=
    (congrArg Calm.attention (w.interrupt_calm p.screen)).trans (congrArg Calm.attention hcalm)
  exact State.settle_heard hattn hchanges

/-! ## The forced swap (R71, R72, R75) -/

theorem State.modState_fields (s : State) (m : ScreenNo) (f : Screen → Screen) (y : ScreenState) :
    ((s.modScreen m f).setScreenState m y).screen m = { f (s.screen m) with state := y } ∧
      ((s.modScreen m f).setScreenState m y).projectors = s.projectors ∧
      ((s.modScreen m f).setScreenState m y).trackers = s.trackers ∧
      ((s.modScreen m f).setScreenState m y).shows = s.shows ∧
      ((s.modScreen m f).setScreenState m y).work.posts = s.work.posts := by
  obtain ⟨h1, h2, h3, h4, h5⟩ := (s.modScreen m f).setScreenState_fields m y
  have hmod : (s.modScreen m f).screen m = f (s.screen m) := (ByScreen.get_set _ _ _ _).trans (if_pos rfl)
  exact ⟨by rw [h1, hmod], h2, h3, h4, h5⟩

/-- The record of a screen that has begun the swap to `x` from `y` (R72). -/
def Screen.swapTo (x y : ProjNo) (r : Screen) : Screen :=
  { r with sound := x.side, confirmTimer := timerFor x, closeWatch := timerFor y, swapPending := false, immediate := false }

/-- A forced swap that has sent the Open order to `x` and the Douse order to `y` (R71, R72). -/
def State.forced (s : State) (n : ScreenNo) (x y : ProjNo) : State :=
  ((((s.openOrder x).1.douseOrder y).modScreen n (Screen.swapTo x y)).setScreenState n .swapping).post (.sequencer n)
      (.late n)

theorem State.swapStart_late (s : State) (n : ScreenNo) (x y : ProjNo) : s.swapStart n x y true =
    if (s.openOrder x).2 then s.forced n x y else (s.forced n x y).swapFail n x y := rfl

theorem State.douseOrder_showing (h : (s.projector y).runState = .showing) :
    s.douseOrder y = s.setProjector y { s.projector y with douser := .closed } := if_pos (by simp [h])

theorem State.forced_calm (s : State) (n : ScreenNo) (x y : ProjNo) : (s.forced n x y).calm = s.calm := by
  simp [State.forced]

theorem State.forced_fields (hy : ((s.openOrder x).1.projector y).runState = .showing) :
    (s.forced n x y).screen n = { Screen.swapTo x y (s.screen n) with state := .swapping } ∧
    (∀ z, (s.forced n x y).projector z = if z = y then { (s.openOrder x).1.projector y with douser := .closed }
      else (s.openOrder x).1.projector z) ∧
    (s.forced n x y).trackers = s.trackers ∧ (s.forced n x y).shows = s.shows ∧
    (s.forced n x y).work.posts = s.work.posts ++ [(.sequencer n, .late n)] := by
  have ho : (s.openOrder x).1.screens = s.screens ∧ (s.openOrder x).1.trackers = s.trackers ∧
      (s.openOrder x).1.shows = s.shows ∧ (s.openOrder x).1.work = s.work := by
    unfold State.openOrder
    split <;> exact ⟨rfl, rfl, rfl, rfl⟩
  obtain ⟨hs, ht, hw, hwork⟩ := ho
  obtain ⟨h1, h2, h3, h4, h5⟩ := State.modState_fields ((s.openOrder x).1.douseOrder y) n (Screen.swapTo x y) .swapping
  rw [State.douseOrder_showing hy] at h1 h2 h3 h4 h5
  unfold State.forced
  rw [State.douseOrder_showing hy]
  refine ⟨h1.trans ?_, fun z => ?_, h3.trans ht, h4.trans hw, ?_⟩
  · rw [State.screen, State.setProjector_screens, hs, State.screen]
  · rw [State.projector, State.post_projectors, h2, ← State.projector, State.projector_setProjector]
  · rw [State.post_work]
    dsimp only
    rw [h5, State.setProjector_work, hwork]

/-- The incoming of a forced swap is still STARTING: it refuses the Open order, and the swap fails at E (R75). -/
theorem EndPulse.closes_unswapped (h : EndPulse s p r) (hshow : (s.showRec p.screen).state ≠ .held)
    (hs : (s.screen p.screen).state = .rolling) (hf : (s.screen p.screen).swapFailed = false)
    (hq : (s.projector p.other).runState = .starting) (interval : Nat) :
    Leads (.sprocketPulse p interval) s fun t => s.ClosedAt p t ∧ (t.projector p.other).haltCause = some .douser := by
  obtain ⟨k, hexec⟩ := h.exec (by simp [hs]) interval
  rw [State.onPictureEnd_rolling (by exact h.side) (by exact hs) (by exact hf), State.swapStart_late] at hexec
  have hrefused : (s.atEnd p interval k).openOrder p.other = (s.atEnd p interval k, false) := if_neg (by simp [hq])
  obtain ⟨hscreen, hp, ht, hshows, -⟩ := State.forced_fields (s := s.atEnd p interval k) (n := p.screen) (x := p.other)
    (y := p) (by rw [hrefused]; exact h.showing)
  have hcalm := (s.atEnd p interval k).forced_calm p.screen p.other p
  rw [hrefused] at hexec hp
  dsimp only at hexec hp
  rw [if_neg Bool.false_ne_true] at hexec
  generalize (s.atEnd p interval k).forced p.screen p.other p = v at *
  have hpp := hp p
  have hpo := hp p.other
  rw [if_pos rfl] at hpp
  rw [if_neg (ProjNo.other_ne p)] at hpo
  have hrec : v.loadedRecord p = some r := by
    rw [State.loadedRecord_congr (s := s.atEnd p interval k) (by rw [hpp]) (State.bankView_of_calm hcalm)]
    exact h.record
  have hcount : (v.tracker p).counter = r.pictureEnd := by
    rw [State.tracker, ht]
    exact h.counted k
  have hfail : v.swapFail p.screen p.other p = ((v.closeOrder p).haltCore p.other .douser).interrupt p.screen :=
    if_pos (by rw [State.atPictureEnd, hrec]; exact decide_eq_true (Nat.le_of_eq hcount.symm))
  obtain ⟨hcp, hct, hcscreens, hcshows, -, hcrec⟩ :=
    State.closeOrder_atEnd (s := v) (by rw [hpp]; exact h.showing) hrec hcount
  have hcq := hcp p.other
  rw [if_neg (ProjNo.other_ne p), hpo] at hcq
  have hmotor : ((v.closeOrder p).projector p.other).runState.motor = true := by
    rw [hcq, State.atEnd_projector, hq]
    rfl
  obtain ⟨hwp, hwt, -, hwscreens, hwshows, -⟩ := State.haltCore_fields (c := .douser) hmotor (by simp)
  have hwrec := State.loadedRecord_congr (p := p) (s := v.closeOrder p) (t := (v.closeOrder p).haltCore p.other .douser)
    (by rw [hwp, if_neg (ProjNo.other_ne p).symm]) (State.bankView_of_calm (State.haltCore_calm _ _ _))
  rw [hfail] at hexec
  generalize (v.closeOrder p).haltCore p.other .douser = w at *
  have hwpp := hwp p
  have hwpo := hwp p.other
  rw [if_neg (ProjNo.other_ne p).symm, hcp, if_pos rfl] at hwpp
  rw [if_pos rfl, hcq] at hwpo
  have hwscreen : w.screen p.screen = { Screen.swapTo p.other p (s.screen p.screen) with state := .swapping } := by
    rw [State.screen, hwscreens, hcscreens, ← State.screen, hscreen, State.atEnd_screen]
  have hclosing : Closing s p r w := by
    refine ⟨by rw [hwpp], by rw [hwpp], by rw [hwrec, hcrec], ?_, ⟨by rw [hwpp, hpp]; rfl, by rw [hwpo]; rfl⟩,
      ⟨by rw [hwscreen]; simp, by rw [hwscreen]; rfl⟩, fun _ => .inl (by rw [hwpo]), ?_⟩
    · rw [hwt, if_neg (ProjNo.other_ne p).symm, State.tracker, hct, ← State.tracker, hcount]
    · rw [State.showRec, hwshows, hcshows, hshows]
      rfl
  rw [hclosing.interrupted.2] at hexec
  refine ⟨_, hexec, hclosing.closes hshow, ?_⟩
  have hhalted : (w.projector p.other).runState = .halted := by rw [hwpo]
  obtain ⟨-, hprojs, -, -, -⟩ := State.interrupt_fields hclosing.screen.1
  obtain ⟨-, hkeep, -⟩ := w.stopIdle_fields p.screen
  have hq' : (w.interrupt p.screen).projector p.other = w.projector p.other := by
    rw [State.projector, hprojs]
    exact (hkeep p.other (by simp [State.stoppable, hhalted])).1
  rw [((w.interrupt p.screen).settle_projector p.other (by rw [hq', hhalted]; simp)).1, hq', hwpo]

/-- The incoming of a forced swap is at speed and its port is UP: the swap begins, late (R71, R72). -/
theorem EndPulse.swaps (h : EndPulse s p r) (hs : (s.screen p.screen).state = .rolling)
    (hf : (s.screen p.screen).swapFailed = false) (hq : s.atSpeed p.other = true) (hpermit : s.permit p.other = true)
    (interval : Nat) : Leads (.sprocketPulse p interval) s fun t =>
      t.screen p.screen = { Screen.swapTo p.other p (s.screen p.screen) with state := .swapping } ∧
      t.projector p.other = { s.projector p.other with douser := .opened } ∧
      t.projector p = { s.projector p with douser := .closed } ∧ s.Heard t (.late p.screen) := by
  obtain ⟨k, hexec⟩ := h.exec (by simp [hs]) interval
  rw [State.onPictureEnd_rolling (by exact h.side) (by exact hs) (by exact hf), State.swapStart_late] at hexec
  have hrun : (s.projector p.other).runState = .running := by
    simp only [State.atSpeed, Bool.and_eq_true, decide_eq_true_eq] at hq
    exact hq.1
  have htaken : (s.atEnd p interval k).openOrder p.other =
      ((s.atEnd p interval k).setProjector p.other { s.projector p.other with douser := .opened }, true) :=
    if_pos (by simp [hrun, hpermit])
  have hopened : ∀ z, ((s.atEnd p interval k).setProjector p.other { s.projector p.other with douser :=
      .opened }).projector z =
      if z = p.other then { s.projector p.other with douser := .opened } else s.projector z :=
    fun z => ByProj.get_set _ _ _ _
  have hself := hopened p
  rw [if_neg (ProjNo.other_ne p).symm] at hself
  obtain ⟨hscreen, hp, -, -, hposts⟩ := State.forced_fields (s := s.atEnd p interval k) (n := p.screen) (x := p.other)
    (y := p) (by rw [htaken, hself]; exact h.showing)
  have hcalm := (s.atEnd p interval k).forced_calm p.screen p.other p
  rw [htaken] at hexec hp
  dsimp only at hexec hp
  rw [if_pos rfl] at hexec
  generalize (s.atEnd p interval k).forced p.screen p.other p = w at *
  have hpp := hp p
  have hpo := hp p.other
  rw [if_pos rfl, hself] at hpp
  rw [if_neg (ProjNo.other_ne p), hopened, if_pos rfl] at hpo
  rw [State.limitCheck_atEnd fun hout => by rw [hpp, h.showing] at hout; cases hout] at hexec
  have hstays := State.settle_stays (s := w) (n := p.screen) (by rw [hscreen]; simp) (by rw [hscreen]; simp)
    fun _ => by rw [hscreen]; simp
  refine ⟨_, hexec, hstays.screen.trans hscreen, ?_, ?_, ?_⟩
  · rw [(w.settle_projector p.other (by rw [hpo, hrun]; simp)).1, hpo]
  · rw [(w.settle_projector p (by rw [hpp, h.showing]; simp)).1, hpp]
  · have hchanges : w.changes = [(.sequencer p.screen, .late p.screen)] := by
      rw [h.posts] at hposts
      rw [State.changes, hposts]
      rfl
    exact State.settle_heard (congrArg Calm.attention hcalm) hchanges

end Sys2Proof.Machine
end

section
/-! The pulse that ends a show (R78, R15): the screen goes DARK, the scheduler arms the next start, and the bank store
rotates, leaves its rotation pending, or does neither. With it the clauses of a counted pulse are put together. -/

namespace Sys2Proof.Machine

variable {s t u w : State} {p : ProjNo} {n : ScreenNo} {r : Reel}

/-! ## The show of a screen between shows -/

/-- A show that is WAITING or CALLED. -/
def State.between (s : State) (n : ScreenNo) : Prop := (s.showRec n).state = .waiting ∨ (s.showRec n).state = .called

theorem State.between_congr (h : t.shows = s.shows) : t.between n ↔ s.between n := by
  rw [State.between, State.between, State.showRec, h, State.showRec]

/-- An arming leaves a show WAITING or CALLED (R149, R150). -/
theorem State.armNext_between (h : s.between n) : (s.armNext n).between n := by
  have hset : ∀ (t : State) (x : ShowState), ((t.setShowState n x).showRec n).state = x := fun t x => by
    rw [State.setShowState, State.showRec_tellDuty, State.showRec_setShow, if_pos rfl]
  have hcall : ∀ (t : State) (k : Nat), (t.callScreen n k).between n := fun t k => .inr <| by
    rw [State.callScreen, State.showRec_post, (Stays.storeReadiness _ n).show_, hset]
  have huncall : ∀ t : State, t.between n → (t.uncall n).between n := by
    intro t ht
    unfold State.uncall
    split
    · exact .inl (hset _ _)
    · exact ht
  have hnext : (s.setShow n { s.showRec n with next := s.chosenStart n }).between n := by
    rw [State.between, State.showRec_setShow, if_pos rfl]
    exact h
  have hb : ((s.showRec n).state = .waiting || (s.showRec n).state = .called) = true := by
    rcases h with h | h <;> simp [h]
  unfold State.armNext
  rw [if_pos hb]
  dsimp only
  split
  · split
    · exact hcall _ _
    · exact huncall _ hnext
  · exact huncall _ hnext

theorem State.armNext_playing (h : (s.showRec n).state = .playing) : s.armNext n = s := if_neg (by simp [h])

theorem State.schedulerShowEnd_between (h : (s.showRec n).state = .playing) : (s.schedulerShowEnd n).between n := by
  have hset : (s.setShowState n .waiting).between n := .inl <| by
    rw [State.setShowState, State.showRec_tellDuty, State.showRec_setShow, if_pos rfl]
  unfold State.schedulerShowEnd
  rw [if_pos h]
  exact State.armNext_between hset

/-- The rotation notice at the scheduler leaves the screens, and arms a show that is not PLAYING (R157). -/
theorem State.schedulerRotation_show (w : State) (n : ScreenNo) : (w.schedulerRotation n).screens = w.screens ∧
    (w.between n → (w.schedulerRotation n).between n) ∧
    ((w.showRec n).state = .playing → ((w.schedulerRotation n).showRec n).state = .playing) := by
  have ho := w.schedulerRotation_outsideShows n
  simp only [State.outsideShows, State.mk.injEq] at ho
  refine ⟨by simp only [ho], fun h => State.armNext_between h, fun h => ?_⟩
  rw [State.schedulerRotation, State.armNext_playing h]
  exact h

theorem State.rotateProjector_show (s : State) (q : ProjNo) : (s.rotateProjector q).screens = s.screens ∧
    (s.rotateProjector q).shows = s.shows := by
  have h := State.screens_of_outsideArcs (s.endShowing_outsideArcs q)
  unfold State.rotateProjector
  dsimp only
  split <;> exact h

/-- A rotation leaves the screens, and arms a show that is not PLAYING (R13, R157). -/
theorem State.rotation_show (s : State) (n : ScreenNo) : (s.rotation n).screens = s.screens ∧
    (s.between n → (s.rotation n).between n) ∧
    ((s.showRec n).state = .playing → ((s.rotation n).showRec n).state = .playing) := by
  have hbanks : (s.rotateBanks n).screens = s.screens ∧ (s.rotateBanks n).shows = s.shows := ⟨rfl, rfl⟩
  have ha := (s.rotateBanks n).rotateProjector_show ⟨n, .a⟩
  have hb := ((s.rotateBanks n).rotateProjector ⟨n, .a⟩).rotateProjector_show ⟨n, .b⟩
  rw [ha.1, ha.2, hbanks.1, hbanks.2] at hb
  have hlast : ∀ (t : State) (d : DutyNotice) (b : Block) (c : AttnCause), ((t.tellDuty d).post b c).screens = t.screens ∧
      ((t.tellDuty d).post b c).shows = t.shows := fun _ _ _ _ => ⟨rfl, rfl⟩
  unfold State.rotation
  dsimp only
  generalize ((s.rotateBanks n).rotateProjector ⟨n, .a⟩).rotateProjector ⟨n, .b⟩ = w at hb
  obtain ⟨h1, h2, h3⟩ := w.schedulerRotation_show n
  obtain ⟨hl1, hl2⟩ := hlast (w.schedulerRotation n) (.screen n) .bankStore (.rotated n)
  refine ⟨by rw [hl1, h1, hb.1], fun h => (State.between_congr hl2).mpr (h2 ((State.between_congr hb.2).mpr h)), fun h =>
      ?_⟩
  rw [State.showRec, hl2]
  exact h3 (by rw [State.showRec, hb.2]; exact h)

/-! ## The notices of a show end -/

/-- From `s` to `t` the shows, the house, the free choices and what has been sent may have changed, and no bank, projector
or screen has. -/
structure ShowsOnly (s t : State) : Prop where
  banks : t.bankView = s.bankView
  projectors : t.projectors = s.projectors
  trackers : t.trackers = s.trackers
  marks : t.retained.runMarks = s.retained.runMarks
  screens : t.screens = s.screens

theorem ShowsOnly.refl (s : State) : ShowsOnly s s := ⟨rfl, rfl, rfl, rfl, rfl⟩

theorem ShowsOnly.trans (h : ShowsOnly s t) (k : ShowsOnly t u) : ShowsOnly s u :=
  ⟨k.banks.trans h.banks, k.projectors.trans h.projectors, k.trackers.trans h.trackers, k.marks.trans h.marks,
    k.screens.trans h.screens⟩

theorem ShowsOnly.schedulerShowEnd (s : State) (n : ScreenNo) : ShowsOnly s (s.schedulerShowEnd n) := by
  have h := s.schedulerShowEnd_outsideShows n
  simp only [State.outsideShows, State.mk.injEq] at h
  constructor <;> simp only [State.bankView, h]

theorem State.houseShowEnd_house (s : State) (n : ScreenNo) : ∃ h, s.houseShowEnd n = { s with house := h } :=
  ⟨_, State.outsideHouse_congr (s.fireWhere_outsideHouse n _)⟩

theorem ShowsOnly.houseShowEnd (s : State) (n : ScreenNo) : ShowsOnly s (s.houseShowEnd n) := by
  obtain ⟨h, hh⟩ := s.houseShowEnd_house n
  rw [hh]
  exact ⟨rfl, rfl, rfl, rfl, rfl⟩

theorem State.houseShowEnd_shows (s : State) (n : ScreenNo) : (s.houseShowEnd n).shows = s.shows := by
  obtain ⟨h, hh⟩ := s.houseShowEnd_house n
  rw [hh]

theorem ShowsOnly.projector (h : ShowsOnly s t) (q : ProjNo) : t.projector q = s.projector q := by
  rw [State.projector, h.projectors, State.projector]

theorem ShowsOnly.rotatesNow (h : ShowsOnly s t) (n : ScreenNo) : t.rotatesNow n = s.rotatesNow n := by
  simp only [State.rotatesNow, State.bankIn_congr h.banks]

/-- A rotation is one of every state with the same banks. -/
theorem Rotated.of_banks (h : Rotated t u n) (hv : t.bankView = s.bankView) : Rotated s u n := by
  have hb := fun r => State.bankIn_congr hv n r
  refine ⟨by rw [h.current, hb], by rw [h.next, hb], by rw [h.spare, hb], fun m b hm => ?_, ?_, ?_, h.emptied⟩
  · rw [h.others m b hm, State.bank_congr hv]
  · rw [h.unit]
    simp only [State.rotateBanks, State.bankUnit_congr hv, State.bankNo_congr hv]
  · rw [h.pending]
    exact congrArg (ByScreen.set · n false) (congrArg BankView.rotationPending hv)

/-- What changes no bank and no projector keeps a rotation. -/
theorem Rotated.shows (h : Rotated s t n) (k : ShowsOnly t u) : Rotated s u n := by
  have hb := fun r => State.bankIn_congr k.banks n r
  refine ⟨by rw [hb, h.current], by rw [hb, h.next], by rw [hb, h.spare], fun m b hm => ?_, ?_, ?_, fun d => ?_⟩
  · rw [State.bank_congr k.banks, h.others m b hm]
  · rw [State.bankUnit_congr k.banks, h.unit]
  · exact (congrArg BankView.rotationPending k.banks).trans h.pending
  · rw [k.projector, State.openingReel_congr k.banks, State.tracker, k.trackers, State.runMarks, k.marks]
    exact h.emptied d

/-- A state in which the show end of a screen has rotated its banks (R15). -/
structure EndRotated (s u : State) (n : ScreenNo) : Prop where
  screens : u.screens = s.screens
  emptied : ∀ d, (u.projector ⟨n, d⟩).runState = .empty
  rotated : s.RolesApart n → Rotated s u n

theorem EndRotated.rotation (h : ShowsOnly s t) (n : ScreenNo) : EndRotated s (t.rotation n) n := by
  refine ⟨(t.rotation_show n).1.trans h.screens, fun d => ?_, fun ha => ?_⟩
  · rw [(t.rotation_runs n d).1]
    rfl
  · have ht : t.RolesApart n := ha.of_roles fun b => by rw [State.bank_congr h.banks]
    exact (State.rotation_rotated ht).of_banks h.banks

theorem EndRotated.shows (h : EndRotated s t n) (k : ShowsOnly t u) : EndRotated s u n :=
  ⟨k.screens.trans h.screens, fun d => by rw [k.projector]; exact h.emptied d, fun ha => (h.rotated ha).shows k⟩

theorem State.bankShowEnd_rotates (hr : s.rotatesNow n = true) (h : ShowsOnly s t) : t.bankShowEnd n = t.rotation n :=
  if_pos (by rw [h.rotatesNow, hr])

/-- The bank store takes the show end after the scheduler. -/
theorem EndRotated.late (hr : s.rotatesNow n = true) (h : ShowsOnly s t) (hb : t.between n) :
    EndRotated s (t.bankShowEnd n) n ∧ (t.bankShowEnd n).between n := by
  rw [State.bankShowEnd_rotates hr h]
  exact ⟨.rotation h n, (t.rotation_show n).2.1 hb⟩

/-- The bank store takes the show end before the scheduler. -/
theorem EndRotated.early (hr : s.rotatesNow n = true) (h : ShowsOnly s t) (hp : (t.showRec n).state = .playing) :
    EndRotated s ((t.bankShowEnd n).schedulerShowEnd n) n ∧ ((t.bankShowEnd n).schedulerShowEnd n).between n := by
  rw [State.bankShowEnd_rotates hr h]
  exact ⟨(EndRotated.rotation h n).shows (.schedulerShowEnd _ n),
    State.schedulerShowEnd_between ((t.rotation_show n).2.2 hp)⟩

/-- The house unit takes the show end last. -/
theorem EndRotated.house (h : EndRotated s t n ∧ t.between n) :
    EndRotated s (t.houseShowEnd n) n ∧ (t.houseShowEnd n).between n :=
  ⟨h.1.shows (.houseShowEnd t n), (State.between_congr (t.houseShowEnd_shows n)).mpr h.2⟩

/-- A show end that rotates at once, in each order in which the scheduler, the house unit and the bank store may take it
(R15, R78, R134). -/
theorem State.showEndNotices_rotating (hr : s.rotatesNow n = true) (hplay : (s.showRec n).state = .playing) :
    EndRotated s (s.showEndNotices n) n ∧ (s.showEndNotices n).between n := by
  have htell : ∀ t : State, EndRotated s t n ∧ t.between n →
      EndRotated s (t.tellDuty (.screen n)) n ∧ (t.tellDuty (.screen n)).between n :=
    fun t h => ⟨h.1.shows ⟨rfl, rfl, rfl, rfl, rfl⟩, h.2⟩
  have hbits : ShowsOnly s s.takeBit.2.takeBit.2 := ⟨rfl, rfl, rfl, rfl, rfl⟩
  have hplays : (s.takeBit.2.takeBit.2.showRec n).state = .playing := hplay
  unfold State.showEndNotices
  rw [if_pos hr]
  dsimp only
  generalize s.takeBit.2.takeBit.2 = t at hbits hplays
  have hsched := hbits.trans (.schedulerShowEnd t n)
  have hbetween := State.schedulerShowEnd_between hplays
  refine htell _ ?_
  cases s.takeBit.1 <;> cases s.takeBit.2.takeBit.1
  · exact EndRotated.house (EndRotated.early hr hbits hplays)
  · exact EndRotated.early hr (hbits.trans (.houseShowEnd t n))
      ((congrArg (fun v => (ByScreen.get v n).state) (t.houseShowEnd_shows n)).trans hplays)
  · exact EndRotated.house (EndRotated.late hr hsched hbetween)
  · exact EndRotated.late hr (hsched.trans (.houseShowEnd _ n)) ((State.between_congr (State.houseShowEnd_shows _ n)).mpr
      hbetween)

/-- A show end that does not rotate at once leaves a rotation pending where NEXT is COMPLETE (R15). -/
theorem State.showEndNotices_still (hr : s.rotatesNow n = false) (hplay : (s.showRec n).state = .playing) :
    (s.showEndNotices n).projectors = s.projectors ∧ (s.showEndNotices n).screens = s.screens ∧
    (s.showEndNotices n).between n ∧ (∀ q, (s.showEndNotices n).loadedRecord q = s.loadedRecord q) ∧
    ((s.bankIn n .next).state = .complete → (s.showEndNotices n).bankView =
      { s.bankView with rotationPending := s.retained.rotationPending.set n true }) ∧
    ((s.bankIn n .next).state ≠ .complete → (s.showEndNotices n).bankView = s.bankView) := by
  have hk : ShowsOnly s ((s.schedulerShowEnd n).houseShowEnd n) :=
    (ShowsOnly.schedulerShowEnd s n).trans (.houseShowEnd _ n)
  have hb : ((s.schedulerShowEnd n).houseShowEnd n).between n :=
    (State.between_congr (State.houseShowEnd_shows _ n)).mpr (State.schedulerShowEnd_between hplay)
  have hpending : ∀ t : State, (t.setRotationPending n true).bankView =
      { t.bankView with rotationPending := t.retained.rotationPending.set n true } := fun _ => rfl
  have htell : ∀ t : State, (t.tellDuty (.screen n)).bankView = t.bankView := fun _ => rfl
  have hloaded : ∀ (t : State) (q : ProjNo), ((t.setRotationPending n true).tellDuty (.screen n)).loadedRecord q =
      t.loadedRecord q ∧ (t.tellDuty (.screen n)).loadedRecord q = t.loadedRecord q := fun _ _ => ⟨rfl, rfl⟩
  unfold State.showEndNotices
  rw [if_neg (by simp [hr])]
  generalize (s.schedulerShowEnd n).houseShowEnd n = t at hk hb
  have hnext : (t.bankIn n .next).state = (s.bankIn n .next).state := by rw [State.bankIn_congr hk.banks]
  have hrecord : ∀ q, t.loadedRecord q = s.loadedRecord q := fun q =>
    State.loadedRecord_congr (by rw [hk.projector]) hk.banks
  unfold State.bankShowEnd
  rw [if_neg (by simp [hk.rotatesNow, hr]), hnext]
  split
  next hc =>
    refine ⟨hk.projectors, hk.screens, hb, fun q => (hloaded t q).1.trans (hrecord q), fun _ => ?_, fun hn => absurd hc hn⟩
    rw [htell, hpending, hk.banks]
    exact congrArg (fun v => { s.bankView with rotationPending := ByScreen.set v n true })
      (congrArg BankView.rotationPending hk.banks)
  next hn =>
    exact ⟨hk.projectors, hk.screens, hb, fun q => (hloaded t q).2.trans (hrecord q), fun hc => absurd hc hn,
      fun _ => (htell t).trans hk.banks⟩

/-! ## The end of a show -/

/-- The state in which the show-end notices of a screen are sent (R78). -/
def State.showOver (s : State) (p : ProjNo) : State :=
  (((s.closeOrder p).modScreen p.screen Screen.darkened).clearLate p.screen).setScreenState p.screen .dark

theorem State.closeShow_eq (s : State) (p : ProjNo) : s.closeShow p.screen p = (s.showOver p).showEndNotices p.screen := rfl

theorem State.showOver_calm (s : State) (p : ProjNo) : (s.showOver p).calm = s.calm := by simp [State.showOver]

theorem State.showOver_fields (h : (s.projector p).runState = .showing) (hr : s.loadedRecord p = some r)
    (hc : (s.tracker p).counter = r.pictureEnd) :
    (s.showOver p).screen p.screen = { (s.screen p.screen).darkened with lateMotor := false, state := .dark } ∧
    ((s.showOver p).projector p).runState = .runout ∧ (s.showOver p).loadedRecord p = some r ∧
    (s.showOver p).shows = s.shows := by
  obtain ⟨hp, -, hscreens, hshows, -, hrec⟩ := State.closeOrder_atEnd h hr hc
  have hmod : ∀ u : State, ((u.modScreen p.screen Screen.darkened).clearLate p.screen).screen p.screen =
      { (u.screen p.screen).darkened with lateMotor := false } := fun u => by
    simp [State.clearLate, State.modScreen, State.screen]
  obtain ⟨h1, h2, -, h4, -⟩ := State.setScreenState_fields
    (((s.closeOrder p).modScreen p.screen Screen.darkened).clearLate p.screen) p.screen .dark
  have hproj : (s.showOver p).projector p = (s.closeOrder p).projector p := congrArg (ByProj.get · p) h2
  refine ⟨?_, by rw [hproj, hp, if_pos rfl], ?_, h4.trans hshows⟩
  · refine h1.trans ?_
    rw [hmod, State.screen, hscreens, State.screen]
  · rw [State.loadedRecord_congr (s := s.closeOrder p) (by rw [hproj])
      (State.bankView_of_calm ((s.showOver_calm p).trans (s.closeOrder_calm p).symm)), hrec]

/-- The end of a show (R78): a FINAL screen goes DARK, its show stands between shows, and the banks are as R15 has it. -/
theorem EndPulse.ends (h : EndPulse s p r) (hs : (s.screen p.screen).state = .final)
    (hplay : (s.showRec p.screen).state = .playing) (interval : Nat) :
    Leads (.sprocketPulse p interval) s fun t =>
      t.screen p.screen = { (s.screen p.screen).darkened with lateMotor := false, state := .dark } ∧ t.between p.screen ∧
      (s.rotatesNow p.screen = true → s.RolesApart p.screen → Rotated s t p.screen) ∧
      (s.rotatesNow p.screen = false → (t.projector p).runState = .runout ∧
        ((s.bankIn p.screen .next).state = .complete → t.bankView =
          { s.bankView with rotationPending := s.retained.rotationPending.set p.screen true }) ∧
        ((s.bankIn p.screen .next).state ≠ .complete → t.bankView = s.bankView)) := by
  obtain ⟨k, hexec⟩ := h.exec (by simp [hs]) interval
  rw [State.onPictureEnd_final (by exact h.side) (by exact hs), State.closeShow_eq] at hexec
  obtain ⟨hscreen, hrun, hrec, hshows⟩ :=
    State.showOver_fields (s := s.atEnd p interval k) h.showing h.record (h.counted k)
  have hbanks : ((s.atEnd p interval k).showOver p).bankView = s.bankView :=
    State.bankView_of_calm (State.showOver_calm _ p)
  generalize (s.atEnd p interval k).showOver p = v at *
  have hvplay : (v.showRec p.screen).state = .playing := by rw [State.showRec, hshows]; exact hplay
  have hrot : v.rotatesNow p.screen = s.rotatesNow p.screen := by simp only [State.rotatesNow, State.bankIn_congr hbanks]
  have hdark : ∀ u : State, u.screens = v.screens → u.between p.screen → Stays p.screen u u.settle ∧
      u.settle.screen p.screen = { (s.screen p.screen).darkened with lateMotor := false, state := .dark } ∧
      u.settle.between p.screen := by
    intro u hu hb
    have hus : u.screen p.screen = _ := (congrArg (ByScreen.get · p.screen) hu).trans hscreen
    have hstays := State.settle_stays (s := u) (n := p.screen) (by rw [hus]; simp) (by rw [hus]; simp)
      fun hh => by rcases hb with hb | hb <;> rw [hb] at hh <;> cases hh
    refine ⟨hstays, hstays.screen.trans hus, ?_⟩
    rw [State.between, hstays.show_]
    exact hb
  cases hnow : s.rotatesNow p.screen with
  | true =>
    obtain ⟨hend, hb⟩ := State.showEndNotices_rotating (hrot.trans hnow) hvplay
    rw [State.limitCheck_atEnd fun hout => by rw [hend.emptied p.side] at hout; cases hout] at hexec
    obtain ⟨-, hs1, hs2⟩ := hdark _ hend.screens hb
    have hapart : s.RolesApart p.screen → v.RolesApart p.screen := fun ha =>
      ha.of_roles fun b => by rw [State.bank_congr hbanks]
    exact ⟨_, hexec, hs1, hs2, fun _ ha => ((hend.rotated (hapart ha)).of_banks hbanks).settle, nofun⟩
  | false =>
    obtain ⟨hprojs, hscreens, hb, hloaded, hpending, hnone⟩ := State.showEndNotices_still (hrot.trans hnow) hvplay
    have hpr : (v.showEndNotices p.screen).projector p = v.projector p := congrArg (ByProj.get · p) hprojs
    rw [State.limitCheck_atEnd fun _ => (hloaded p).trans hrec] at hexec
    obtain ⟨-, hs1, hs2⟩ := hdark _ hscreens hb
    have hnext : (v.bankIn p.screen .next).state = (s.bankIn p.screen .next).state := by rw [State.bankIn_congr hbanks]
    have hpend : v.retained.rotationPending = s.retained.rotationPending := congrArg BankView.rotationPending hbanks
    rw [hnext, hbanks, hpend] at hpending
    rw [hnext, hbanks] at hnone
    refine ⟨_, hexec, hs1, hs2, nofun, fun _ => ⟨?_, fun hc => ?_, fun hc => ?_⟩⟩
    · rw [(State.settle_projector _ p (by rw [hpr, hrun]; simp)).1, hpr, hrun]
    · rw [State.settle_bankView, hpending hc]
    · rw [State.settle_bankView, hnone hc]

/-- Settles O26: the clauses of a counted pulse, the picture end by the state of its screen, and the speed judge. -/
theorem pulsesAreCountedAndTimed : Obligations.PulsesAreCountedAndTimed := by
  refine ⟨fun s p interval h => ⟨fun hm hlim hf => sprocketPulse_counts h hm hlim hf,
    fun hm ht hslow hlo hhi hn hs hr => sprocketPulse_reaches_speed h hm ht hslow hlo hhi hn hs hr,
    fun hm => sprocketPulse_still h hm interval, ?_⟩, fun t x => ⟨t.judge_slow_out x, t.judge_slow_in x, t.judge_reaches x,
    t.judge_fast_in x, t.judge_fast_out x, t.judge_leaves x⟩⟩
  rintro _ _ r rfl rfl hp hside hr hc hmax hcues
  have hpulse : EndPulse s p r := ⟨h, hp, hside, hr, hc, hmax, hcues⟩
  refine ⟨fun hshow => ⟨fun ho hs => hpulse.closes hshow ho hs interval,
    fun hs hf hq => hpulse.closes_unswapped hshow hs hf hq interval⟩,
    fun hs hf hq hpermit => hpulse.swaps hs hf hq hpermit interval, fun hs hplay => ?_⟩
  obtain ⟨t, hexec, hscreen, hbetween, hrotated, hstill⟩ := hpulse.ends hs hplay interval
  refine ⟨t, hexec, hscreen, hbetween, fun hn hc hroles => ?_, fun hn hc => ?_, fun hn => ?_⟩
  · have hrot := hrotated (by simp [State.rotatesNow, hn, hc]) hroles
    refine ⟨hrot.current, hrot.next, hrot.spare, by rw [hrot.unit]; rfl, hrot.pending, fun d => ?_⟩
    obtain ⟨hempty, -, -, hcount, -⟩ := hrot.emptied d
    exact ⟨hempty, hcount⟩
  · obtain ⟨hrun, hpending, -⟩ := hstill (by simp [State.rotatesNow, hc])
    exact ⟨hpending hn, hrun⟩
  · obtain ⟨hrun, -, hnone⟩ := hstill (by simp [State.rotatesNow, hn])
    exact ⟨hnone hn, hrun⟩

end Sys2Proof.Machine
end

section
/-! What the orders of the sequencer and the notices that go with them may do to a projector with its tracker and its run
marks (R26, R28, R30, R31, R34): five things, each from its own run states. An EMPTY or HALTED projector takes none of
them, and none leads into SHOWING. -/

namespace Sys2Proof.Machine

variable {s t u : State} {p q : ProjNo} {n m : ScreenNo}

/-! ## The part that ProjectorsSound reads -/

/-- The projectors, their trackers and run marks, the states of their ports, and the main power. -/
structure RunPart where
  projectors : ByProj Projector
  trackers : ByProj Tracker
  marks : ByProj RunMarks
  ports : ByProj ShutterState
  powered : Bool

def State.runPart (s : State) : RunPart :=
  ⟨s.projectors, s.trackers, s.retained.runMarks, .ofFn fun p => (s.shutter (.port p)).state, s.powered⟩

theorem State.runPart_of_outsideHouse (h : t.outsideHouse = s.outsideHouse) : t.runPart = s.runPart := by
  change t.outsideHouse.runPart = s.outsideHouse.runPart
  rw [h]

theorem State.runPart_of_outsideShows (h : t.outsideShows = s.outsideShows) : t.runPart = s.runPart := by
  change t.outsideShows.runPart = s.outsideShows.runPart
  rw [h]

theorem State.runPart_of_outsideArcs (h : t.outsideArcs = s.outsideArcs) : t.runPart = s.runPart := by
  change t.outsideArcs.runPart = s.outsideArcs.runPart
  rw [h]

section Frames

variable (s)

@[simp] theorem State.post_runPart (b : Block) (a : AttnCause) : (s.post b a).runPart = s.runPart := rfl

@[simp] theorem State.tellDuty_runPart (d : DutyNotice) : (s.tellDuty d).runPart = s.runPart := rfl

@[simp] theorem State.noteRunState_runPart (m : ScreenNo) : (s.noteRunState m).runPart = s.runPart := rfl

@[simp] theorem State.noteArmIfStandby_runPart (q : ProjNo) : (s.noteArmIfStandby q).runPart = s.runPart := by
  unfold State.noteArmIfStandby
  split <;> rfl

@[simp] theorem State.setScreenState_runPart (m : ScreenNo) (x : ScreenState) :
    (s.setScreenState m x).runPart = s.runPart := by
  unfold State.setScreenState
  dsimp only
  split <;> [skip; split] <;> rfl

@[simp] theorem State.fireWhere_runPart (m : ScreenNo) (f : Cue → Bool) : (s.fireWhere m f).runPart = s.runPart :=
  State.runPart_of_outsideHouse (s.fireWhere_outsideHouse m f)

@[simp] theorem State.endShowing_runPart (q : ProjNo) : (s.endShowing q).runPart = s.runPart :=
  State.runPart_of_outsideArcs (s.endShowing_outsideArcs q)

@[simp] theorem State.arcShowingEnded_runPart (q : ProjNo) : (s.arcShowingEnded q).runPart = s.runPart :=
  State.runPart_of_outsideArcs (s.arcShowingEnded_outsideArcs q)

theorem standingChannel_runPart (k : StandingKey) (e : StandingEntry) (a : State × Bool) (c : ChannelNo) :
    (standingChannel k e a c).1.runPart = a.1.runPart ∧ (standingChannel k e a c).1.work = a.1.work := by
  unfold standingChannel
  split
  · exact ⟨rfl, rfl⟩
  · split <;> exact ⟨rfl, rfl⟩

/-- A standing action changes the house, and posts no more than its own cause. -/
theorem State.applyStanding_keeps (k : StandingKey) (e : StandingEntry) :
    (s.applyStanding k e).1.runPart = s.runPart ∧ (s.applyStanding k e).1.work = s.work :=
  ⟨foldl_keeps (fun a : State × Bool => a.1.runPart) _ (fun a c => (standingChannel_runPart k e a c).1) _ (s, false),
    foldl_keeps (fun a : State × Bool => a.1.work) _ (fun a c => (standingChannel_runPart k e a c).2) _ (s, false)⟩

@[simp] theorem State.fireStanding_runPart (k : StandingKey) : (s.fireStanding k).runPart = s.runPart := by
  unfold State.fireStanding
  split
  · rfl
  next e _ =>
    split
    · exact (s.applyStanding_keeps k e).1
    · rfl

theorem State.fireStanding_posts (k : StandingKey) : s.work.posts ⊆ (s.fireStanding k).work.posts := by
  unfold State.fireStanding
  split
  · exact List.Subset.refl _
  next e _ =>
    split
    · rw [State.post_work, (s.applyStanding_keeps k e).2]
      exact List.subset_append_left _ _
    · exact List.Subset.refl _

end Frames

/-! ## Runs and orders -/

/-- A projector with its tracker and its run marks. -/
structure Run where
  projector : Projector
  tracker : Tracker
  marks : RunMarks

def State.run (s : State) (p : ProjNo) : Run := ⟨s.projector p, s.tracker p, s.runMarks p⟩

@[simp] theorem State.run_projector (s : State) (p : ProjNo) : (s.run p).projector = s.projector p := rfl
@[simp] theorem State.run_tracker (s : State) (p : ProjNo) : (s.run p).tracker = s.tracker p := rfl
@[simp] theorem State.run_marks (s : State) (p : ProjNo) : (s.run p).marks = s.runMarks p := rfl

theorem State.run_congr (h : t.runPart = s.runPart) (p : ProjNo) : t.run p = s.run p := by
  simp only [State.runPart, RunPart.mk.injEq] at h
  simp only [State.run, State.projector, State.tracker, State.runMarks, h]

/-- What one order or notice does to a run. -/
inductive Run.Order : Run → Run → Prop
  /-- The Start order (R26). -/
  | start (x : Projector) (k : Tracker) (m : RunMarks) (h : x.runState = .threaded) :
      Run.Order ⟨x, k, m⟩ ⟨{ x with runState := .starting }, k.motorOn, m⟩
  /-- The Open and the Douse order (R28, R30). -/
  | douser (x : Projector) (k : Tracker) (m : RunMarks) (d : DouserCommand)
      (h : x.runState = .running ∨ x.runState = .showing) : Run.Order ⟨x, k, m⟩ ⟨{ x with douser := d }, k, m⟩
  /-- A halt (R31). -/
  | halt (x : Projector) (k : Tracker) (m : RunMarks) (c : HaltCause) (h : x.runState.motor = true) :
      Run.Order ⟨x, k, m⟩ ⟨{ x with runState := .halted, haltCause := some c, douser := .closed }, k.motorOff, m⟩
  /-- The Close order, and the end of a showing at the other projector's (R29, R30). -/
  | runout (x : Projector) (k : Tracker) (m : RunMarks) (h : x.runState = .showing) :
      Run.Order ⟨x, k, m⟩ ⟨{ x with runState := .runout, douser := .closed }, k, m⟩
  /-- The end of a runout, or a film-out (R34). -/
  | empty (x : Projector) (k : Tracker) (m : RunMarks) (a : Option Nat) (h : x.runState.motor = true) :
      Run.Order ⟨x, k, m⟩ ⟨.emptied a, k.emptied, ⟨false, none, 0⟩⟩

/-- No order leads into SHOWING. -/
theorem Run.Order.showing {a b : Run} (h : Run.Order a b) (hb : b.projector.runState = .showing) :
    a.projector.runState = .showing := by
  cases h with
  | douser => exact hb
  | start | halt | runout | empty => cases hb

/-- An order finds its projector THREADED or in a motor state. -/
theorem Run.Order.taken {a b : Run} (h : Run.Order a b) :
    a.projector.runState = .threaded ∨ a.projector.runState.motor = true := by
  cases h with
  | start _ _ _ h => exact .inl h
  | douser _ _ _ _ h => exact .inr (by rcases h with h | h <;> rw [h] <;> rfl)
  | halt _ _ _ _ h => exact .inr h
  | runout _ _ _ h => exact .inr (by rw [h]; rfl)
  | empty _ _ _ _ h => exact .inr h

/-- From `s` to `t` the projectors have taken orders, causes may have been posted, and what `State.calm` gathers stands. -/
structure Obeys (s t : State) : Prop where
  calm : t.calm = s.calm
  runs : ∀ p, Relation.ReflTransGen Run.Order (s.run p) (t.run p)
  posts : s.work.posts ⊆ t.work.posts

theorem Obeys.refl (s : State) : Obeys s s := ⟨rfl, fun _ => .refl, List.Subset.refl _⟩

theorem Obeys.trans (h : Obeys s t) (k : Obeys t u) : Obeys s u :=
  ⟨k.calm.trans h.calm, fun p => (h.runs p).trans (k.runs p), List.Subset.trans h.posts k.posts⟩

/-- What gives no order. -/
theorem Obeys.same (h : Obeys s t) (hc : u.calm = t.calm) (hr : u.runPart = t.runPart)
    (hp : t.work.posts ⊆ u.work.posts := by exact List.Subset.refl _) : Obeys s u :=
  ⟨hc.trans h.calm, fun p => by rw [State.run_congr hr]; exact h.runs p, List.Subset.trans h.posts hp⟩

/-- What gives one order, to projector `q`. -/
theorem Obeys.order (h : Obeys s t) (q : ProjNo) (hc : u.calm = t.calm) (ho : Run.Order (t.run q) (u.run q))
    (hx : ∀ x, x ≠ q → u.run x = t.run x) (hp : t.work.posts ⊆ u.work.posts := by exact List.Subset.refl _) :
    Obeys s u := by
  refine ⟨hc.trans h.calm, fun x => ?_, List.Subset.trans h.posts hp⟩
  by_cases hq : x = q
  · subst hq
    exact (h.runs x).tail ho
  · rw [hx x hq]
    exact h.runs x

/-- An EMPTY or HALTED projector takes no order. -/
theorem Obeys.still (h : Obeys s t) (hp : (s.projector p).runState ≠ .threaded)
    (hm : (s.projector p).runState.motor = false) : t.run p = s.run p := by
  have hr := h.runs p
  generalize t.run p = b at hr
  induction hr with
  | refl => rfl
  | tail _ ho ih =>
    rw [ih] at ho
    rcases ho.taken with k | k
    · exact absurd k hp
    · rw [show (s.run p).projector = s.projector p from rfl, hm] at k
      cases k

/-- A projector that is SHOWING has been SHOWING before. -/
theorem Obeys.showing (h : Obeys s t) (hp : (t.projector p).runState = .showing) : (s.projector p).runState = .showing := by
  have hr := h.runs p
  have hb : (t.run p).projector.runState = .showing := hp
  generalize t.run p = b at hr hb
  induction hr with
  | refl => exact hb
  | tail _ ho ih => exact ih (ho.showing hb)

/-! ## Notices and screens -/

theorem Obeys.post (h : Obeys s t) (b : Block) (c : AttnCause) : Obeys s (t.post b c) :=
  h.same rfl rfl (List.subset_append_left _ _)

theorem Obeys.tellDuty (h : Obeys s t) (d : DutyNotice) : Obeys s (t.tellDuty d) := h.same rfl rfl

theorem Obeys.noteArm (h : Obeys s t) (m : ScreenNo) : Obeys s (t.noteArm m) := h.same rfl rfl

theorem Obeys.noteRetest (h : Obeys s t) (m : ScreenNo) : Obeys s (t.noteRetest m) := h.same rfl rfl

theorem Obeys.noteRunState (h : Obeys s t) (m : ScreenNo) : Obeys s (t.noteRunState m) := h.same rfl rfl

theorem Obeys.modScreen (h : Obeys s t) (m : ScreenNo) (f : Screen → Screen) : Obeys s (t.modScreen m f) :=
  h.same rfl rfl

theorem Obeys.clearLate (h : Obeys s t) (m : ScreenNo) : Obeys s (t.clearLate m) := h.same rfl rfl

theorem Obeys.setLate (h : Obeys s t) (m : ScreenNo) : Obeys s (t.setLate m) := h.same rfl rfl

theorem Obeys.setScreenState (h : Obeys s t) (m : ScreenNo) (x : ScreenState) : Obeys s (t.setScreenState m x) :=
  h.same (t.setScreenState_calm m x) (t.setScreenState_runPart m x)
    (by rw [State.setScreenState_posts]; exact List.Subset.refl _)

theorem Obeys.noteArmIfStandby (h : Obeys s t) (q : ProjNo) : Obeys s (t.noteArmIfStandby q) := by
  unfold State.noteArmIfStandby
  split
  · exact h.noteArm _
  · exact h

theorem Obeys.fireWhere (h : Obeys s t) (m : ScreenNo) (f : Cue → Bool) : Obeys s (t.fireWhere m f) := by
  refine h.same (t.fireWhere_calm m f) (t.fireWhere_runPart m f) ?_
  rw [State.outsideHouse_congr (t.fireWhere_outsideHouse m f)]
  exact List.Subset.refl _

/-! ## Orders -/

theorem Obeys.startOrder (h : Obeys s t) (q : ProjNo) : Obeys s (t.startOrder q).1 := by
  unfold State.startOrder
  split
  next hq =>
    refine h.order q (by simp) ?_ fun x hx => by simp [State.run, hx]
    have hr : ((t.setProjector q { t.projector q with runState := .starting }).setTracker q (t.tracker q).motorOn).run q =
        ⟨{ t.projector q with runState := .starting }, (t.tracker q).motorOn, t.runMarks q⟩ := by simp [State.run]
    rw [hr]
    exact .start _ _ _ hq
  · exact h

/-- A change of the douser command alone. -/
theorem Obeys.setDouser (h : Obeys s t) (q : ProjNo) (d : DouserCommand)
    (hq : (t.projector q).runState = .running ∨ (t.projector q).runState = .showing) :
    Obeys s (t.setProjector q { t.projector q with douser := d }) := by
  refine h.order q rfl ?_ fun x hx => by simp [State.run, hx]
  have hr : (t.setProjector q { t.projector q with douser := d }).run q =
      ⟨{ t.projector q with douser := d }, t.tracker q, t.runMarks q⟩ := by simp [State.run]
  rw [hr]
  exact .douser _ _ _ _ hq

theorem Obeys.openOrder (h : Obeys s t) (q : ProjNo) : Obeys s (t.openOrder q).1 := by
  unfold State.openOrder
  split
  next hq => exact h.setDouser q _ (by simpa using (Bool.and_eq_true_iff.mp hq).1)
  · exact h

theorem Obeys.douseOrder (h : Obeys s t) (q : ProjNo) : Obeys s (t.douseOrder q) := by
  unfold State.douseOrder
  split
  next hq => exact h.setDouser q _ (by simpa using hq)
  · exact h

/-- A halted run (R31). -/
def Run.halted (r : Run) (c : HaltCause) : Run :=
  ⟨{ r.projector with runState := .halted, haltCause := some c, douser := .closed }, r.tracker.motorOff, r.marks⟩

/-- The records of a halt: the showing-ended notice, the projector and its tracker (R31, R44). -/
def State.haltRecord (s : State) (q : ProjNo) (c : HaltCause) : State :=
  ((s.endShowing q).setProjector q
    { (s.endShowing q).projector q with runState := .halted, haltCause := some c, douser := .closed }).setTracker q
      ((s.endShowing q).tracker q).motorOff

theorem State.haltRecord_run (s : State) (q : ProjNo) (c : HaltCause) (x : ProjNo) :
    (s.haltRecord q c).run x = if x = q then (s.run q).halted c else s.run x := by
  have he := fun y => State.run_congr (s.endShowing_runPart q) y
  rw [← he x, ← he q]
  by_cases hx : x = q
  · subst hx
    simp [State.run, State.haltRecord, Run.halted]
  · simp [State.run, State.haltRecord, hx]

/-- The standing action of a break in SHOWING (R31). -/
def State.breakStanding (s w : State) (q : ProjNo) (c : HaltCause) : State :=
  if (s.projector q).runState = .showing && c = .filmBreak then w.fireStanding (.filmBreak q.screen) else w

theorem State.breakStanding_keeps (s w : State) (q : ProjNo) (c : HaltCause) :
    (s.breakStanding w q c).runPart = w.runPart ∧ w.work.posts ⊆ (s.breakStanding w q c).work.posts := by
  unfold State.breakStanding
  split
  · exact ⟨w.fireStanding_runPart _, w.fireStanding_posts _⟩
  · exact ⟨rfl, List.Subset.refl _⟩

theorem State.haltCore_motor (hm : (s.projector q).runState.motor = true) (c : HaltCause) : s.haltCore q c =
    (((c.posts q).elim (s.breakStanding (s.haltRecord q c) q c) fun k =>
      (s.breakStanding (s.haltRecord q c) q c).post (.projector q) k).noteRunState q.screen).tellDuty (.projector q) := by
  unfold State.haltCore
  rw [if_pos hm]
  cases c.posts q <;> rfl

/-- After the records of a halt come notices and causes, the cause of the halt among them. -/
theorem State.haltCore_rest (hm : (s.projector q).runState.motor = true) (c : HaltCause) :
    (s.haltCore q c).runPart = (s.haltRecord q c).runPart ∧
      s.work.posts ++ (c.posts q).toList.map (Prod.mk (.projector q)) ⊆ (s.haltCore q c).work.posts := by
  obtain ⟨hr, hp⟩ := s.breakStanding_keeps (s.haltRecord q c) q c
  have hs : (s.haltRecord q c).work.posts = s.work.posts := s.endShowing_posts q
  rw [hs] at hp
  rw [State.haltCore_motor hm, ← hr]
  generalize s.breakStanding (s.haltRecord q c) q c = w at hp
  cases c.posts q with
  | none => exact ⟨rfl, List.append_subset.mpr ⟨hp, List.nil_subset _⟩⟩
  | some k => exact ⟨
      by rw [State.tellDuty_runPart, State.noteRunState_runPart, Option.elim_some, State.post_runPart],
      List.append_subset.mpr
      ⟨List.Subset.trans hp (List.subset_append_left _ _), List.subset_append_right _ _⟩⟩

/-- A halt of a projector in a motor state, whatever its cause (R31). -/
theorem State.haltCore_run (hm : (s.projector q).runState.motor = true) (c : HaltCause) (x : ProjNo) :
    (s.haltCore q c).run x = if x = q then (s.run q).halted c else s.run x := by
  rw [State.run_congr (State.haltCore_rest hm c).1, State.haltRecord_run]

theorem Obeys.haltCore (h : Obeys s t) (q : ProjNo) (c : HaltCause) : Obeys s (t.haltCore q c) := by
  cases hm : (t.projector q).runState.motor with
  | false => rwa [State.haltCore_still hm]
  | true =>
    have hr := State.haltCore_run hm c
    refine h.order q (t.haltCore_calm q c) ?_ (fun x hx => by rw [hr, if_neg hx]) ?_
    · rw [hr, if_pos rfl]
      exact .halt _ _ _ c hm
    · exact List.Subset.trans (List.subset_append_left _ _) (State.haltCore_rest hm c).2

/-- An emptied run (R34, R39, R44). -/
def Run.emptied (r : Run) (a : Option Nat) : Run := ⟨.emptied a, r.tracker.emptied, ⟨false, none, 0⟩⟩

theorem State.becomeEmpty_run (s : State) (q : ProjNo) (a : Option Nat) (x : ProjNo) :
    (s.becomeEmpty q a).run x = if x = q then (s.run q).emptied a else s.run x := by
  by_cases hx : x = q
  · subst hx
    simp [State.run, State.becomeEmpty, Run.emptied, Projector.emptied]
  · simp [State.run, State.becomeEmpty, hx]

/-- The assignment of a projector that has run out, or whose film has (R35). -/
def State.nextReel (s : State) (q : ProjNo) : Option Nat :=
  (s.projector q).loaded.elim (s.openingReel q) fun r => s.assignAfter q r

theorem State.emptyRun_eq (s : State) (q : ProjNo) : s.emptyRun q =
    (((s.endShowing q).becomeEmpty q (s.nextReel q)).noteRunState q.screen).tellDuty (.projector q) := by
  unfold State.emptyRun State.nextReel
  cases (s.projector q).loaded <;> rfl

theorem State.emptyRun_run (s : State) (q x : ProjNo) :
    (s.emptyRun q).run x = if x = q then (s.run q).emptied (s.nextReel q) else s.run x := by
  have he := fun y => State.run_congr (s.endShowing_runPart q) y
  rw [← he x, ← he q, ← State.becomeEmpty_run, State.emptyRun_eq]
  rfl

theorem Obeys.emptyRun (h : Obeys s t) (q : ProjNo) (hm : (t.projector q).runState.motor = true) :
    Obeys s (t.emptyRun q) := by
  have hr := t.emptyRun_run q
  refine h.order q (t.emptyRun_calm q) ?_ (fun x hx => by rw [hr, if_neg hx]) ?_
  · rw [hr, if_pos rfl]
    exact .empty _ _ _ _ hm
  · have hp : (t.emptyRun q).work.posts = t.work.posts := by
      rw [State.emptyRun_eq]
      exact t.endShowing_posts q
    rw [hp]
    exact List.Subset.refl _

/-- A projector that leaves SHOWING for RUNOUT, before the check of its runout limit (R30). -/
def State.runoutRecord (s : State) (q : ProjNo) : State :=
  ((s.arcShowingEnded q).setProjector q
    { (s.arcShowingEnded q).projector q with runState := .runout, douser := .closed }).noteArm q.screen |>.tellDuty
      (.projector q)

theorem State.enterRunout_eq (s : State) (q : ProjNo) : s.enterRunout q =
    if (s.runoutRecord q).atRunoutLimit q then (s.runoutRecord q).emptyRun q else s.runoutRecord q := rfl

/-- A run that has gone to RUNOUT. -/
def Run.outgoing (r : Run) : Run := ⟨{ r.projector with runState := .runout, douser := .closed }, r.tracker, r.marks⟩

theorem State.runoutRecord_run (s : State) (q x : ProjNo) :
    (s.runoutRecord q).run x = if x = q then (s.run q).outgoing else s.run x := by
  have he := fun y => State.run_congr (s.arcShowingEnded_runPart q) y
  rw [← he x, ← he q]
  by_cases hx : x = q
  · subst hx
    simp [State.run, State.runoutRecord, Run.outgoing, State.projector, State.tracker, State.runMarks]
  · simp [State.run, State.runoutRecord, hx, State.projector, State.tracker, State.runMarks]

theorem Obeys.enterRunout (h : Obeys s t) (q : ProjNo) (hq : (t.projector q).runState = .showing) :
    Obeys s (t.enterRunout q) := by
  have hr := t.runoutRecord_run q
  have hout : Obeys s (t.runoutRecord q) := by
    refine h.order q (by simp [State.runoutRecord]) ?_ (fun x hx => by rw [hr, if_neg hx]) ?_
    · rw [hr, if_pos rfl]
      exact .runout _ _ _ hq
    · have hp : (t.runoutRecord q).work.posts = t.work.posts := t.arcShowingEnded_posts q
      rw [hp]
      exact List.Subset.refl _
  rw [State.enterRunout_eq]
  split
  · have hq' : (t.runoutRecord q).projector q = (t.run q).outgoing.projector :=
      congrArg Run.projector ((hr q).trans (if_pos rfl))
    exact hout.emptyRun q (by rw [hq']; rfl)
  · exact hout

theorem Obeys.closeOrder (h : Obeys s t) (q : ProjNo) : Obeys s (t.closeOrder q) := by
  unfold State.closeOrder
  split
  next hq => exact h.enterRunout q hq
  · exact h

/-! ## The sequencer -/

theorem Obeys.stopIdle (h : Obeys s t) (m : ScreenNo) : Obeys s (t.stopIdle m) := by
  unfold State.stopIdle
  split
  · split
    · exact h.haltCore _ _
    · exact h
  · exact h

theorem Obeys.interrupt (h : Obeys s t) (m : ScreenNo) : Obeys s (t.interrupt m) := by
  unfold State.interrupt
  split
  · exact h
  · exact ((((h.stopIdle m).modScreen m _).clearLate m).setScreenState m _).post _ _

theorem Obeys.roll (h : Obeys s t) (m : ScreenNo) (q : ProjNo) : Obeys s (t.roll m q) :=
  (h.startOrder q).setScreenState m _

theorem Obeys.actOnArming (h : Obeys s t) (m : ScreenNo) (q : ProjNo) (b : Bool) : Obeys s (t.actOnArming m q b) := by
  unfold State.actOnArming
  split
  · split
    · exact (h.clearLate m).roll m q
    · exact h.setScreenState m _
  · exact h.setScreenState m _
  · exact h

theorem Obeys.armingCheck (h : Obeys s t) (m : ScreenNo) : Obeys s (t.armingCheck m) := by
  unfold State.armingCheck
  split
  · split
    · exact h
    · dsimp only
      refine Obeys.actOnArming ?_ _ _ _
      split
      · exact (h.modScreen m _).tellDuty _
      · exact h.modScreen m _
  · exact h

theorem Obeys.openFailed (h : Obeys s t) (m : ScreenNo) (q : ProjNo) : Obeys s (t.openFailed m q) :=
  (h.haltCore q _).interrupt m

theorem Obeys.openTest (h : Obeys s t) (m : ScreenNo) : Obeys s (t.openTest m) := by
  unfold State.openTest
  split
  · split
    · dsimp only
      split
      · exact (h.openOrder _).modScreen m _
      · exact ((h.openOrder _).modScreen m _).openFailed m _
    · exact h
  · exact h

theorem Obeys.beginOpening (h : Obeys s t) (m : ScreenNo) (q : ProjNo) (r : Option Nat) :
    Obeys s (t.beginOpening m q r) := by
  have ho := fun f => ((h.modScreen m f).setScreenState m .starting).startOrder q
  unfold State.beginOpening
  dsimp only
  split
  · exact ho _
  · exact (ho _).interrupt m

theorem Obeys.rescueRolling (h : Obeys s t) (m : ScreenNo) (q : ProjNo) : Obeys s (t.rescueRolling m q) :=
  (((h.modScreen m _).setScreenState m _).post _ _).openTest m

theorem Obeys.rescueSwapping (h : Obeys s t) (m : ScreenNo) (q : ProjNo) : Obeys s (t.rescueSwapping m q) :=
  ((h.modScreen m _).setScreenState m _).post _ _

theorem Obeys.showingHalt (h : Obeys s t) (m : ScreenNo) : Obeys s (t.showingHalt m) := by
  unfold State.showingHalt
  split
  · split
    · exact h.rescueRolling m _
    · exact h.interrupt m
  · exact h.rescueSwapping m _
  · exact h.interrupt m
  · exact h.interrupt m
  · exact h.interrupt m
  · exact h

theorem Obeys.backToSingle (h : Obeys s t) (m : ScreenNo) : Obeys s (t.backToSingle m) :=
  ((h.setLate m).setScreenState m _).armingCheck m

theorem Obeys.swapIncomingHalt (h : Obeys s t) (m : ScreenNo) (q : ProjNo) : Obeys s (t.swapIncomingHalt m q) := by
  have hidle := h.modScreen m fun r => { r with confirmTimer := none }
  unfold State.swapIncomingHalt
  dsimp only
  split
  · exact (hidle.closeOrder q).interrupt m
  · have hback := ((hidle.openOrder q).modScreen m fun r => { r with sound := q.side, closeWatch := none }).backToSingle m
    split
    · exact hback
    · exact hback.showingHalt m

theorem Obeys.standbyHalt (h : Obeys s t) (m : ScreenNo) : Obeys s (t.standbyHalt m) := by
  unfold State.standbyHalt
  split
  · exact h.armingCheck m
  · exact h.armingCheck m
  · exact (h.modScreen m _).backToSingle m
  · exact h.swapIncomingHalt m _
  · exact h

theorem Obeys.onHalt (h : Obeys s t) (q : ProjNo) : Obeys s (t.onHalt q) := by
  unfold State.onHalt
  dsimp only
  split
  · exact h
  · split
    · exact h.interrupt _
    · exact h
  · split
    · exact h.showingHalt _
    · exact h.standbyHalt _

theorem Obeys.haltEvent (h : Obeys s t) (q : ProjNo) (c : HaltCause) : Obeys s (t.haltEvent q c) := by
  unfold State.haltEvent
  split
  · exact (h.haltCore q c).onHalt q
  · exact h

/-! ## The swap -/

theorem Obeys.swapFail (h : Obeys s t) (m : ScreenNo) (q r : ProjNo) : Obeys s (t.swapFail m q r) := by
  unfold State.swapFail
  split
  · exact ((h.closeOrder r).haltCore q _).interrupt m
  · have hrev := fun f => ((((h.douseOrder q).openOrder r).modScreen m f).setScreenState m .rolling).post
      (.sequencer m) (.revert m)
    dsimp only
    split
    · exact hrev _
    · exact (hrev _).showingHalt m

theorem Obeys.swapStart (h : Obeys s t) (m : ScreenNo) (q r : ProjNo) (late : Bool) :
    Obeys s (t.swapStart m q r late) := by
  have hswap := fun f => (((h.openOrder q).douseOrder r).modScreen m f).setScreenState m .swapping
  unfold State.swapStart
  dsimp only
  split <;> split
  · exact (hswap _).post _ _
  · exact hswap _
  · exact ((hswap _).post _ _).swapFail m q r
  · exact (hswap _).swapFail m q r

theorem Obeys.onSpeed (h : Obeys s t) (q : ProjNo) : Obeys s (t.onSpeed q) := by
  unfold State.onSpeed State.swapIfReady
  dsimp only
  split
  · split
    · exact h.openTest _
    · exact h
  · split
    · split
      · split
        · exact h.swapStart _ _ _ _
        · exact h
      · exact h
    · exact h
  · exact h

theorem Obeys.onLeadIn (h : Obeys s t) (q : ProjNo) : Obeys s (t.onLeadIn q) := by
  unfold State.onLeadIn
  split
  · exact h.openTest _
  · exact h

theorem Obeys.onMotorCue (h : Obeys s t) (q : ProjNo) : Obeys s (t.onMotorCue q) := by
  unfold State.onMotorCue
  dsimp only
  split
  · split
    · exact h.roll _ _
    · exact (h.setLate _).post _ _
    · exact h
  · exact h

theorem Obeys.onChangeoverCue (h : Obeys s t) (q : ProjNo) : Obeys s (t.onChangeoverCue q) := by
  unfold State.onChangeoverCue
  dsimp only
  split
  · split
    · split
      · exact h
      · split
        · exact h.swapStart _ _ _ _
        · exact h.modScreen _ _
    · exact h.modScreen _ _
    · exact h.modScreen _ _
    · exact h
  · exact h

theorem Obeys.takeOldCues (h : Obeys s t) (q : ProjNo) : Obeys s (t.takeOldCues q) := by
  unfold State.takeOldCues
  split
  · exact h
  next c _ =>
    have hm : Obeys s (if c.motor.settled then t.onMotorCue q else t) := by
      split
      · exact h.onMotorCue q
      · exact h
    dsimp only
    split
    · exact hm.onChangeoverCue q
    · exact hm

theorem Obeys.beginShowing (h : Obeys s t) (m : ScreenNo) (q : ProjNo) : Obeys s (t.beginShowing m q) := by
  unfold State.beginShowing
  dsimp only
  split
  · exact (h.modScreen m _).setScreenState m _
  · exact ((h.modScreen m _).setScreenState m _).armingCheck m

theorem Obeys.swapDone (h : Obeys s t) (m : ScreenNo) (q : ProjNo) : Obeys s (t.swapDone m q) := by
  have hdone := fun f => (((h.modScreen m f).clearLate m).beginShowing m q).post (.sequencer m)
    (.done m ((t.projector q).loaded.getD 0))
  unfold State.swapDone
  dsimp only
  split
  · exact hdone _
  · exact (hdone _).takeOldCues q

theorem Obeys.confirmExpiry (h : Obeys s t) (m : ScreenNo) : Obeys s (t.confirmExpiry m) := by
  unfold State.confirmExpiry
  split
  · exact h
  · dsimp only
    split
    · exact (h.modScreen m _).openFailed m _
    · exact (h.modScreen m _).swapFail m _ _
    · exact h.modScreen m _

theorem Obeys.changeNow (h : Obeys s t) (m : ScreenNo) : Obeys s (Machine.changeNow m t).1 := by
  unfold Machine.changeNow
  split
  · exact (h.modScreen m _).roll m _
  · dsimp only
    split
    · exact (h.modScreen m _).swapStart _ _ _ _
    · exact h.modScreen m _
  · exact h
  · exact h

/-! ## The start of a show -/

theorem Obeys.carbonNotice (h : Obeys s t) (m : ScreenNo) : Obeys s (t.carbonNotice m) := by
  unfold State.carbonNotice
  split
  · split
    · exact h.tellDuty _
    · exact h
  · exact h

theorem Obeys.storeReadiness (h : Obeys s t) (m : ScreenNo) : Obeys s (t.storeReadiness m) := by
  have hset : Obeys s (t.setShow m { t.showRec m with readiness := t.readiness m }) := h.same rfl rfl
  exact hset.carbonNotice m

theorem Obeys.giveStart (h : Obeys s t) (m : ScreenNo) : Obeys s (t.giveStart m) := by
  unfold State.giveStart
  split
  · exact h.beginOpening m _ _
  · exact h

theorem Obeys.startShow (h : Obeys s t) (m : ScreenNo) : Obeys s (t.startShow m) := by
  have hset : ∀ r, Obeys s (t.setShow m r) := fun r => h.same rfl rfl
  have hmarks : ∀ v x, Obeys s v → Obeys s (v.setMarks m x) := fun v x hv => hv.same rfl rfl
  have hstart := fun r f => (hmarks _ 0#16 ((hset r).giveStart m)).fireWhere m f
  unfold State.startShow State.houseShowStart
  dsimp only
  split
  · have hbell : ∀ v, Obeys s v → Obeys s (v.releaseBell m) := fun v hv => hv.same rfl rfl
    exact ((hbell _ (hstart _ _)).tellDuty _).post _ _
  · exact ((hstart _ _).tellDuty _).post _ _

theorem Obeys.retest (h : Obeys s t) (m : ScreenNo) : Obeys s (t.retest m) := by
  unfold State.retest
  split
  · exact h.storeReadiness m
  · dsimp only
    split
    · exact (h.storeReadiness m).startShow m
    · exact h.storeReadiness m
  · exact h

theorem Obeys.startRequest (h : Obeys s t) (m : ScreenNo) : Obeys s (Machine.startRequest m t).1 := by
  unfold Machine.startRequest resumeShow startNow
  split
  · split
    · split
      · exact h
      · split
        · exact h
        · split
          · exact (h.beginOpening m _ _).post _ _
          · exact h.tellDuty _
          · exact h
    · exact h
  · split
    · exact h
    · split
      · exact h.startShow m
      · dsimp only
        split
        · exact h
        · exact h.carbonNotice m

theorem Obeys.startReached (h : Obeys s t) (m : ScreenNo) : Obeys s (t.startReached m) := by
  unfold State.startReached State.startOrHold
  split
  · split
    · dsimp only
      split
      · exact (h.storeReadiness m).startShow m
      · have hhold : ∀ v r, Obeys s v → Obeys s (((v.setShow m r).holdBell m).tellDuty (.screen m)) :=
          fun v r hv => hv.same rfl rfl
        exact (hhold _ _ (h.storeReadiness m)).post _ _
    · exact h
  · exact h

/-! ## Every order and notice in turn -/

theorem Obeys.foldl {ι : Type} {f : State → ι → State} (hf : ∀ v x, Obeys s v → Obeys s (f v x)) (l : List ι)
    (h : Obeys s t) : Obeys s (l.foldl f t) := by
  induction l generalizing t with
  | nil => exact h
  | cons x l ih => exact ih (hf t x h)

theorem Obeys.settleArming (h : Obeys s t) : Obeys s t.settleArming := by
  refine Obeys.foldl (fun v m hv => ?_) _ h
  split
  · exact hv.armingCheck m
  · exact hv

theorem Obeys.settleTests (h : Obeys s t) : Obeys s t.settleTests := by
  refine Obeys.foldl (fun v m hv => ?_) _ h
  split
  · exact hv.retest m
  · exact hv

end Sys2Proof.Machine
end

section
/-! Sound projectors (R21, R23, R28, R29, R32, R39, R44): what each operation keeps of a projector with its tracker and run
marks, and that no operation but the open confirmation leads into SHOWING or takes the port of a projector that stays there. -/

namespace Sys2Proof.Machine

variable {s t u : State} {p q : ProjNo} {n m : ScreenNo}

/-! ## Sound runs -/

/-- What `State.ProjectorsSound` says of one projector with its tracker and run marks, while main power lasts. -/
structure Run.Sound (r : Run) : Prop where
  film : r.projector.runState = .empty ↔ r.projector.loaded = none
  halted : r.projector.runState = .halted ↔ r.projector.haltCause ≠ none
  assigned : r.projector.assigned ≠ none → r.projector.runState = .empty
  open_ : r.projector.douser = .opened → r.projector.runState = .running ∨ r.projector.runState = .showing
  still : r.projector.runState.motor = false →
    r.tracker.startTimer = none ∧ r.tracker.stallTimer = none ∧ r.tracker.atSpeed = false
  marks : r.marks.filmOn = r.marks.reel.isSome ∧ (r.marks.filmOn = false → r.marks.counter = 0)
  kept : r.marks.reel = r.projector.loaded ∧ r.marks.counter = r.tracker.counter

/-- A run without film, whatever it is to be threaded with. -/
theorem Run.sound_of_empty {k : Tracker} (a : Option Nat) (h : k.startTimer = none ∧ k.stallTimer = none ∧ k.atSpeed = false)
    (hc : k.counter = 0) : Run.Sound ⟨.emptied a, k, ⟨false, none, 0⟩⟩ where
  film := by simp [Projector.emptied]
  halted := by simp [Projector.emptied]
  assigned _ := rfl
  open_ := nofun
  still _ := h
  marks := ⟨rfl, fun _ => rfl⟩
  kept := ⟨rfl, hc.symm⟩

/-- An order keeps a run sound. -/
theorem Run.Order.sound {a b : Run} (h : Run.Order a b) (ha : a.Sound) : b.Sound := by
  obtain ⟨film, halted, assigned, open_, still, marks, kept⟩ := ha
  cases h with
  | start x k m hx =>
    simp only [hx, reduceCtorEq, false_iff, false_or, imp_false, not_not] at film halted assigned open_
    exact ⟨by simpa using film, by simpa using halted, by simp [assigned], fun ho => absurd ho open_, nofun, marks, kept⟩
  | douser x k m d hx => exact ⟨film, halted, assigned, fun _ => hx, still, marks, kept⟩
  | halt x k m c hx =>
    have hne : x.runState ≠ .empty := fun he => by simp [he, RunState.motor] at hx
    exact ⟨by simpa [hne] using film, by simp, fun h => absurd (assigned h) hne, nofun, fun _ => ⟨rfl, rfl, rfl⟩, marks, kept⟩
  | runout x k m hx =>
    simp only [hx, reduceCtorEq, false_iff, imp_false, not_not] at film halted assigned
    exact ⟨by simpa using film, by simpa using halted, by simp [assigned], nofun, nofun, marks, kept⟩
  | empty x k m a hx => exact Run.sound_of_empty a ⟨rfl, rfl, rfl⟩ rfl

theorem Run.sound_of_orders {a b : Run} (h : Relation.ReflTransGen Run.Order a b) (ha : a.Sound) : b.Sound := by
  induction h with
  | refl => exact ha
  | tail _ ho ih => exact ho.sound ih

/-! ## Keeping sound -/

/-- From `s` to `t` the main power is as it was, every sound run stays sound, no projector has come to be SHOWING, and the port
of one that still is has not left UP. -/
structure KeepsRuns (s t : State) : Prop where
  powered : t.powered = s.powered
  sound : ∀ p, (s.run p).Sound → (t.run p).Sound
  showing : ∀ p, (t.projector p).runState = .showing → (s.projector p).runState = .showing
  port : ∀ p, (t.projector p).runState = .showing → (s.shutter (.port p)).state = .up → (t.shutter (.port p)).state = .up

theorem State.port_congr (h : t.runPart = s.runPart) (p : ProjNo) :
    (t.shutter (.port p)).state = (s.shutter (.port p)).state := by
  have hp : ∀ v : State, v.runPart.ports.get p = (v.shutter (.port p)).state := fun _ => ByProj.get_ofFn _ _
  rw [← hp, h, hp]

theorem KeepsRuns.of_part (h : t.runPart = s.runPart) : KeepsRuns s t where
  powered := congrArg RunPart.powered h
  sound p hp := by rwa [State.run_congr h]
  showing p hp := by rwa [show t.projector p = s.projector p from congrArg Run.projector (State.run_congr h p)] at hp
  port p _ hu := by rwa [State.port_congr h]

theorem KeepsRuns.refl (s : State) : KeepsRuns s s := .of_part rfl

theorem KeepsRuns.trans (h : KeepsRuns s t) (k : KeepsRuns t u) : KeepsRuns s u :=
  ⟨k.powered.trans h.powered, fun p hp => k.sound p (h.sound p hp), fun p hp => h.showing p (k.showing p hp),
    fun p hp hu => k.port p hp (h.port p (k.showing p hp) hu)⟩

theorem KeepsRuns.same (h : KeepsRuns s t) (hr : u.runPart = t.runPart) : KeepsRuns s u := h.trans (.of_part hr)

theorem State.shutterUnit_of_calm (h : t.calm = s.calm) : t.shutterUnit = s.shutterUnit := congrArg Calm.shutterUnit h

/-- Orders keep the runs. -/
theorem Obeys.keepsRuns (h : Obeys s t) : KeepsRuns s t where
  powered := State.powered_congr (congrArg Calm.fixed h.calm)
  sound p := Run.sound_of_orders (h.runs p)
  showing _ := h.showing
  port p _ hu := by rwa [State.shutter, State.shutterUnit_of_calm h.calm, ← State.shutter]

/-- A change of one run, which does not lead into SHOWING. -/
theorem KeepsRuns.one (h : KeepsRuns s t) (q : ProjNo) (hp : u.powered = t.powered) (hu : u.shutterUnit = t.shutterUnit)
    (hx : ∀ x, x ≠ q → u.run x = t.run x) (hs : (t.run q).Sound → (u.run q).Sound)
    (hshow : (u.projector q).runState = .showing → (t.projector q).runState = .showing) : KeepsRuns s u := by
  have hproj : ∀ x, x ≠ q → u.projector x = t.projector x := fun x hxq => congrArg Run.projector (hx x hxq)
  refine h.trans ⟨hp, fun x hsx => ?_, fun x hsx => ?_, fun x _ hup => by rwa [State.shutter, hu, ← State.shutter]⟩
  · by_cases hxq : x = q
    · exact hxq ▸ hs (hxq ▸ hsx)
    · rwa [hx x hxq]
  · by_cases hxq : x = q
    · exact hxq ▸ hshow (hxq ▸ hsx)
    · rwa [hproj x hxq] at hsx

/-- A change of the cue context alone. -/
theorem KeepsRuns.setContext (h : KeepsRuns s t) (q : ProjNo) (x : Option CueContext) :
    KeepsRuns s (t.setTracker q { t.tracker q with context := x }) := by
  refine h.one q rfl rfl (fun y hy => by simp [State.run, hy]) (fun hs => ?_) id
  have hr : (t.setTracker q { t.tracker q with context := x }).run q =
      ⟨t.projector q, { t.tracker q with context := x }, t.runMarks q⟩ := by simp [State.run]
  rw [hr]
  exact ⟨hs.film, hs.halted, hs.assigned, hs.open_, hs.still, hs.marks, hs.kept⟩

/-- A projector that a block empties (R36, R38). -/
theorem KeepsRuns.becomeEmpty (h : KeepsRuns s t) (q : ProjNo) (a : Option Nat) : KeepsRuns s (t.becomeEmpty q a) := by
  have hr := t.becomeEmpty_run q a
  have hq : (t.becomeEmpty q a).run q = (t.run q).emptied a := (hr q).trans (if_pos rfl)
  refine h.one q rfl rfl (fun x hx => (hr x).trans (if_neg hx)) (fun _ => ?_) fun hs => ?_
  · rw [hq]
    exact Run.sound_of_empty a ⟨rfl, rfl, rfl⟩ rfl
  · rw [show (t.becomeEmpty q a).projector q = _ from congrArg Run.projector hq] at hs
    cases hs

/-- The end of a step starts THREADED projectors at most. -/
theorem State.settle_keepsRuns (s : State) : KeepsRuns s s.settle := by
  have hruns : ∀ x, Relation.ReflTransGen Run.Order (s.run x) (s.settle.run x) := by
    intro x
    have hm : s.settle.runMarks x = s.runMarks x := by rw [State.runMarks, State.settle_retained, State.runMarks]
    rw [State.run, State.run, hm]
    rcases (State.settle_starts s).projectors x with ⟨h1, h2⟩ | ⟨h1, h2, h3⟩
    · rw [h1, h2]
    · rw [h2, h3]
      exact .single (.start _ _ _ h1)
  refine ⟨State.powered_congr s.settle_fixed, fun x => Run.sound_of_orders (hruns x), fun x hx => ?_, fun x _ hu => ?_⟩
  · rcases (State.settle_starts s).projectors x with ⟨h1, -⟩ | ⟨-, h2, -⟩
    · rwa [h1] at hx
    · rw [h2] at hx
      cases hx
  · rwa [State.shutter, State.settle_shutterUnit, ← State.shutter]

/-- From `s` to `t` the main power is as it was, and with it the projectors stay sound. -/
structure KeepsProjectors (s t : State) : Prop where
  powered : t.powered = s.powered
  sound : s.powered = true → s.ProjectorsSound → t.ProjectorsSound

/-- With main power a state is sound when its runs are, at most one projector of a screen is SHOWING, and only with its port
UP. -/
theorem State.projectorsSound_iff (hp : s.powered = true) : s.ProjectorsSound ↔ (∀ p, (s.run p).Sound) ∧
    (∀ p, (s.projector p).runState = .showing → (s.projector p.other).runState ≠ .showing) ∧
    ∀ p, (s.projector p).runState = .showing → (s.shutter (.port p)).state = .up := by
  constructor
  · intro h
    exact ⟨fun p => ⟨h.film p, h.halted p, h.assigned p, h.open_ p, h.still p, h.marks p, h.kept hp p⟩, h.single, h.port⟩
  · intro ⟨h, single, port⟩
    exact ⟨fun p => (h p).film, fun p => (h p).halted, fun p => (h p).assigned, fun p => (h p).open_, fun p => (h p).still,
      fun p => (h p).marks, single, port, fun _ p => (h p).kept⟩

theorem KeepsRuns.keepsProjectors (h : KeepsRuns s t) : KeepsProjectors s t := by
  refine ⟨h.powered, fun hp hs => ?_⟩
  obtain ⟨hruns, hsingle, hport⟩ := (State.projectorsSound_iff hp).mp hs
  exact (State.projectorsSound_iff (h.powered.trans hp)).mpr ⟨fun p => h.sound p (hruns p),
    fun p h1 h2 => hsingle p (h.showing p h1) (h.showing _ h2), fun p h1 => h.port p h1 (hport p (h.showing p h1))⟩

theorem KeepsProjectors.trans (h : KeepsProjectors s t) (k : KeepsProjectors t u) : KeepsProjectors s u :=
  ⟨k.powered.trans h.powered, fun hp hs => k.sound (h.powered.trans hp) (h.sound hp hs)⟩

theorem State.ProjectorsSound.congr (hs : s.ProjectorsSound) (h : t.runPart = s.runPart) : t.ProjectorsSound := by
  have hr := fun p => State.run_congr h p
  have hpow : t.powered = s.powered := congrArg RunPart.powered h
  have hproj : ∀ p, t.projector p = s.projector p := fun p => congrArg Run.projector (hr p)
  have htrack : ∀ p, t.tracker p = s.tracker p := fun p => congrArg Run.tracker (hr p)
  have hmarks : ∀ p, t.runMarks p = s.runMarks p := fun p => congrArg Run.marks (hr p)
  obtain ⟨film, halted, assigned, open_, still, marks, single, port, kept⟩ := hs
  constructor <;> simp only [hproj, htrack, hmarks, State.port_congr h, hpow] <;> assumption

/-! ## The shapes of a command -/

theorem event_projectorsSound {body : State → State} (h : event body s = .next t) (hb : ∀ v, KeepsProjectors v (body v))
    (hs : s.ProjectorsSound) : t.ProjectorsSound := by
  unfold event at h
  cases h
  split
  next hp => exact ((hb s.begin).trans (State.settle_keepsRuns _).keepsProjectors).sound hp (hs.congr rfl)
  · exact hs

theorem event_keeps {body : State → State} (h : event body s = .next t) (hb : ∀ v, KeepsRuns v (body v))
    (hs : s.ProjectorsSound) : t.ProjectorsSound := event_projectorsSound h (fun v => (hb v).keepsProjectors) hs

theorem pinEvent_keeps {level : Pins → Pins} {body : State → State} (h : pinEvent level body s = .next t)
    (hb : ∀ v, KeepsRuns v (body v)) (hs : s.ProjectorsSound) : t.ProjectorsSound := by
  unfold pinEvent at h
  cases h
  split
  next hp => exact ((hb _).trans (State.settle_keepsRuns _)).keepsProjectors.sound hp (hs.congr rfl)
  · exact hs.congr rfl

theorem serve_keeps {c : Instr} {body : State → State × Answer} (h : serve c body s = .next t)
    (hb : ∀ v, KeepsRuns v (body v).1) (hs : s.ProjectorsSound) : t.ProjectorsSound := by
  unfold serve at h
  split at h
  next x _ =>
    refine event_keeps h (fun v => ?_) hs
    have ht : KeepsRuns v (v.take x.1 x.2 body) := (hb v).same rfl
    unfold State.serveRequest
    dsimp only
    split
    · exact ht
    · split
      · exact .refl v
      · split
        · exact .of_part rfl
        · unfold State.arrive
          split
          · exact .of_part rfl
          · split
            · exact .of_part rfl
            · exact ht
  · cases h
    exact hs

/-- A request with a target byte. -/
theorem request_keeps {α : Type} {c : Instr} {name : Option α} {body : α → State → State × Answer}
    (h : serve c (withTarget name body) s = .next t) (hb : ∀ x v, KeepsRuns v (body x v).1) (hs : s.ProjectorsSound) :
    t.ProjectorsSound := by
  refine serve_keeps h (fun v => ?_) hs
  unfold withTarget
  split
  · exact .refl v
  · exact hb _ v

end Sys2Proof.Machine
end

section
/-! What the commands do to the runs. The arcs, the house, the links and the settings leave them; the shutter unit halts
what loses its port (R32); a rotation empties the projectors of its screen (R38); and the open confirmation takes a
projector whose port is UP into SHOWING and the other one out of it (R29). -/

namespace Sys2Proof.Machine

variable (s : State)

/-! ## Arcs -/

@[simp] theorem State.arcNotice_runPart (p : ProjNo) : (s.arcNotice p).runPart = s.runPart := s.noteArmIfStandby_runPart p

@[simp] theorem State.retrimNotice_runPart (p : ProjNo) : (s.retrimNotice p).runPart = s.runPart :=
  s.noteArmIfStandby_runPart p

@[simp] theorem State.arcFaultNotice_runPart (p : ProjNo) : (s.arcFaultNotice p).runPart = s.runPart := by
  unfold State.arcFaultNotice
  split
  · exact s.fireStanding_runPart _
  · rfl

@[simp] theorem State.setArc_runPart (p : ProjNo) (r : Arc) : (s.setArc p r).runPart = s.runPart := rfl

@[simp] theorem State.setArcStore_runPart (p : ProjNo) (r : ArcStore) : (s.setArcStore p r).runPart = s.runPart := rfl

@[simp] theorem State.noteRetest_runPart (n : ScreenNo) : (s.noteRetest n).runPart = s.runPart := rfl

@[simp] theorem State.arcShowing_runPart (p : ProjNo) : (s.arcShowing p).runPart = s.runPart := by
  unfold State.arcShowing
  dsimp only
  split <;> rfl

@[simp] theorem State.readCrater_runPart (p : ProjNo) : (s.readCrater p).runPart = s.runPart := by
  unfold State.readCrater
  split
  · split <;> rfl
  · split <;> rfl
  · rfl

@[simp] theorem State.establish_runPart (p : ProjNo) : (s.establish p).runPart = s.runPart := by
  unfold State.establish
  dsimp only
  rw [State.arcNotice_runPart, State.readCrater_runPart, State.post_runPart]
  split <;> rfl

@[simp] theorem State.putOut_runPart (p : ProjNo) : (s.putOut p).runPart = s.runPart := by
  simp [State.putOut]

@[simp] theorem State.fireOut_runPart (p : ProjNo) : (s.fireOut p).runPart = s.runPart := by
  unfold State.fireOut
  split <;> simp

@[simp] theorem State.linkOut_runPart (i : ShutterNo) (p : ProjNo) : (s.linkOut i p).runPart = s.runPart := by
  unfold State.linkOut
  split <;> simp

@[simp] theorem State.settleLow_runPart (p : ProjNo) : (s.settleLow p).runPart = s.runPart := by
  unfold State.settleLow
  dsimp only
  split <;> [skip; split] <;> rfl

@[simp] theorem State.feedStep_runPart (p : ProjNo) : (s.feedStep p).runPart = s.runPart := by
  unfold State.feedStep State.becomeSpent
  dsimp only
  split <;> simp

@[simp] theorem State.touchExpiry_runPart (p : ProjNo) : (s.touchExpiry p).runPart = s.runPart := by
  unfold State.touchExpiry
  split <;> [split; skip] <;> simp

@[simp] theorem State.proofExpiry_runPart (p : ProjNo) : (s.proofExpiry p).runPart = s.runPart := by
  unfold State.proofExpiry State.strikeFails
  split <;> [split; skip] <;> simp

@[simp] theorem State.pauseExpiry_runPart (p : ProjNo) : (s.pauseExpiry p).runPart = s.runPart := by
  unfold State.pauseExpiry
  split <;> rfl

@[simp] theorem State.arcReported_runPart (p : ProjNo) : (s.arcReported p).runPart = s.runPart := by
  unfold State.arcReported
  split <;> [skip; split] <;> simp

@[simp] theorem State.arcCeased_runPart (p : ProjNo) : (s.arcCeased p).runPart = s.runPart := by
  unfold State.arcCeased
  split <;> rfl

@[simp] theorem State.lossExpiry_runPart (p : ProjNo) : (s.lossExpiry p).runPart = s.runPart := by
  unfold State.lossExpiry State.arcLost
  split <;> simp

@[simp] theorem State.craterChange_runPart (p : ProjNo) : (s.craterChange p).runPart = s.runPart := by
  unfold State.craterChange
  split <;> simp

@[simp] theorem State.highEnd_runPart (p : ProjNo) : (s.highEnd p).runPart = s.runPart := by
  unfold State.highEnd
  split <;> simp

@[simp] theorem State.lowEnd_runPart (p : ProjNo) : (s.lowEnd p).runPart = s.runPart := by
  unfold State.lowEnd
  split
  · split <;> rfl
  · rfl

@[simp] theorem strike_runPart (p : ProjNo) : (strike p s).1.runPart = s.runPart := by
  unfold strike
  split
  · rfl
  · split
    · rfl
    · split
      · rfl
      · exact State.arcNotice_runPart _ p

@[simp] theorem extinguish_runPart (p : ProjNo) : (extinguish p s).1.runPart = s.runPart := by
  unfold extinguish
  split <;> simp

@[simp] theorem retrimDone_runPart (trim : Half) (p : ProjNo) : (retrimDone trim p s).1.runPart = s.runPart := by
  unfold retrimDone
  dsimp only
  split
  · rfl
  · split
    · rfl
    · rw [State.retrimNotice_runPart]
      split <;> simp

@[simp] theorem setArcSettings_runPart (reserve rate : Half) (high low : Byte) (p : ProjNo) :
    (setArcSettings reserve rate high low p s).1.runPart = s.runPart := by
  unfold setArcSettings
  split
  · simp
  · rfl

/-! ## House lights -/

theorem recallChannel_runPart (lv : Levels) (f : Nat) (n : ScreenNo) (a : State × Nat) (k : ChannelPos) :
    (recallChannel lv f n a k).1.runPart = a.1.runPart := by
  unfold recallChannel
  split
  · rfl
  · split <;> rfl

@[simp] theorem recallScene_runPart (scene : Byte) (fade : Half) (n : ScreenNo) :
    (recallScene scene fade n s).1.runPart = s.runPart := by
  unfold recallScene
  split
  · exact foldl_keeps (fun a : State × Nat => a.1.runPart) _ (recallChannel_runPart _ _ _) _ (s, 0)
  · rfl

@[simp] theorem setLevel_runPart (level : Byte) (fade : Half) (c : ChannelNo) :
    (setLevel level fade c s).1.runPart = s.runPart := by
  unfold setLevel
  split
  · rfl
  · split <;> rfl

@[simp] theorem setScene_runPart (scene : Byte) (v : Option Levels) (n : ScreenNo) :
    (setScene scene v n s).1.runPart = s.runPart := by
  unfold setScene
  split <;> rfl

@[simp] theorem moveCurtain_runPart (action : Byte) (n : ScreenNo) : (moveCurtain action n s).1.runPart = s.runPart := by
  unfold moveCurtain
  split <;> rfl

@[simp] theorem State.travelExpiry_runPart (n : ScreenNo) : (s.travelExpiry n).runPart = s.runPart := by
  unfold State.travelExpiry
  split <;> rfl

@[simp] theorem setCurtainTime_runPart (seconds : Byte) (n : ScreenNo) :
    (setCurtainTime seconds n s).1.runPart = s.runPart := by
  unfold setCurtainTime
  split <;> rfl

@[simp] theorem setStanding_runPart (e : Option StandingEntry) (k : StandingKey) :
    (setStanding e k s).1.runPart = s.runPart := by
  unfold setStanding
  split
  · rfl
  · split <;> rfl

@[simp] theorem releaseHold_runPart (k : StandingKey) : (releaseHold k s).1.runPart = s.runPart := by
  unfold releaseHold
  split <;> rfl

/-! ## Banks and settings -/

theorem contentWrite_runPart (write : Bank → Except Status (Bank × List Byte)) (x : ScreenNo × Role) :
    (contentWrite write x s).1.runPart = s.runPart := by
  unfold contentWrite
  dsimp only
  split
  · rfl
  · split
    · rfl
    · split
      · rfl
      · split <;> rfl

@[simp] theorem commit_runPart (n : ScreenNo) : (commit n s).1.runPart = s.runPart := by
  unfold commit
  dsimp only
  split
  · rfl
  · split <;> rfl

@[simp] theorem reopen_runPart (n : ScreenNo) : (reopen n s).1.runPart = s.runPart := by
  unfold reopen
  dsimp only
  split <;> rfl

@[simp] theorem setDropMap_runPart (mask : Half) (k : TriggerKey) : (setDropMap mask k s).1.runPart = s.runPart := by
  unfold setDropMap
  split <;> rfl

@[simp] theorem setCuePolicy_runPart (policy window : Byte) (n : ScreenNo) :
    (setCuePolicy policy window n s).1.runPart = s.runPart := by
  unfold setCuePolicy
  split <;> rfl

@[simp] theorem setMonitor_runPart (sel : Byte) (u : Unit) : (setMonitor sel u s).1.runPart = s.runPart := by
  unfold setMonitor
  split <;> rfl

@[simp] theorem readItem_runPart (sel i : Byte) (x : ScreenNo × Role) : (readItem sel i x s).1.runPart = s.runPart := by
  unfold readItem
  dsimp only
  (repeat' split) <;> rfl

@[simp] theorem readScene_runPart (i : Byte) (n : ScreenNo) : (readScene i n s).1.runPart = s.runPart := by
  unfold readScene
  split <;> rfl

@[simp] theorem readDuty_runPart (i : Byte) : (readDuty i s).1.runPart = s.runPart := by
  unfold readDuty
  split
  · rfl
  · split <;> rfl

/-! ## Links and attention -/

@[simp] theorem State.receive_runPart (st : Station) (data : Byte) (bit : Bool) (stopBit : LineLevel) :
    (s.receive st data bit stopBit).runPart = s.runPart := by
  have hframe : ∀ (v : State) (c : Collection), (v.completeFrame st c).runPart = v.runPart := by
    intro v c
    unfold State.completeFrame
    dsimp only
    split <;> [skip; split] <;> rfl
  have hover : ∀ v : State, (v.overLength st).runPart = v.runPart := by
    intro v
    unfold State.overLength
    dsimp only
    split <;> rfl
  have hset : ∀ (v : State) (r : Link), (v.setLink st r).runPart = v.runPart := fun _ _ => rfl
  unfold State.receive
  dsimp only
  split
  · unfold State.hunt
    split <;> rfl
  · unfold State.collect
    dsimp only
    split <;> (try split) <;> simp [hframe, hover, hset]

@[simp] theorem State.character_runPart (st : Station) (old : LineLevel) (data : Byte) (bit : Bool) (stopBit : LineLevel) :
    (s.character st old data bit stopBit).runPart = s.runPart := by
  unfold State.character
  dsimp only
  split
  · rfl
  · exact State.receive_runPart _ _ _ _ _

@[simp] theorem State.gapExpiry_runPart (st : Station) : (s.gapExpiry st).runPart = s.runPart := by
  unfold State.gapExpiry
  dsimp only
  split <;> rfl

@[simp] theorem State.lineBreak_runPart (st : Station) : (s.lineBreak st).runPart = s.runPart := by
  unfold State.lineBreak
  split <;> rfl

@[simp] theorem setLine_runPart (st : Station) (mode : Byte) (u : Unit) : (setLine st mode u s).1.runPart = s.runPart := by
  unfold setLine
  split <;> rfl

@[simp] theorem readStatus_runPart (st : Station) (u : Unit) : (readStatus st u s).1.runPart = s.runPart := by
  unfold readStatus
  dsimp only
  split <;> rfl

@[simp] theorem armAttention_runPart (st : Station) (classes : Half) (u : Unit) :
    (armAttention st classes u s).1.runPart = s.runPart := by
  unfold armAttention
  split <;> rfl

/-! ## The scheduler -/

@[simp] theorem State.schedulerRotation_runPart (n : ScreenNo) : (s.schedulerRotation n).runPart = s.runPart :=
  State.runPart_of_outsideShows (s.schedulerRotation_outsideShows n)

@[simp] theorem State.armNext_runPart (n : ScreenNo) : (s.armNext n).runPart = s.runPart :=
  State.runPart_of_outsideShows (s.armNext_outsideShows n)

@[simp] theorem State.callReached_runPart (n : ScreenNo) : (s.callReached n).runPart = s.runPart := by
  unfold State.callReached
  split
  · split
    · exact State.runPart_of_outsideShows (State.storeReadiness_outsideShows _ n)
    · rfl
  · rfl

@[simp] theorem State.holdReached_runPart (n : ScreenNo) : (s.holdReached n).runPart = s.runPart := by
  unfold State.holdReached
  split
  · split
    · split
      · exact State.armNext_runPart _ n
      · rfl
    · rfl
  · rfl

@[simp] theorem setClock_runPart (time : Long) (u : Unit) : (setClock time u s).1.runPart = s.runPart := by
  have hnotice : ∀ v : State, v.clockNotice.runPart = v.runPart := fun _ => by simp [State.clockNotice, allScreens]
  unfold setClock
  split
  · rfl
  · dsimp only
    rw [hnotice, foldl_keeps State.runPart State.armNext State.armNext_runPart]
    rfl

@[simp] theorem setStarts_runPart (times : List Half) (x : ScreenNo × Role) :
    (setStarts times x s).1.runPart = s.runPart := by
  have harm : ∀ v : State, (v.armAfterStarts x.1 x.2).runPart = v.runPart := by
    intro v
    unfold State.armAfterStarts
    split
    · exact v.armNext_runPart _
    · rfl
  unfold setStarts
  dsimp only
  split
  · rfl
  · split
    · rfl
    · split
      · rfl
      · rw [harm]
        rfl

end Sys2Proof.Machine
end

section
/-! The commands that halt, empty or count (R32 to R48, R110, R156), and the open confirmation (R29), keep the projectors
sound; and so do the clock, the supplies and the tick. -/

namespace Sys2Proof.Machine

variable {s t u : State} {p q : ProjNo} {n m : ScreenNo}

theorem KeepsRuns.foldl {ι : Type} {f : State → ι → State} (hf : ∀ v x, KeepsRuns v (f v x)) (l : List ι) (v : State) :
    KeepsRuns v (l.foldl f v) := by
  induction l generalizing v with
  | nil => exact .refl v
  | cons x l ih => exact (hf v x).trans (ih _)

/-! ## Triggers (R110) -/

/-- After a halt its projector does not show. -/
theorem State.haltCore_not_showing (s : State) (q : ProjNo) (c : HaltCause) :
    ((s.haltCore q c).projector q).runState ≠ .showing := by
  cases hm : (s.projector q).runState.motor with
  | false =>
    rw [State.haltCore_still hm]
    intro h
    rw [h] at hm
    cases hm
  | true =>
    have hr : (s.haltCore q c).projector q = ((s.run q).halted c).projector :=
      congrArg Run.projector ((State.haltCore_run hm c q).trans (if_pos rfl))
    rw [hr]
    exact nofun

theorem Obeys.haltPorts (h : Obeys s t) (l : List ProjNo) (c : HaltCause) : Obeys s (t.haltPorts l c) :=
  Obeys.foldl (fun _ q hv => hv.haltCore q c) l h

theorem State.haltPorts_not_showing {l : List ProjNo} (hp : p ∈ l) (c : HaltCause) (s : State) :
    ((s.haltPorts l c).projector p).runState ≠ .showing := by
  induction l generalizing s with
  | nil => cases hp
  | cons q l ih =>
    by_cases hl : p ∈ l
    · exact ih hl (s.haltCore q c)
    · obtain rfl := (List.mem_cons.mp hp).resolve_right hl
      exact fun hs => s.haltCore_not_showing p c (((Obeys.refl _).haltPorts l c).showing hs)

theorem mem_portsOf {l : List ShutterNo} : p ∈ portsOf l ↔ .port p ∈ l := by
  have hall : p ∈ allProjectors := by
    obtain ⟨n, d⟩ := p
    cases n <;> cases d <;> decide
  simp [portsOf, hall]

theorem State.mem_droppedBy (s : State) (k : TriggerKey) (i : ShutterNo) :
    i ∈ s.droppedBy k ↔ (s.retained.dropMap.entry k).get i = true ∧ (s.shutter i).state ≠ .dropped := by
  have hall : i ∈ allShutters := by
    cases i with
    | port p => obtain ⟨n, d⟩ := p; cases n <;> cases d <;> decide
    | observation n => cases n <;> decide
  simp [State.droppedBy, hall]

theorem State.shutter_addCauses (s : State) (k : TriggerKey) (i : ShutterNo) : (s.addCauses k).shutter i =
    if (s.retained.dropMap.entry k).get i then (s.shutter i).addCause k.cause else s.shutter i := ByShutter.get_ofFn _ _

/-- The left-UP notices halt every projector whose port the trigger has dropped (R32). -/
theorem State.addCauses_keepsRuns (s : State) (k : TriggerKey) (c : HaltCause) :
    KeepsRuns s ((s.addCauses k).haltPorts (portsOf (s.droppedBy k)) c) := by
  have ho : Obeys (s.addCauses k) ((s.addCauses k).haltPorts (portsOf (s.droppedBy k)) c) := (Obeys.refl _).haltPorts _ c
  have hk := ho.keepsRuns
  refine ⟨hk.powered, fun p hp => hk.sound p hp, fun p hp => hk.showing p hp, fun p hp hu => ?_⟩
  have hleft : ShutterNo.port p ∉ s.droppedBy k := fun hm => State.haltPorts_not_showing (mem_portsOf.mpr hm) c _ hp
  have hentry : (s.retained.dropMap.entry k).get (.port p) = false := by
    rw [State.mem_droppedBy, hu] at hleft
    simpa using hleft
  refine hk.port p hp ?_
  rwa [State.shutter_addCauses, hentry, if_neg Bool.false_ne_true]

theorem Obeys.takeHalts (h : Obeys s t) (l : List ProjNo) (m : ScreenNo) : Obeys s (State.takeHalts l t m) := by
  have hall := fun (ps : List ProjNo) (v : State) (hv : Obeys s v) => Obeys.foldl (fun w q hw => Obeys.onHalt hw q) ps hv
  unfold State.takeHalts
  dsimp only
  split
  · exact hall _ _ (h.same rfl rfl)
  · exact hall _ _ h

/-- After the halts of a trigger come the sequencers and the notices. -/
theorem State.triggerAfter_obeys (s : State) (k : TriggerKey) (first : Option ProjNo) :
    Obeys ((s.addCauses k).haltPorts (portsOf (s.droppedBy k)) k.cause.halt) (s.triggerAfter k first) := by
  have hfirst := Obeys.foldl (fun v q (hv : Obeys _ v) => hv.onHalt q) first.toList
    (Obeys.refl ((s.addCauses k).haltPorts (portsOf (s.droppedBy k)) k.cause.halt))
  have htaken := Obeys.foldl (fun v m (hv : Obeys _ v) => hv.takeHalts
    ((portsOf (s.droppedBy k)).filter fun p => (s.projector p).runState.motor) m) allScreens hfirst
  have hleft := Obeys.foldl (fun v q (hv : Obeys _ v) => (hv.noteArmIfStandby q).noteRetest q.screen)
    (portsOf (s.droppedBy k)) htaken
  have hdropped := Obeys.foldl (fun v i (hv : Obeys _ v) => hv.tellDuty (.dropped i)) (s.droppedBy k) hleft
  unfold State.triggerAfter
  dsimp only
  split
  · exact hdropped
  · exact hdropped.post _ _

theorem State.triggerAfter_keepsRuns (s : State) (k : TriggerKey) (first : Option ProjNo) :
    KeepsRuns s (s.triggerAfter k first) :=
  (s.addCauses_keepsRuns k _).trans (s.triggerAfter_obeys k first).keepsRuns

theorem State.trigger_keepsRuns (s : State) (k : TriggerKey) : KeepsRuns s (s.trigger k) := s.triggerAfter_keepsRuns k none

theorem State.breakHalt_keepsRuns (s : State) (p : ProjNo) : KeepsRuns s (s.breakHalt p) := by
  unfold State.breakHalt
  split
  · exact ((Obeys.refl s).haltCore p _).keepsRuns.trans (State.triggerAfter_keepsRuns _ _ _)
  · exact .refl s

/-! ## The shutter unit -/

/-- A shutter that is not UP may change, and one that is may not leave it. -/
theorem State.setShutter_keepsRuns (s : State) {i : ShutterNo} {r : Shutter}
    (h : (s.shutter i).state = .up → r.state = .up) : KeepsRuns s (s.setShutter i r) := by
  refine ⟨rfl, fun _ hp => hp, fun _ hp => hp, fun p _ hu => ?_⟩
  rw [State.shutter_setShutter]
  split
  next hi => exact h (hi ▸ hu)
  · exact hu

theorem State.clearCause_keepsRuns (s : State) (k : DropCause) : KeepsRuns s (s.clearCause k) := by
  refine ⟨rfl, fun _ hp => hp, fun _ hp => hp, fun p _ hu => ?_⟩
  have hs : (s.clearCause k).shutter (.port p) = _ := ByShutter.get_map _ _ _
  rwa [hs]

theorem State.noteFire_runPart (s : State) : s.noteFire.runPart = s.runPart :=
  foldl_keeps State.runPart State.noteRunState State.noteRunState_runPart _ s

theorem State.loopActive_keepsRuns (s : State) : KeepsRuns s s.loopActive := by
  have hfire : KeepsRuns s (s.setFire true) := .of_part rfl
  have hrest : s.fireOn.runPart = ((s.setFire true).trigger .fire).runPart := by
    unfold State.fireOn
    rw [State.post_runPart, State.fireStanding_runPart, State.noteFire_runPart,
      foldl_keeps State.runPart State.fireOut State.fireOut_runPart]
  unfold State.loopActive
  split
  · exact .refl s
  · exact (hfire.trans (State.trigger_keepsRuns _ _)).same hrest

theorem State.loopInactive_keepsRuns (s : State) : KeepsRuns s s.loopInactive := by
  have hfire : KeepsRuns s (s.setFire false) := .of_part rfl
  have hrest : s.fireOff.runPart = ((s.setFire false).clearCause .fire).runPart := by
    unfold State.fireOff
    rw [State.post_runPart, State.noteFire_runPart]
  unfold State.loopInactive
  split
  · exact (hfire.trans (State.clearCause_keepsRuns _ _)).same hrest
  · exact .refl s

theorem State.heatChange_keepsRuns (s : State) (p : ProjNo) (a : Bool) : KeepsRuns s (s.heatChange p a) := by
  unfold State.heatChange
  split
  · exact s.trigger_keepsRuns _
  · exact s.clearCause_keepsRuns _

theorem State.cameUp_runPart (s : State) (i : ShutterNo) : (s.cameUp i).runPart = s.runPart := by
  cases i <;> simp [State.cameUp]

theorem State.homeChange_keepsRuns (s : State) (i : ShutterNo) (closed : Bool) : KeepsRuns s (s.homeChange i closed) := by
  have hlevel : KeepsRuns s (s.setShutter i { s.shutter i with homeClosed := closed }) := s.setShutter_keepsRuns id
  have hup : KeepsRuns (s.setShutter i { s.shutter i with homeClosed := closed })
      ((s.setShutter i { s.shutter i with homeClosed := closed }).setShutter i
        { (s.setShutter i { s.shutter i with homeClosed := closed }).shutter i with state := .up, armingTimer := none }) :=
    State.setShutter_keepsRuns _ fun _ => rfl
  unfold State.homeChange
  dsimp only
  split
  · refine (hlevel.trans (State.trigger_keepsRuns _ (.link i))).same ?_
    exact foldl_keeps State.runPart _ (fun v p => v.linkOut_runPart i p) _ _
  · exact (hlevel.trans hup).same (State.cameUp_runPart _ i)
  · exact hlevel

theorem releaseManual_keepsRuns (x : Unit) (s : State) : KeepsRuns s (releaseManual x s).1 := by
  unfold releaseManual
  split
  · exact .refl s
  · exact s.clearCause_keepsRuns _

theorem rearm_keepsRuns (i : ShutterNo) (s : State) : KeepsRuns s (rearm i s).1 := by
  unfold rearm
  dsimp only
  split
  · exact .refl s
  next hd =>
    split
    · exact .refl s
    · exact s.setShutter_keepsRuns fun hu => absurd (hu ▸ hd) (by simp)

theorem State.armingExpiry_keepsRuns (s : State) (i : ShutterNo) : KeepsRuns s (s.armingExpiry i) := by
  unfold State.armingExpiry
  dsimp only
  split
  next ha =>
    have hset : KeepsRuns s (s.setShutter i (s.shutter i).timedOut) :=
      s.setShutter_keepsRuns fun hu => by simp [hu] at ha
    exact hset.same rfl
  · exact .refl s

/-! ## Threading, clearing and the loop -/

theorem clearProjector_keepsRuns (p : ProjNo) (s : State) : KeepsRuns s (clearProjector p s).1 := by
  have hempty := (KeepsRuns.refl s).becomeEmpty p (s.clearedReel p)
  unfold clearProjector
  split
  · exact hempty.same rfl
  · exact (hempty.trans (State.clearCause_keepsRuns _ (.filmBreak p))).same rfl
  · exact .refl s

/-- A threaded run (R24, R39). -/
def Run.threaded (r : Run) (reel : Nat) (x : CueContext) : Run :=
  ⟨{ r.projector with runState := .threaded, loaded := some reel, assigned := none, midReel := false, douser := .closed },
    { r.tracker with counter := 0, context := some x }, ⟨true, some reel, 0⟩⟩

theorem State.thread_run (s : State) (q : ProjNo) (reel : Nat) (x : ProjNo) :
    (s.thread q reel).run x = if x = q then (s.run q).threaded reel (s.freshContext q.screen reel) else s.run x := by
  have htell : (s.thread q reel).run x = (((s.setProjector q { s.projector q with
      runState := .threaded, loaded := some reel, assigned := none, midReel := false, douser := .closed }).setTracker q
      { s.tracker q with counter := 0, context := some (s.freshContext q.screen reel) }).setRunMarks q
        ⟨true, some reel, 0⟩).run x := rfl
  rw [htell]
  by_cases hx : x = q
  · subst hx
    simp [State.run, Run.threaded]
  · simp [State.run, hx]

/-- A run that is threaded again (R25). -/
def Run.rethreaded (r : Run) : Run :=
  ⟨{ r.projector with runState := .threaded, haltCause := none, midReel := decide (0 < r.tracker.counter) }, r.tracker,
    r.marks⟩

theorem State.threadAgain_run (s : State) (q x : ProjNo) :
    (s.threadAgain q).run x = if x = q then (s.run q).rethreaded else s.run x := by
  have htell : (s.threadAgain q).run x = (s.setProjector q { s.projector q with
      runState := .threaded, haltCause := none, midReel := decide (0 < (s.tracker q).counter) }).run x := rfl
  rw [htell]
  by_cases hx : x = q
  · subst hx
    rw [if_pos rfl, State.run, State.projector_setProjector, if_pos rfl]
    rfl
  · simp [State.run, hx]

theorem State.threadedClose_keepsRuns (s : State) (p : ProjNo) : KeepsRuns s (s.threadedClose p) := by
  unfold State.threadedClose
  split
  next reel hr _ =>
    have hrun := s.thread_run p reel
    have hp : (s.thread p reel).run p = _ := (hrun p).trans (if_pos rfl)
    refine (KeepsRuns.refl s).one p rfl rfl (fun x hx => (hrun x).trans (if_neg hx)) (fun hs => ?_) fun hs => ?_
    · have hhalt : (s.projector p).haltCause = none := by simpa [hr] using hs.halted
      have hstill := hs.still (by rw [State.run_projector, hr]; rfl)
      rw [hp]
      exact ⟨by simp [Run.threaded], by simp [Run.threaded, hhalt], nofun, nofun, fun _ => hstill,
        ⟨rfl, nofun⟩, rfl, rfl⟩
    · rw [show (s.thread p reel).projector p = _ from congrArg Run.projector hp] at hs
      cases hs
  next hr =>
    have hrun : ∀ x, (s.setProjector p { s.projector p with
        runState := .threaded, haltCause := none, midReel := decide (0 < (s.tracker p).counter) }).run x =
          if x = p then (s.run p).rethreaded else s.run x := s.threadAgain_run p
    have hp := (hrun p).trans (if_pos rfl)
    have hset : KeepsRuns s (s.setProjector p { s.projector p with
        runState := .threaded, haltCause := none, midReel := decide (0 < (s.tracker p).counter) }) := by
      refine (KeepsRuns.refl s).one p rfl rfl (fun x hx => (hrun x).trans (if_neg hx)) (fun hs => ?_) fun hs => ?_
      · obtain ⟨film, halted, assigned, open_, still, marks, kept⟩ := hs
        simp only [State.run_projector, hr, reduceCtorEq, false_iff, false_or, imp_false, not_not] at film assigned open_
        have hstill := still (by rw [State.run_projector, hr]; rfl)
        rw [hp]
        exact ⟨by simpa [Run.rethreaded] using film, by simp [Run.rethreaded], by simp [Run.rethreaded, assigned],
          fun ho => absurd ho open_, fun _ => hstill, marks, kept⟩
      · rw [show State.projector _ p = _ from congrArg Run.projector hp] at hs
        cases hs
    exact (hset.trans (State.clearCause_keepsRuns _ (.filmBreak p))).same rfl
  · exact .refl s

theorem State.loopLost_keepsRuns (s : State) (p : ProjNo) : KeepsRuns s (s.loopLost p) := by
  unfold State.loopLost
  split
  next hm =>
    split
    · have hempty := (Obeys.refl s).emptyRun p hm
      split
      · exact hempty.keepsRuns
      · exact (hempty.onHalt p).keepsRuns
    · exact s.breakHalt_keepsRuns p
  · exact .refl s

theorem State.reassign_keepsRuns (s : State) (p : ProjNo) : KeepsRuns s (s.reassign p) := by
  unfold State.reassign
  split
  next he =>
    have hrun : (s.setProjector p { s.projector p with assigned := s.openingReel p }).run p =
        ⟨{ s.projector p with assigned := s.openingReel p }, s.tracker p, s.runMarks p⟩ := by simp [State.run]
    refine (KeepsRuns.refl s).one p rfl rfl (fun x hx => by simp [State.run, hx]) (fun hs => ?_) fun hs => ?_
    · rw [hrun]
      exact ⟨hs.film, hs.halted, fun _ => he, hs.open_, hs.still, hs.marks, hs.kept⟩
    · rwa [show State.projector _ p = _ from congrArg Run.projector hrun] at hs
  · exact .refl s

theorem stopRequest_keepsRuns (n : ScreenNo) (s : State) : KeepsRuns s (stopRequest n s).1 := by
  unfold stopRequest
  split
  · have harm : KeepsRuns s ((s.setShowState n .waiting).armNext n) := .of_part (State.armNext_runPart _ n)
    exact KeepsRuns.same (t := (((s.setShowState n .waiting).armNext n).reassign ⟨n, .a⟩).reassign ⟨n, .b⟩)
      ((harm.trans (State.reassign_keepsRuns _ _)).trans (State.reassign_keepsRuns _ _)) rfl
  · exact .refl s

/-! ## Rotations and show ends -/

theorem State.rotateProjector_keepsRuns (s : State) (p : ProjNo) : KeepsRuns s (s.rotateProjector p) := by
  have hend : KeepsRuns s (s.endShowing p) := .of_part (s.endShowing_runPart p)
  unfold State.rotateProjector
  dsimp only
  split
  · exact ((hend.trans (State.clearCause_keepsRuns _ _)).becomeEmpty p _).same rfl
  · exact (hend.becomeEmpty p _).same rfl

theorem State.rotation_keepsRuns (s : State) (n : ScreenNo) : KeepsRuns s (s.rotation n) := by
  have hbanks : KeepsRuns s (s.rotateBanks n) := .of_part rfl
  have hemptied := (hbanks.trans (State.rotateProjector_keepsRuns _ ⟨n, .a⟩)).trans
    (State.rotateProjector_keepsRuns _ ⟨n, .b⟩)
  refine hemptied.same ?_
  unfold State.rotation
  simp

theorem rotateRequest_keepsRuns (n : ScreenNo) (s : State) : KeepsRuns s (rotateRequest n s).1 := by
  unfold rotateRequest
  dsimp only
  split
  · exact .refl s
  · split
    · exact .refl s
    · split
      · exact .refl s
      · exact s.rotation_keepsRuns n

theorem State.clearExpiry_keepsRuns (s : State) : KeepsRuns s s.clearExpiry := by
  have hdeferred : ∀ (v : State) (n : ScreenNo), KeepsRuns v (v.deferredRotation n) := by
    intro v n
    unfold State.deferredRotation
    split
    · split
      · exact v.rotation_keepsRuns n
      · exact .of_part rfl
    · exact .refl v
  unfold State.clearExpiry
  split
  next x rest _ _ =>
    rw [State.endClear_eq]
    have hclear : KeepsRuns s (s.cleared x rest) := .of_part rfl
    exact (hclear.trans (hdeferred _ _)).same rfl
  · exact .refl s

theorem State.showEndNotices_keepsRuns (s : State) (n : ScreenNo) : KeepsRuns s (s.showEndNotices n) := by
  have hsched : ∀ v : State, KeepsRuns v (v.schedulerShowEnd n) := fun v =>
    .of_part (State.runPart_of_outsideShows (v.schedulerShowEnd_outsideShows n))
  have hhouse : ∀ v : State, KeepsRuns v (v.houseShowEnd n) := fun v => .of_part (v.fireWhere_runPart n _)
  have hbank : ∀ v : State, KeepsRuns v (v.bankShowEnd n) := by
    intro v
    unfold State.bankShowEnd
    split
    · exact v.rotation_keepsRuns n
    · split
      · exact .of_part rfl
      · exact .refl v
  have hyes : ∀ (c : Bool) (v w : State), KeepsRuns v w → KeepsRuns v (if c then w else v) := by
    intro c v w h
    cases c
    · exact .refl v
    · exact h
  have hno : ∀ (c : Bool) (v w : State), KeepsRuns v w → KeepsRuns v (if c then v else w) := by
    intro c v w h
    cases c
    · exact h
    · exact .refl v
  have hbit : KeepsRuns s s.takeBit.2.takeBit.2 := .of_part rfl
  have htell : ∀ v : State, KeepsRuns v (v.tellDuty (.screen n)) := fun _ => .of_part rfl
  unfold State.showEndNotices
  refine KeepsRuns.trans ?_ (htell _)
  split
  · exact ((((hbit.trans (hyes _ _ _ (hsched _))).trans (hyes _ _ _ (hhouse _))).trans (hbank _)).trans
      (hno _ _ _ (hsched _))).trans (hno _ _ _ (hhouse _))
  · exact ((hsched s).trans (hhouse _)).trans (hbank _)

theorem State.onPictureEnd_keepsRuns (s : State) (p : ProjNo) : KeepsRuns s (s.onPictureEnd p) := by
  have hclose := (Obeys.refl s).closeOrder p
  unfold State.onPictureEnd
  dsimp only
  split
  · split
    · split
      · exact (hclose.interrupt _).keepsRuns
      · exact ((Obeys.refl s).swapStart _ _ _ _).keepsRuns
    · exact (hclose.interrupt _).keepsRuns
    · exact (hclose.interrupt _).keepsRuns
    · exact (((hclose.modScreen _ _).clearLate _).setScreenState _ _).keepsRuns.trans (State.showEndNotices_keepsRuns _ _)
    · exact .refl s
  · exact .refl s

/-! ## Cues and pulses -/

theorem State.cueNotice_obeys (s : State) (p : ProjNo) (k : CueKind) (v : CueStatus) : Obeys s (s.cueNotice p k v) := by
  unfold State.cueNotice
  split
  · split
    · exact (Obeys.refl s).onMotorCue p
    · exact (Obeys.refl s).onChangeoverCue p
    · exact .refl s
  · exact .refl s

theorem State.settleCue_keepsRuns (s : State) (p : ProjNo) (x : CueContext) (k : CueKind) (v : CueStatus) :
    KeepsRuns s (s.settleCue p x k v) :=
  ((KeepsRuns.refl s).setContext p _).trans (State.cueNotice_obeys _ p k v).keepsRuns

theorem State.cueCheck_keepsRuns (s : State) (p : ProjNo) (c : Nat) (k : CueKind) : KeepsRuns s (s.cueCheck p c k) := by
  have hpost : ∀ a, KeepsRuns s (s.post (.tracker p) a) := fun _ => .of_part rfl
  unfold State.cueCheck
  split
  · split
    · split
      · split
        · exact (hpost _).trans (State.settleCue_keepsRuns _ _ _ _ _)
        · exact .refl s
      · split
        · exact s.settleCue_keepsRuns _ _ _ _
        · exact .refl s
    · exact .refl s
  · exact .refl s

theorem State.fallbackCue_keepsRuns (s : State) (p : ProjNo) (r : Reel) (k : CueKind) :
    KeepsRuns s (s.fallbackCue p r k) := by
  unfold State.fallbackCue
  split
  · split
    · exact s.settleCue_keepsRuns _ _ _ _
    · exact .refl s
  · exact .refl s

theorem State.cueMark_keepsRuns (s : State) (p : ProjNo) : KeepsRuns s (s.cueMark p) := by
  unfold State.cueMark
  split
  · split
    · split
      · exact s.settleCue_keepsRuns _ _ _ _
      · exact .refl s
      · unfold State.stray
        split
        · exact (KeepsRuns.refl s).setContext p _
        · exact ((((KeepsRuns.refl s).setContext p _).trans (State.fallbackCue_keepsRuns _ _ _ _)).trans
            (State.fallbackCue_keepsRuns _ _ _ _)).same rfl
    · exact .refl s
  · exact .refl s

/-- A running timer of a tracker goes off. -/
theorem KeepsRuns.timersOff (s : State) (p : ProjNo) (start stall : Option Nat)
    (h : (s.tracker p).startTimer = none → start = none) (k : (s.tracker p).stallTimer = none → stall = none) :
    KeepsRuns s (s.setTracker p { s.tracker p with startTimer := start, stallTimer := stall }) := by
  refine (KeepsRuns.refl s).one p rfl rfl (fun y hy => by simp [State.run, hy]) (fun hs => ?_) id
  have hr : (s.setTracker p { s.tracker p with startTimer := start, stallTimer := stall }).run p =
      ⟨s.projector p, { s.tracker p with startTimer := start, stallTimer := stall }, s.runMarks p⟩ := by simp [State.run]
  rw [hr]
  refine ⟨hs.film, hs.halted, hs.assigned, hs.open_, fun hm => ?_, hs.marks, hs.kept⟩
  obtain ⟨h1, h2, h3⟩ := hs.still hm
  exact ⟨h h1, k h2, h3⟩

theorem State.startFailure_keepsRuns (s : State) (p : ProjNo) : KeepsRuns s (s.startFailure p) := by
  have hoff := KeepsRuns.timersOff s p none (s.tracker p).stallTimer (fun _ => rfl) id
  unfold State.startFailure
  split
  · dsimp only
    split
    · exact hoff.trans ((Obeys.refl _).haltEvent p _).keepsRuns
    · exact hoff
  · exact .refl s

theorem State.stallExpiry_keepsRuns (s : State) (p : ProjNo) : KeepsRuns s (s.stallExpiry p) := by
  have hoff := KeepsRuns.timersOff s p (s.tracker p).startTimer none id (fun _ => rfl)
  unfold State.stallExpiry
  split
  · exact hoff.trans ((Obeys.refl _).haltEvent p _).keepsRuns
  · exact .refl s

/-- A counted pulse raises the counter in the tracker and in the run marks alike (R39, R41). -/
theorem State.counted_keepsRuns (hm : (s.projector p).runState.motor = true) (interval : Nat) :
    KeepsRuns s (s.counted p interval) := by
  have hx : ∀ x, x ≠ p → (s.counted p interval).run x = s.run x := fun x hx => by
    simp [State.run, State.counted, hx]
  refine (KeepsRuns.refl s).one p rfl rfl hx (fun hs => ?_) id
  obtain ⟨film, halted, assigned, open_, -, marks, kept⟩ := hs
  have hr : (s.counted p interval).run p = ⟨s.projector p, ((s.tracker p).pulsed interval).1,
      { s.runMarks p with counter := ((s.tracker p).pulsed interval).1.counter }⟩ := by simp [State.run]
  have hne : (s.projector p).runState ≠ .empty := fun he => by
    rw [he] at hm
    cases hm
  have hreel : (s.runMarks p).reel ≠ none := fun hn => hne (film.mpr (kept.1.symm.trans hn))
  have hfilm : (s.runMarks p).filmOn = true := marks.1.trans (Option.isSome_iff_ne_none.mpr hreel)
  rw [hr]
  exact ⟨film, halted, assigned, open_, fun hn => absurd hm (by rw [hn]; exact Bool.false_ne_true),
    ⟨marks.1, fun hf => by cases hfilm.symm.trans hf⟩, kept.1, rfl⟩

theorem State.atSpeedNotice_keepsRuns (s : State) (p : ProjNo) : KeepsRuns s (s.atSpeedNotice p) := by
  unfold State.atSpeedNotice
  split
  next hst =>
    have hrun : KeepsRuns s (s.setProjector p { s.projector p with runState := .running }) := by
      have hr : (s.setProjector p { s.projector p with runState := .running }).run p =
          ⟨{ s.projector p with runState := .running }, s.tracker p, s.runMarks p⟩ := by simp [State.run]
      refine (KeepsRuns.refl s).one p rfl rfl (fun x hx => by simp [State.run, hx]) (fun hs => ?_) fun hs => ?_
      · obtain ⟨film, halted, assigned, open_, -, marks, kept⟩ := hs
        simp only [State.run_projector, hst, reduceCtorEq, false_iff, false_or, imp_false, not_not] at film halted assigned open_
        rw [hr]
        exact ⟨by simpa using film, by simpa using halted, fun ha => absurd assigned ha, fun ho => absurd ho open_, nofun,
          marks, kept⟩
      · rw [show State.projector _ p = _ from congrArg Run.projector hr] at hs
        cases hs
    exact hrun.trans (((Obeys.refl _).onSpeed p).noteArm _).keepsRuns
  · exact ((Obeys.refl s).onSpeed p).keepsRuns

theorem State.frameChecks_keepsRuns (s : State) (p : ProjNo) (c : Nat) : KeepsRuns s (s.frameChecks p c) := by
  have hlead : ∀ v : State, KeepsRuns v (v.leadInCheck p c) := by
    intro v
    unfold State.leadInCheck
    split
    · exact ((Obeys.refl v).onLeadIn p).keepsRuns
    · exact .refl v
  have hanchor : ∀ v : State, KeepsRuns v (v.anchorCheck p c) := by
    intro v
    unfold State.anchorCheck
    split
    · exact .of_part (v.fireWhere_runPart _ _)
    · exact .refl v
  have hend : ∀ v : State, KeepsRuns v (v.endCheck p c) := by
    intro v
    unfold State.endCheck
    split
    · split
      · exact v.onPictureEnd_keepsRuns p
      · exact .refl v
    · exact .refl v
  have hlimit : ∀ v : State, KeepsRuns v (v.limitCheck p c) := by
    intro v
    unfold State.limitCheck
    split
    next hr _ =>
      split
      · exact ((Obeys.refl v).emptyRun p (by rw [hr]; rfl)).keepsRuns
      · exact .refl v
    · exact .refl v
  exact (((((hlead s).trans (State.cueCheck_keepsRuns _ _ _ _)).trans (State.cueCheck_keepsRuns _ _ _ _)).trans
    (hanchor _)).trans (hend _)).trans (hlimit _)

theorem State.sprocket_keepsRuns (s : State) (p : ProjNo) (interval : Nat) : KeepsRuns s (s.sprocket p interval) := by
  cases hm : (s.projector p).runState.motor with
  | false =>
    rw [State.sprocket_still hm]
    exact .refl s
  | true =>
    rw [State.sprocket_motor hm]
    refine (KeepsRuns.trans (State.counted_keepsRuns hm interval) ?_).trans (State.frameChecks_keepsRuns _ p _)
    split
    · exact State.atSpeedNotice_keepsRuns _ p
    · exact .refl _

/-! ## The open confirmation (R29) -/

theorem Obeys.handOver (h : Obeys s t) (p : ProjNo) : Obeys s (t.handOver p) := by
  unfold State.handOver
  split
  next hq => exact h.enterRunout _ hq
  · exact h

/-- A projector that leaves SHOWING for RUNOUT is emptied or in RUNOUT (R29, R47). -/
theorem State.enterRunout_not_showing (s : State) (q : ProjNo) : ((s.enterRunout q).projector q).runState ≠ .showing := by
  have hout : ((s.runoutRecord q).projector q).runState ≠ .showing := by
    rw [show (s.runoutRecord q).projector q = _ from congrArg Run.projector ((s.runoutRecord_run q q).trans (if_pos rfl))]
    exact nofun
  rw [State.enterRunout_eq]
  split
  · have hr := (s.runoutRecord q).emptyRun_run q q
    rw [if_pos rfl] at hr
    rw [show ((s.runoutRecord q).emptyRun q).projector q = _ from congrArg Run.projector hr]
    exact nofun
  · exact hout

theorem State.handOver_not_showing (s : State) (p : ProjNo) : ((s.handOver p).projector p.other).runState ≠ .showing := by
  unfold State.handOver
  split
  · exact s.enterRunout_not_showing p.other
  next hq => exact hq

theorem State.enterRunout_run_other {x : ProjNo} (s : State) (hx : x ≠ q) : (s.enterRunout q).run x = s.run x := by
  have hout := (s.runoutRecord_run q x).trans (if_neg hx)
  rw [State.enterRunout_eq]
  split
  · exact (((s.runoutRecord q).emptyRun_run q x).trans (if_neg hx)).trans hout
  · exact hout

/-- The hand-over leaves the projector that takes the screen. -/
theorem State.handOver_run (s : State) (p : ProjNo) : (s.handOver p).run p = s.run p := by
  unfold State.handOver
  split
  · exact s.enterRunout_run_other (ProjNo.other_ne p).symm
  · rfl

/-- The entry of a projector into SHOWING, its showing notice to the arc unit with it (R29). -/
def State.entered (s : State) (p : ProjNo) : State :=
  ((s.handOver p).setProjector p { (s.handOver p).projector p with runState := .showing }).arcShowing p

theorem State.confirmOpen_eq (s : State) (p : ProjNo) :
    s.confirmOpen p = (((s.entered p).entryCues p).onShowing p).entryEnd p := rfl

/-- A run that shows. -/
def Run.showing (r : Run) : Run := ⟨{ r.projector with runState := .showing }, r.tracker, r.marks⟩

theorem State.entered_run (s : State) (p x : ProjNo) :
    (s.entered p).run x = if x = p then (s.run p).showing else (s.handOver p).run x := by
  have hset : (s.entered p).run x = _ := State.run_congr (State.arcShowing_runPart _ p) x
  rw [hset, ← s.handOver_run p]
  by_cases hx : x = p
  · subst hx
    simp [State.run, Run.showing]
  · simp [State.run, hx]

theorem ProjNo.other_other (p : ProjNo) : p.other.other = p := by
  obtain ⟨n, d⟩ := p
  cases d <;> rfl

/-- The open confirmation of a RUNNING projector with its port UP: the other one is SHOWING no more (R29). -/
theorem State.entered_keepsProjectors (hp : (s.projector p).runState = .running) (hup : s.permit p = true) :
    KeepsProjectors s (s.entered p) := by
  have ho := (Obeys.refl s).handOver p
  have hpart : ∀ v : State, (v.arcShowing p).runPart = v.runPart := fun v => v.arcShowing_runPart p
  have hpow : (s.entered p).powered = s.powered :=
    (congrArg RunPart.powered (hpart _)).trans ho.keepsRuns.powered
  refine ⟨hpow, fun hon hs => ?_⟩
  obtain ⟨hruns, -, hport⟩ := (State.projectorsSound_iff hon).mp hs
  have hrun := s.entered_run p
  have hproj : ∀ x, (s.entered p).projector x = if x = p then { s.projector p with runState := .showing }
      else (s.handOver p).projector x := fun x => by
    have h := congrArg Run.projector (hrun x)
    rw [apply_ite Run.projector] at h
    exact h
  have hnot : ∀ x, x ≠ p → ((s.entered p).projector x).runState = .showing → x ≠ p.other ∧
      (s.projector x).runState = .showing := by
    intro x hx hshow
    rw [hproj, if_neg hx] at hshow
    exact ⟨fun he => s.handOver_not_showing p (he ▸ hshow), ho.showing hshow⟩
  refine (State.projectorsSound_iff (hpow.trans hon)).mpr ⟨fun x => ?_, fun x hx hother => ?_, fun x hx => ?_⟩
  · rw [hrun]
    split
    · obtain ⟨film, halted, assigned, -, -, marks, kept⟩ := hruns p
      simp only [State.run_projector, hp, reduceCtorEq, false_iff, imp_false, not_not] at film halted assigned
      exact ⟨by simpa [Run.showing] using film, by simpa [Run.showing] using halted, fun ha => absurd assigned ha,
        fun _ => .inr rfl, nofun, marks, kept⟩
    · exact ho.keepsRuns.sound x (hruns x)
  · by_cases hxp : x = p
    · subst hxp
      exact (hnot _ (ProjNo.other_ne x) hother).1 rfl
    · by_cases hop : x.other = p
      · exact (hnot x hxp hx).1 (by rw [← hop, ProjNo.other_other])
      · exact hs.single x (hnot x hxp hx).2 (hnot _ hop hother).2
  · have hcalm : (s.entered p).calm = s.calm := by simp [State.entered]
    rw [State.shutter, State.shutterUnit_of_calm hcalm, ← State.shutter]
    by_cases hxp : x = p
    · rw [hxp]
      exact of_decide_eq_true hup
    · exact hport x (hnot x hxp hx).2

theorem State.onShowing_keepsRuns (s : State) (p : ProjNo) : KeepsRuns s (s.onShowing p) := by
  have hopen : KeepsRuns s (s.openDone p.screen p) := by
    have hshow := (Obeys.refl s).beginShowing p.screen p
    unfold State.openDone
    dsimp only
    have hcues : Obeys s (if ((s.beginShowing p.screen p).screen p.screen).state = .final then s.beginShowing p.screen p
        else (s.beginShowing p.screen p).takeOldCues p) := by
      split
      · exact hshow
      · exact hshow.takeOldCues p
    generalize (if ((s.beginShowing p.screen p).screen p.screen).state = .final then s.beginShowing p.screen p
      else (s.beginShowing p.screen p).takeOldCues p) = w at hcues ⊢
    split
    · exact hcues.keepsRuns.trans (State.onPictureEnd_keepsRuns _ p)
    · exact hcues.keepsRuns
  unfold State.onShowing
  dsimp only
  split
  · split
    · split
      · exact hopen
      · exact .refl s
    · split
      · exact ((Obeys.refl s).swapDone _ p).keepsRuns
      · exact .refl s
    · exact .refl s
  · exact .refl s

@[simp] theorem State.entryCues_runPart (s : State) (p : ProjNo) : (s.entryCues p).runPart = s.runPart := by
  unfold State.entryCues
  split
  · rfl
  · dsimp only
    split <;> simp

theorem State.entryEnd_keepsRuns (s : State) (p : ProjNo) : KeepsRuns s (s.entryEnd p) := by
  unfold State.entryEnd
  split
  · exact s.onPictureEnd_keepsRuns p
  · exact .refl s

theorem State.douserOpens_keepsProjectors (s : State) (p : ProjNo) : KeepsProjectors s (s.douserOpens p) := by
  unfold State.douserOpens
  split
  next hr =>
    split
    next hup =>
      have hp : (s.projector p).runState = .running := by simpa using (Bool.and_eq_true_iff.mp hr).1
      have hrest : KeepsRuns (s.entered p) (s.confirmOpen p) :=
        (((KeepsRuns.of_part (State.entryCues_runPart _ p)).trans (State.onShowing_keepsRuns _ p)).trans
          (State.entryEnd_keepsRuns _ p))
      exact (State.entered_keepsProjectors hp hup).trans hrest.keepsProjectors
    · exact ((Obeys.refl s).haltEvent p _).keepsRuns.keepsProjectors
  · exact (KeepsRuns.refl s).keepsProjectors

/-! ## The clock, the supplies and the tick -/

theorem State.oneSecond_keepsRuns (s : State) : KeepsRuns s s.oneSecond := by
  have hcheck : ∀ (v : State) (n : ScreenNo), KeepsRuns v (v.checkInstants n) := fun v n =>
    ((KeepsRuns.of_part (v.callReached_runPart n)).trans ((Obeys.refl _).startReached n).keepsRuns).same
      (State.holdReached_runPart _ n)
  have hmark : ∀ v : State, v.markOverdue.runPart = v.runPart := by
    intro v
    unfold State.markOverdue
    dsimp only
    rw [foldl_keeps State.runPart (fun (t : State) (e : DutyEntry) => t.post .dutyUnit (.overdue e.key)) fun _ _ => rfl]
    rfl
  have hclock : KeepsRuns s (State.markOverdue { s with clock := s.clock.second }) := .of_part (hmark _)
  exact hclock.trans (KeepsRuns.foldl hcheck _ _)

theorem State.mainsPulse_keepsRuns (s : State) : KeepsRuns s s.mainsPulse := by
  unfold State.mainsPulse
  split
  · exact s.oneSecond_keepsRuns
  · exact .of_part rfl

theorem State.tick_keepsRuns (s : State) : KeepsRuns s s.tick := by
  unfold State.tick
  split
  · have htrack : ∀ p, (s.trackers.map Tracker.tick).get p = (s.tracker p).tick := fun p => ByProj.get_map _ _ _
    have hport : ∀ i, (s.shutterUnit.shutters.map Shutter.tick).get i = (s.shutter i).tick := fun i => ByShutter.get_map _ _ _
    refine ⟨rfl, fun p hs => ⟨hs.film, hs.halted, hs.assigned, hs.open_, fun hm => ?_, hs.marks, hs.kept.1, ?_⟩,
      fun _ hp => hp, fun p _ hu => ?_⟩
    · obtain ⟨h1, h2, h3⟩ := hs.still hm
      simp only [State.run, State.tracker, htrack, Tracker.tick]
      exact ⟨congrArg countDown h1, congrArg countDown h2, h3⟩
    · simp only [State.run, State.tracker, htrack]
      exact hs.kept.2
    · simp only [State.shutter, hport]
      exact hu
  · exact .refl s

theorem State.ProjectorsSound.powerLost (h : s.ProjectorsSound) : s.powerLost.ProjectorsSound := by
  have hp : ∀ p, s.powerLost.projector p = .blank := fun p => ByProj.get_const _ p
  have hk : ∀ p, s.powerLost.tracker p = .blank := fun p => ByProj.get_const _ p
  constructor
  case marks => exact h.marks
  case kept => exact nofun
  case still => exact fun p _ => by rw [hk]; exact ⟨rfl, rfl, rfl⟩
  all_goals
    intro p
    simp [hp, Projector.blank]

/-- A projector comes up HALTED with the reel of its run marks, or EMPTY (R39, R59). -/
theorem State.ProjectorsSound.powerOn (h : s.ProjectorsSound) : s.powerOn.ProjectorsSound := by
  have hmarks : ∀ p, (s.powerOn.runMarks p).filmOn = (s.powerOn.runMarks p).reel.isSome ∧
      ((s.powerOn.runMarks p).filmOn = false → (s.powerOn.runMarks p).counter = 0) := by
    intro p
    rw [State.runMarks, s.powerOn_retained]
    cases hm : s.retained.markerValid with
    | true =>
      rw [State.setupStore_valid hm]
      exact h.marks p
    | false =>
      rw [State.setupStore_invalid hm]
      have hd : Retained.default.runMarks.get p = ⟨false, none, 0⟩ := ByProj.get_const _ p
      exact hd ▸ ⟨rfl, fun _ => rfl⟩
  have hm' : ∀ p, s.setupStore.setupClears.runMarks p = s.powerOn.runMarks p := fun p => by
    rw [State.runMarks, State.runMarks, s.powerOn_retained]
  have hp : ∀ p, s.powerOn.projector p = s.setupStore.setupClears.projectorUp p := fun p => by
    rw [s.powerOn_eq]
    exact ByProj.get_ofFn _ p
  have ht : ∀ p, s.powerOn.tracker p = s.setupStore.setupClears.setupProjectors.trackerUp p := fun p => by
    rw [s.powerOn_eq]
    exact ByProj.get_ofFn _ p
  have hpow : s.powerOn.powered = true := by rw [s.powerOn_eq]; rfl
  have hnot : ∀ p, (s.powerOn.projector p).runState ≠ .showing := by
    intro p
    rw [hp, State.projectorUp]
    split <;> simp [Projector.blank]
  refine (State.projectorsSound_iff hpow).mpr ⟨fun p => ?_, fun p hs => absurd hs (hnot p), fun p hs => absurd hs (hnot p)⟩
  have hmp : s.setupStore.setupClears.setupProjectors.runMarks p = s.powerOn.runMarks p := hm' p
  rw [State.run, hp, ht, State.projectorUp, State.trackerUp, hm', hmp]
  obtain ⟨h1, h2⟩ := hmarks p
  generalize s.powerOn.runMarks p = r at h1 h2
  cases hf : r.filmOn with
  | true =>
    have hreel : r.reel ≠ none := Option.isSome_iff_ne_none.mp (h1.symm.trans hf)
    simp only [if_true]
    exact ⟨by simp [hreel], by simp, nofun, nofun, fun _ => ⟨rfl, rfl, rfl⟩, ⟨h1, h2⟩, rfl, rfl⟩
  | false =>
    have hreel : r.reel = none := by simpa [hf] using h1.symm
    simp only [Bool.false_eq_true, if_false]
    exact ⟨by simp [Projector.blank], by simp [Projector.blank], fun _ => rfl, nofun, fun _ => ⟨rfl, rfl, rfl⟩, ⟨h1, h2⟩,
      hreel, h2 hf⟩

end Sys2Proof.Machine
end

section
/-! Every step keeps the projectors sound (R21, R23, R28, R29, R32, R39, R44). -/

namespace Sys2Proof.Machine

variable {s t : State}

/-- A confirmed closing ends its watch, and nothing of the runs. -/
theorem State.douserCloses_runPart (s : State) (p : ProjNo) : (s.douserCloses p).runPart = s.runPart := by
  unfold State.douserCloses
  split
  · rfl
  · rfl

theorem State.watchExpiry_runPart (s : State) (n : ScreenNo) : (s.watchExpiry n).runPart = s.runPart := by
  unfold State.watchExpiry
  split
  · rfl
  · rfl

theorem State.standbyLost_runPart (s : State) : s.standbyLost.runPart = s.runPart := by
  unfold State.standbyLost
  split
  · rfl
  · rfl

theorem State.buttonCloses_keepsRuns (s : State) : KeepsRuns s ((s.setButton true).trigger .manual) :=
  (KeepsRuns.of_part (s := s) (t := s.setButton true) rfl).trans ((s.setButton true).trigger_keepsRuns .manual)

/-- Every command keeps the projectors sound. -/
theorem exec_projectorsSound {c : Instr} (hs : s.ProjectorsSound) (h : exec c s = .next t) : t.ProjectorsSound := by
  cases c with
  | readBanks => exact request_keeps (show execReadBanks _ _ s = _ from h) (fun _ _ => .of_part rfl) hs
  | readProjector => exact request_keeps (show execReadProjector _ _ s = _ from h) (fun _ _ => .of_part rfl) hs
  | readTracker => exact request_keeps (show execReadTracker _ _ s = _ from h) (fun _ _ => .of_part rfl) hs
  | readScreen => exact request_keeps (show execReadScreen _ _ s = _ from h) (fun _ _ => .of_part rfl) hs
  | readArc => exact request_keeps (show execReadArc _ _ s = _ from h) (fun _ _ => .of_part rfl) hs
  | readShutter => exact request_keeps (show execReadShutter _ _ s = _ from h) (fun _ _ => .of_part rfl) hs
  | readDropMap => exact request_keeps (show execReadDropMap _ _ s = _ from h) (fun _ _ => .of_part rfl) hs
  | readHouse => exact request_keeps (show execReadHouse _ _ s = _ from h) (fun _ _ => .of_part rfl) hs
  | readStanding => exact request_keeps (show execReadStanding _ _ s = _ from h) (fun _ _ => .of_part rfl) hs
  | readShow => exact request_keeps (show execReadShow _ _ s = _ from h) (fun _ _ => .of_part rfl) hs
  | readAttention => exact request_keeps (show execReadAttention _ _ s = _ from h) (fun _ _ => .of_part rfl) hs
  | deleteStanding => exact request_keeps (show execDeleteStanding _ _ s = _ from h) (fun _ _ => .of_part rfl) hs
  | silence => exact request_keeps (show execSilence _ _ s = _ from h) (fun _ _ => .of_part rfl) hs
  | writeHeader =>
      exact request_keeps (show execWriteHeader _ _ _ _ _ s = _ from h)
        (fun x v => .of_part (contentWrite_runPart v _ x)) hs
  | writeReel =>
      exact request_keeps (show execWriteReel _ _ _ _ _ _ _ _ _ s = _ from h)
        (fun x v => .of_part (contentWrite_runPart v _ x)) hs
  | writeCue =>
      exact request_keeps (show execWriteCue _ _ _ _ _ _ _ _ s = _ from h)
        (fun x v => .of_part (contentWrite_runPart v _ x)) hs
  | deleteCue =>
      exact request_keeps (show execDeleteCue _ _ _ s = _ from h) (fun x v => .of_part (contentWrite_runPart v _ x)) hs
  | readBankItem =>
      exact request_keeps (show execReadBankItem _ _ _ _ s = _ from h)
        (fun x v => .of_part (readItem_runPart v _ _ x)) hs
  | readScene =>
      exact request_keeps (show execReadScene _ _ _ s = _ from h) (fun n v => .of_part (readScene_runPart v _ n)) hs
  | readDuty => exact serve_keeps (show execReadDuty _ _ s = _ from h) (fun v => .of_part (readDuty_runPart v _)) hs
  | readStatus =>
      exact request_keeps (show execReadStatus _ _ s = _ from h) (fun x v => .of_part (readStatus_runPart v _ x)) hs
  | commitBank =>
      exact request_keeps (show execCommitBank _ _ s = _ from h) (fun n v => .of_part (commit_runPart v n)) hs
  | reopenBank =>
      exact request_keeps (show execReopenBank _ _ s = _ from h) (fun n v => .of_part (reopen_runPart v n)) hs
  | rotate => exact request_keeps (show execRotate _ _ s = _ from h) rotateRequest_keepsRuns hs
  | clearComplete => exact event_keeps (show execClearComplete s = _ from h) State.clearExpiry_keepsRuns hs
  | clearProjector => exact request_keeps (show execClearProjector _ _ s = _ from h) clearProjector_keepsRuns hs
  | stopProjector =>
      exact request_keeps (show execStopProjector _ _ s = _ from h)
        (fun p v => ((Obeys.refl v).haltEvent p .stop).keepsRuns) hs
  | threadedSwitchClose p =>
      exact event_keeps (show execThreadedSwitchClose _ s = _ from h) (fun v => v.threadedClose_keepsRuns p) hs
  | loopLost p => exact event_keeps (show execLoopLost _ s = _ from h) (fun v => v.loopLost_keepsRuns p) hs
  | douserOpenSwitchClose p =>
      exact event_projectorsSound (show execDouserOpenSwitchClose _ s = _ from h)
        (fun v => v.douserOpens_keepsProjectors p) hs
  | douserClosedSwitchClose p =>
      exact event_keeps (show execDouserClosedSwitchClose _ s = _ from h)
        (fun v => .of_part (v.douserCloses_runPart p)) hs
  | sprocketPulse p i =>
      exact event_keeps (show execSprocketPulse _ _ s = _ from h) (fun v => v.sprocket_keepsRuns p i) hs
  | cueMarkPulse p => exact event_keeps (show execCueMarkPulse _ s = _ from h) (fun v => v.cueMark_keepsRuns p) hs
  | startFailureTimerExpiry p =>
      exact event_keeps (show execStartFailureTimerExpiry _ s = _ from h) (fun v => v.startFailure_keepsRuns p) hs
  | stallTimerExpiry p =>
      exact event_keeps (show execStallTimerExpiry _ s = _ from h) (fun v => v.stallExpiry_keepsRuns p) hs
  | setCuePolicy =>
      exact request_keeps (show execSetCuePolicy _ _ _ _ s = _ from h)
        (fun n v => .of_part (setCuePolicy_runPart v _ _ n)) hs
  | confirmationTimerExpiry n =>
      exact event_keeps (show execConfirmationTimerExpiry _ s = _ from h)
        (fun v => ((Obeys.refl v).confirmExpiry n).keepsRuns) hs
  | closeWatchExpiry n =>
      exact event_keeps (show execCloseWatchExpiry _ s = _ from h) (fun v => .of_part (v.watchExpiry_runPart n)) hs
  | changeNow =>
      exact request_keeps (show execChangeNow _ _ s = _ from h) (fun n v => ((Obeys.refl v).changeNow n).keepsRuns) hs
  | setMonitor =>
      exact request_keeps (show execSetMonitor _ _ _ s = _ from h) (fun x v => .of_part (setMonitor_runPart v _ x)) hs
  | bellCadence => exact event_keeps (show execBellCadence s = _ from h) (fun _ => .of_part rfl) hs
  | strike => exact request_keeps (show execStrike _ _ s = _ from h) (fun p v => .of_part (strike_runPart v p)) hs
  | touchTimerExpiry p =>
      exact event_keeps (show execTouchTimerExpiry _ s = _ from h) (fun v => .of_part (v.touchExpiry_runPart p)) hs
  | proofTimerExpiry p =>
      exact event_keeps (show execProofTimerExpiry _ s = _ from h) (fun v => .of_part (v.proofExpiry_runPart p)) hs
  | pauseTimerExpiry p =>
      exact event_keeps (show execPauseTimerExpiry _ s = _ from h) (fun v => .of_part (v.pauseExpiry_runPart p)) hs
  | arcPresentReport p =>
      exact pinEvent_keeps (show execArcPresentReport _ s = _ from h) (fun v => .of_part (v.arcReported_runPart p)) hs
  | arcReportCeases p =>
      exact pinEvent_keeps (show execArcReportCeases _ s = _ from h) (fun v => .of_part (v.arcCeased_runPart p)) hs
  | lossTimerExpiry p =>
      exact event_keeps (show execLossTimerExpiry _ s = _ from h) (fun v => .of_part (v.lossExpiry_runPart p)) hs
  | extinguish =>
      exact request_keeps (show execExtinguish _ _ s = _ from h) (fun p v => .of_part (extinguish_runPart v p)) hs
  | craterContactChange p =>
      exact pinEvent_keeps (show execCraterContactChange _ _ _ s = _ from h)
        (fun v => .of_part (v.craterChange_runPart p)) hs
  | feedHighPhaseEnd p =>
      exact event_keeps (show execFeedHighPhaseEnd _ s = _ from h) (fun v => .of_part (v.highEnd_runPart p)) hs
  | feedLowPhaseEnd p =>
      exact event_keeps (show execFeedLowPhaseEnd _ s = _ from h) (fun v => .of_part (v.lowEnd_runPart p)) hs
  | retrimDone =>
      exact request_keeps (show execRetrimDone _ _ _ s = _ from h) (fun p v => .of_part (retrimDone_runPart v _ p)) hs
  | setArc =>
      exact request_keeps (show execSetArc _ _ _ _ _ _ s = _ from h)
        (fun p v => .of_part (setArcSettings_runPart v _ _ _ _ p)) hs
  | setDropMap =>
      exact request_keeps (show execSetDropMap _ _ _ s = _ from h) (fun k v => .of_part (setDropMap_runPart v _ k)) hs
  | fireLoopActive => exact pinEvent_keeps (show execFireLoopActive s = _ from h) State.loopActive_keepsRuns hs
  | fireLoopInactive => exact pinEvent_keeps (show execFireLoopInactive s = _ from h) State.loopInactive_keepsRuns hs
  | dropButtonClose => exact pinEvent_keeps (show execDropButtonClose s = _ from h) State.buttonCloses_keepsRuns hs
  | dropButtonOpen => exact pinEvent_keeps (show execDropButtonOpen s = _ from h) (fun _ => .of_part rfl) hs
  | dropAll => exact request_keeps (show execDropAll _ _ s = _ from h) (fun _ v => v.trigger_keepsRuns .manual) hs
  | releaseManual => exact request_keeps (show execReleaseManual _ _ s = _ from h) releaseManual_keepsRuns hs
  | gateHeatChange p active =>
    refine pinEvent_keeps (show execGateHeatChange _ _ s = _ from h) (fun v => ?_) hs
    split
    · exact .refl v
    · exact v.heatChange_keepsRuns p active
  | homeSwitchChange i closed =>
    refine pinEvent_keeps (show execHomeSwitchChange _ _ s = _ from h) (fun v => ?_) hs
    split
    · exact .refl v
    · exact v.homeChange_keepsRuns i closed
  | clearLink =>
      exact request_keeps (show execClearLink _ _ s = _ from h) (fun i v => v.clearCause_keepsRuns (.link i)) hs
  | rearm => exact request_keeps (show execRearm _ _ s = _ from h) rearm_keepsRuns hs
  | armingTimerExpiry i =>
      exact event_keeps (show execArmingTimerExpiry _ s = _ from h) (fun v => v.armingExpiry_keepsRuns i) hs
  | setLevel =>
      exact request_keeps (show execSetLevel _ _ _ _ s = _ from h) (fun c v => .of_part (setLevel_runPart v _ _ c)) hs
  | fadeAdvance c => exact event_keeps (show execFadeAdvance _ s = _ from h) (fun _ => .of_part rfl) hs
  | setScene =>
      exact request_keeps (show execSetScene _ _ _ _ _ _ _ s = _ from h)
        (fun n v => .of_part (setScene_runPart v _ _ n)) hs
  | recallScene =>
      exact request_keeps (show execRecallScene _ _ _ _ s = _ from h)
        (fun n v => .of_part (recallScene_runPart v _ _ n)) hs
  | curtain =>
      exact request_keeps (show execCurtain _ _ _ s = _ from h) (fun n v => .of_part (moveCurtain_runPart v _ n)) hs
  | limitSwitchChange n limit closed =>
    refine pinEvent_keeps (show execLimitSwitchChange _ _ _ s = _ from h) (fun v => ?_) hs
    split
    · exact .refl v
    · exact .of_part rfl
  | travelTimerExpiry n =>
      exact event_keeps (show execTravelTimerExpiry _ s = _ from h) (fun v => .of_part (v.travelExpiry_runPart n)) hs
  | setCurtainTime =>
      exact request_keeps (show execSetCurtainTime _ _ _ s = _ from h)
        (fun n v => .of_part (setCurtainTime_runPart v _ n)) hs
  | setStanding =>
      exact request_keeps (show execSetStanding _ _ _ _ _ _ _ _ s = _ from h)
        (fun k v => .of_part (setStanding_runPart v _ k)) hs
  | releaseHold =>
      exact request_keeps (show execReleaseHold _ _ s = _ from h) (fun k v => .of_part (releaseHold_runPart v k)) hs
  | mainsPulse => exact event_keeps (show execMainsPulse s = _ from h) State.mainsPulse_keepsRuns hs
  | oneSecondEvent => exact event_keeps (show execOneSecondEvent s = _ from h) State.oneSecond_keepsRuns hs
  | setClock =>
      exact request_keeps (show execSetClock _ _ _ s = _ from h) (fun x v => .of_part (setClock_runPart v _ x)) hs
  | setStarts =>
      exact request_keeps (show execSetStarts _ _ _ s = _ from h) (fun x v => .of_part (setStarts_runPart v _ x)) hs
  | callInstant n =>
      exact event_keeps (show execCallInstant _ s = _ from h) (fun v => .of_part (v.callReached_runPart n)) hs
  | startInstant n =>
      exact event_keeps (show execStartInstant _ s = _ from h) (fun v => ((Obeys.refl v).startReached n).keepsRuns) hs
  | holdLimit n =>
      exact event_keeps (show execHoldLimit _ s = _ from h) (fun v => .of_part (v.holdReached_runPart n)) hs
  | startShow =>
      exact request_keeps (show execStartShow _ _ s = _ from h)
        (fun n v => ((Obeys.refl v).startRequest n).keepsRuns) hs
  | stopShow => exact request_keeps (show execStopShow _ _ s = _ from h) stopRequest_keepsRuns hs
  | receiveCharacter =>
      exact pinEvent_keeps (show execReceiveCharacter _ _ _ _ s = _ from h)
        (fun v => .of_part (v.character_runPart _ _ _ _ _)) hs
  | gapTimerExpiry st =>
      exact event_keeps (show execGapTimerExpiry _ s = _ from h) (fun v => .of_part (v.gapExpiry_runPart st)) hs
  | replyComplete => exact event_keeps (show execReplyComplete _ s = _ from h) (fun _ => .of_part rfl) hs
  | lineBreakReset st =>
      exact event_keeps (show execLineBreakReset _ s = _ from h) (fun v => .of_part (v.lineBreak_runPart st)) hs
  | setLine =>
      exact request_keeps (show execSetLine _ _ _ s = _ from h) (fun x v => .of_part (setLine_runPart v _ _ x)) hs
  | armAttention =>
      exact request_keeps (show execArmAttention _ _ _ s = _ from h)
        (fun x v => .of_part (armAttention_runPart v _ _ x)) hs
  | rxdLevelChange => exact pinEvent_keeps (show execRxdLevelChange _ _ s = _ from h) (fun _ => .of_part rfl) hs
  | powerOnReset => cases h; exact hs.powerOn
  | mainPowerLoss => cases h; exact hs.powerLost
  | standbySupplyLoss => cases h; exact hs.congr s.standbyLost_runPart

/-- Settles O25: each command from its own lemma above, and a millisecond from the timers that it counts down. -/
theorem stepsKeepProjectorsSound : Obligations.StepsKeepProjectorsSound := by
  intro s t hs h
  unfold step at h
  split at h
  · cases h
    by_cases hp : s.powered = true
    · exact s.tick_keepsRuns.keepsProjectors.sound hp hs
    · rwa [State.tick, if_neg hp]
  next rest _ =>
    have hq : ({ s with pending := rest } : State).ProjectorsSound := hs.congr rfl
    exact exec_projectorsSound hq h

end Sys2Proof.Machine
end

section
/-! The monitor, the bell (R81, R83), and the output lines (log entry 24). -/

namespace Sys2Proof.Machine

variable {s : State} {p : ProjNo} {n : ScreenNo}

/-! ## The monitor -/

theorem monitorOf_zero : monitorOf 0 = some .follow := if_pos rfl

theorem screenOf_code {x : Byte} (h : screenOf x = some n) : n.code = x.toNat :=
  of_decide_eq_true (List.find?_some (p := fun y : ScreenNo => decide (y.code = x.toNat)) h)

theorem screenOf_above {x : Byte} (h : 4 < x.toNat) : screenOf x = none := by
  simp only [screenOf, named, List.find?_eq_none, decide_eq_true_eq]
  intro n _ hn
  have : n.code ≤ 4 := by cases n <;> decide
  omega

theorem monitorOf_screen {x : Byte} (h : screenOf x = some n) : monitorOf x = some (.screen n) := by
  have hx : x ≠ 0 := by
    rintro rfl
    have hc := screenOf_code h
    cases n <;> exact absurd hc (by decide)
  rw [monitorOf, if_neg hx, h, Option.map_some]

theorem monitorOf_above {x : Byte} (h : 4 < x.toNat) : monitorOf x = none := by
  have hx : x ≠ 0 := by
    rintro rfl
    exact absurd h (by decide)
  rw [monitorOf, if_neg hx, screenOf_above h, Option.map_none]

theorem setMonitor_some {x : Byte} {m : Monitor} (h : monitorOf x = some m) :
    setMonitor x () s = ({ s with retained := { s.retained with monitor := m } }, .ok []) := by
  rw [setMonitor, h]

theorem setMonitor_none {x : Byte} (h : monitorOf x = none) : setMonitor x () s = refuse .range s := by
  rw [setMonitor, h]

theorem passes_setMonitor (x : Byte) : Passes (.setMonitor .console 0 x) .console ⟨0x32#8, 0, [x]⟩ :=
  ⟨rfl, rfl, Nat.le_of_ble_eq_true rfl⟩

theorem passes_silence : Passes (.silence .console 0) .console ⟨0x33#8, 0, []⟩ := ⟨rfl, rfl, Nat.zero_le _⟩

/-! ## The bell -/

/-- A bell with no requester ringing is off, and its cadence idle. -/
theorem Bell.settle_quiet {b : Bell} (h : b.ringing = false) : b.settle = { b with output := false, cadenceLeft := none } :=
  if_neg (by rw [h]; decide)

/-- A requester whose silenced mark has been set does not ring. -/
theorem silenced_ne (x : Option Bool) : x.map (fun _ => true) ≠ some false := by
  cases x with
  | none => nofun
  | some _ => nofun

theorem Bell.not_ringing {b : Bell} (hl : ∀ n, b.late.get n ≠ some false) (hh : ∀ n, b.held.get n ≠ some false) :
    b.ringing = false := by
  simp [Bell.ringing, hl, hh]

theorem map_true_eq (x : Option Bool) : x.map (fun _ => true) = if x.isSome then some true else none := by
  cases x with
  | none => rfl
  | some _ => rfl

/-- What SILENCE leaves of the bell (R83). -/
theorem Bell.silence_spec (b : Bell) : b.silence.output = false ∧ b.silence.cadenceLeft = none ∧
    (∀ n, b.silence.late.get n = if (b.late.get n).isSome then some true else none) ∧
    (∀ n, b.silence.held.get n = if (b.held.get n).isSome then some true else none) := by
  have hquiet := Bell.settle_quiet <| Bell.not_ringing (b := { b with
      late := b.late.map fun x : Option Bool => x.map fun _ => true
      held := b.held.map fun x : Option Bool => x.map fun _ => true })
    (fun n => by rw [ByScreen.get_map]; exact silenced_ne _) (fun n => by rw [ByScreen.get_map]; exact silenced_ne _)
  rw [Bell.silence, hquiet]
  exact ⟨rfl, rfl, fun n => (ByScreen.get_map _ _ n).trans (map_true_eq _),
    fun n => (ByScreen.get_map _ _ n).trans (map_true_eq _)⟩

theorem Bell.cadence_running {b : Bell} {left : Nat} (h : b.cadenceLeft = some left) :
    b.cadence = { b with output := !b.output, cadenceLeft := some 500 } := by
  rw [Bell.cadence, h]

theorem Bell.cadence_idle {b : Bell} (h : b.cadenceLeft = none) : b.cadence = b := by
  rw [Bell.cadence, h]

theorem exec_bellCadence (h : s.Awake) : exec .bellCadence s = .next (s.setBell s.booth.bell.cadence) :=
  event_of_quiet h (fun s => s.setBell s.booth.bell.cadence) h.work

/-! ## The output lines -/

/-- The motor states (R23). -/
theorem RunState.motor_iff (r : RunState) :
    r.motor = true ↔ r = .starting ∨ r = .running ∨ r = .showing ∨ r = .runout := by
  cases r <;> simp [RunState.motor]

/-- The contactor (Table 26). -/
theorem State.contactor_iff : s.contactor p = true ↔ (s.arc p).state = .burning ∨
    ((s.arc p).state = .striking ∧ ∃ left, (s.arc p).phase = some ⟨.touch, left⟩ ∨ (s.arc p).phase = some ⟨.proof, left⟩) := by
  unfold State.contactor
  split
  case h_1 h => simp [h]
  case h_2 t h ht =>
    obtain ⟨ph, left⟩ := t
    cases ph <;> simp [h, ht]
  case h_3 hb hs =>
    constructor
    · nofun
    · rintro (h | ⟨h, left, ht | ht⟩)
      · exact (hb h).elim
      · exact (hs _ h ht).elim
      · exact (hs _ h ht).elim

/-- The striker (Table 26). -/
theorem State.striker_iff :
    s.striker p = true ↔ (s.arc p).state = .striking ∧ ∃ left, (s.arc p).phase = some ⟨.touch, left⟩ := by
  unfold State.striker
  split
  case h_1 t h ht =>
    obtain ⟨ph, left⟩ := t
    cases ph <;> simp [h, ht]
  case h_2 hs =>
    constructor
    · nofun
    · rintro ⟨h, left, ht⟩
      exact (hs _ h ht).elim

/-- The carbon feed motor (R95). -/
theorem State.feedMotor_iff : s.feedMotor p = true ↔ ∃ high low left, (s.arc p).train = .high high low left := by
  unfold State.feedMotor
  split
  next high low left h => exact ⟨fun _ => ⟨high, low, left, h⟩, fun _ => rfl⟩
  next h =>
    constructor
    · nofun
    · rintro ⟨a, b, c, ht⟩
      exact (h a b c ht).elim

/-- Settles O32: the bodies of the two requests and of the cadence, then each line from its record. -/
theorem monitorAndBell : Obligations.MonitorAndBell := by
  refine ⟨fun s h => ⟨?_, fun x n hn => ?_, fun x hx => ?_, ?_, fun left hl => ?_, fun hl => ?_⟩,
    fun s n p => ⟨fun h => ?_, fun h => ?_, ?_, ?_, State.contactor_iff, State.striker_iff, State.feedMotor_iff, ?_, ?_⟩⟩
  · exact (passes_setMonitor 0).answers h rfl (setMonitor_some monitorOf_zero) h.work
  · exact (passes_setMonitor x).answers h rfl (setMonitor_some (monitorOf_screen hn)) h.work
  · exact (passes_setMonitor x).refuses h rfl (setMonitor_none (monitorOf_above hx))
  · exact ⟨_, passes_silence.answers h rfl rfl h.work, s.booth.bell.silence_spec⟩
  · rw [exec_bellCadence h.toAwake, Bell.cadence_running hl]
  · rw [exec_bellCadence h.toAwake, Bell.cadence_idle hl]
    rfl
  · rw [State.monitorOutput, h]
  · rw [State.monitorOutput, h]
  · exact RunState.motor_iff _
  · exact decide_eq_true_iff
  · exact decide_eq_true_iff
  · exact decide_eq_true_iff

end Sys2Proof.Machine
end

section
/-! STOP_PROJECTOR and CLEAR_PROJECTOR (R31, R36, R37): the run that each leaves, after the notices that go with it and the
end of the step. -/

namespace Sys2Proof.Machine

variable {s t w : State} {p : ProjNo} {c : Instr} {st : Station} {r : Request}

/-! ## The end of a step -/

/-- A projector that is not THREADED is not started at the end of a step. -/
theorem State.settle_run (h : (s.projector p).runState ≠ .threaded) : s.settle.run p = s.run p := by
  obtain ⟨hp, ht⟩ := s.settle_projector p h
  rw [State.run, hp, ht, State.runMarks, State.settle_retained]
  rfl

theorem State.settle_run_of {x : Run} (h : s.run p = x) (hx : x.projector.runState ≠ .threaded) : s.settle.run p = x := by
  subst h
  exact State.settle_run hx

/-- The answer and the state that a request with a target leads to. -/
theorem Passes.leads {α : Type} {name : Option α} {x : α} {body : α → State → State × Answer} {a : Answer}
    (hp : Passes c st r) (h : s.Ready st) (hn : name = some x) (hx : exec c s = serve c (withTarget name body) s)
    (hb : body x s = (t, a)) {post : State → Prop} (hpost : post (t.reply st r a).settle) :
    Leads c s fun u => u.Sends c a ∧ post u :=
  ⟨_, by rw [hp.exec_eq h hx, hn, withTarget_some, hb], hp.sends a, hpost⟩

/-! ## STOP_PROJECTOR -/

theorem passes_stopProjector (t : Byte) : Passes (.stopProjector .console t) .console ⟨0x22#8, t, []⟩ :=
  ⟨rfl, rfl, Nat.zero_le _⟩

theorem State.haltEvent_motor (hm : (s.projector p).runState.motor = true) (c : HaltCause) :
    s.haltEvent p c = (s.haltCore p c).onHalt p := if_pos hm

theorem State.haltEvent_still (hm : (s.projector p).runState.motor = false) (c : HaltCause) : s.haltEvent p c = s :=
  if_neg (by rw [hm]; decide)

/-- What the notices leave of a projector that a step has halted. -/
theorem Obeys.halted_run (h : Obeys s t) {x : Run} {c : HaltCause} (hx : s.run p = x.halted c) : t.run p = x.halted c := by
  have hstate : (s.projector p).runState = .halted := congrArg (·.projector.runState) hx
  rw [h.still (by rw [hstate]; decide) (by rw [hstate]; rfl), hx]

/-- A halt of a projector in a motor state (R31). -/
theorem State.haltEvent_run (hm : (s.projector p).runState.motor = true) (c : HaltCause) :
    (s.haltEvent p c).run p = (s.run p).halted c := by
  rw [State.haltEvent_motor hm]
  exact ((Obeys.refl _).onHalt p).halted_run (by rw [State.haltCore_run hm, if_pos rfl])

/-! ## CLEAR_PROJECTOR -/

theorem passes_clearProjector (t : Byte) : Passes (.clearProjector .console t) .console ⟨0x21#8, t, []⟩ :=
  ⟨rfl, rfl, Nat.zero_le _⟩

/-- CLEAR_PROJECTOR on a THREADED or a HALTED projector (R36). -/
theorem clearProjector_spec (h : (s.projector p).runState = .threaded ∨ (s.projector p).runState = .halted) :
    (clearProjector p s).2 = .ok [] ∧ (clearProjector p s).1.run p = (s.run p).emptied (s.clearedReel p) := by
  have hempty : (s.becomeEmpty p (s.clearedReel p)).run p = (s.run p).emptied (s.clearedReel p) := by
    rw [State.becomeEmpty_run, if_pos rfl]
  rcases h with h | h
  · rw [clearProjector, h]
    exact ⟨rfl, hempty⟩
  · rw [clearProjector, h]
    exact ⟨rfl, hempty⟩

/-- CLEAR_PROJECTOR in EMPTY and in the motor states (R36). -/
theorem clearProjector_refused (h : (s.projector p).runState = .empty ∨ (s.projector p).runState.motor = true) :
    clearProjector p s = refuse .state s := by
  unfold clearProjector
  split
  next hr => simp [hr, RunState.motor] at h
  next hr => simp [hr, RunState.motor] at h
  · rfl

/-- Settles O23: the halt of `State.haltEvent_run`, and the emptied run of `clearProjector_spec`. -/
theorem stopAndClearAProjector : Obligations.StopAndClearAProjector := by
  intro s b p h hp
  refine ⟨fun hm => ?_, fun hm => ?_, fun hr => ?_, fun hr => ?_⟩
  · have hrun := State.settle_run_of (s := (s.haltEvent p .stop).reply .console ⟨0x22#8, b, []⟩ (.ok []))
      (State.haltEvent_run hm .stop) nofun
    exact (passes_stopProjector b).leads h hp rfl rfl
      ⟨congrArg Run.projector hrun, congrArg Run.tracker hrun,
        (State.settle_shutterUnit _).trans
          (State.shutterUnit_of_calm (t := s.haltEvent p .stop) (s.haltEvent_calm p .stop))⟩
  · exact (passes_stopProjector b).answers h (body := withTarget (projOf b) fun p s => (s.haltEvent p .stop, .ok [])) rfl
      (by rw [hp, withTarget_some, State.haltEvent_still hm]) h.work
  · obtain ⟨hok, hrun⟩ := clearProjector_spec hr
    have hend := State.settle_run_of (s := (clearProjector p s).1.reply .console ⟨0x21#8, b, []⟩ (.ok [])) hrun nofun
    have hproj := congrArg Run.projector hend
    have htracker := congrArg Run.tracker hend
    rw [State.run_projector] at hproj
    rw [State.run_tracker] at htracker
    refine (passes_clearProjector b).leads (t := (clearProjector p s).1) (a := .ok []) h hp rfl (Prod.ext rfl hok) ?_
    rw [hproj, htracker]
    exact ⟨rfl, rfl, rfl, rfl, rfl, rfl, rfl, congrArg Run.marks hend⟩
  · exact (passes_clearProjector b).refuses h (body := withTarget (projOf b) clearProjector) rfl
      (by rw [hp, withTarget_some, clearProjector_refused hr])

end Sys2Proof.Machine
end

section
/-! A cause of an urgent class that a step posts is pending at every station when the step ends (R185). -/

namespace Sys2Proof.Machine

variable {s t : State} {k : AttnClass} {st : Station}

/-! ## The duty unit posts, and takes no post back -/

theorem foldl_posts {ι : Type} {f : State → ι → State} (hf : ∀ v x, v.work.posts ⊆ (f v x).work.posts) (l : List ι)
    (v : State) : v.work.posts ⊆ (l.foldl f v).work.posts := by
  induction l generalizing v with
  | nil => exact List.Subset.refl _
  | cons x l ih => exact List.Subset.trans (hf v x) (ih _)

theorem State.insertDuty_posts (s : State) (e : DutyEntry) : s.work.posts ⊆ (s.insertDuty e).work.posts := by
  unfold State.insertDuty
  dsimp only
  split
  · exact List.Subset.refl _
  · exact List.subset_append_left _ _

theorem State.derive_posts (s : State) (ps : List ProjNo) : s.work.posts ⊆ (s.derive ps).work.posts := by
  unfold State.derive
  dsimp only
  generalize settleRemovals _ _ _ _ = kept
  have hset : s.work.posts = (s.setDuty kept).work.posts := rfl
  rw [hset]
  exact foldl_posts (fun v _ => v.insertDuty_posts _) _ _

theorem State.restoreRearm_posts (s : State) (i : ShutterNo) : s.work.posts ⊆ (s.restoreRearm i).work.posts := by
  unfold State.restoreRearm
  split
  · exact s.insertDuty_posts _
  · exact List.Subset.refl _

theorem State.takeDuty_posts (s : State) (d : DutyNotice) : s.work.posts ⊆ (s.takeDuty d).work.posts := by
  cases d with
  | projector p => exact s.derive_posts [p]
  | screen n => exact List.Subset.trans (s.derive_posts _) (foldl_posts State.restoreRearm_posts _ _)
  | retrim p =>
    refine List.Subset.trans ?_ (State.derive_posts _ [p])
    split
    · exact List.Subset.refl _
    · exact List.Subset.refl _
  | low p => exact s.insertDuty_posts _
  | lowCleared p => exact List.Subset.refl _
  | carbonShort p => exact s.insertDuty_posts _
  | dropped i => exact (s.removeDuty (.rearm i)).insertDuty_posts _
  | up i => exact List.Subset.refl _

theorem State.shuffleRetrim_posts (s : State) (p : ProjNo) : (s.shuffleRetrim p).work.posts = s.work.posts := by
  unfold State.shuffleRetrim
  dsimp only
  split
  · split
    · rfl
    · rfl
  · rfl

theorem State.settleDuty_posts (s : State) : s.work.posts ⊆ s.settleDuty.work.posts := by
  have hshuffle : s.work.posts ⊆ (allProjectors.foldl State.shuffleRetrim s).work.posts :=
    foldl_posts (fun v p => (v.shuffleRetrim_posts p).symm ▸ List.Subset.refl _) _ s
  unfold State.settleDuty
  dsimp only
  generalize allProjectors.foldl State.shuffleRetrim s = v at hshuffle
  exact List.Subset.trans hshuffle (foldl_posts State.takeDuty_posts _ v)

/-! ## The records -/

/-- Something is pending in an entry of a station's record. -/
def State.pends (s : State) (st : Station) (k : AttnClass) : Prop := ((s.attn st).pending.get k).isSome = true

theorem Attention.offer_isSome (a : Attention) (c : AttnCause) (h : (a.pending.get k).isSome = true) :
    ((a.offer c).pending.get k).isSome = true := by
  by_cases hk : k = c.cls
  · subst hk
    unfold Attention.offer
    split
    · simp
    · split
      · simp
      · exact h
  · rwa [(a.offer_other c hk).1]

theorem Attention.offer_urgent (a : Attention) {c : AttnCause} (h : c.cls.urgent = true) :
    ((a.offer c).pending.get c.cls).isSome = true := by
  simp [Attention.offer, h]

theorem State.offer_attn (s : State) (c : AttnCause) : (s.offer c).attn st = (s.attn st).offer c := ByStation.get_map _ _ _

theorem State.offers_pends (l : List AttnCause) (h : s.pends st k) : (l.foldl State.offer s).pends st k := by
  induction l generalizing s with
  | nil => exact h
  | cons c l ih =>
    refine ih ?_
    rw [State.pends, State.offer_attn]
    exact Attention.offer_isSome _ c h

theorem State.offers_urgent {c : AttnCause} {l : List AttnCause} (hc : c ∈ l) (hu : c.cls.urgent = true) :
    (l.foldl State.offer s).pends st c.cls := by
  induction l generalizing s with
  | nil => cases hc
  | cons d l ih =>
    rcases List.mem_cons.mp hc with rfl | hc
    · refine State.offers_pends l ?_
      rw [State.pends, State.offer_attn]
      exact Attention.offer_urgent _ hu
    · exact ih hc

/-- The order in which causes reach the records leaves none of them waiting: from some causes some reach them. -/
theorem mergePosts_ne_nil {l : List (Block × AttnCause)} (h : l ≠ []) (f : Nat) : (mergePosts l.length l f).1 ≠ [] := by
  obtain ⟨x, l', rfl⟩ := List.exists_cons_of_ne_nil h
  have hx : x.1 ∈ blocksOf (x :: l') := by simp [blocksOf]
  rw [List.length_cons, mergePosts]
  split
  next hb => rw [hb] at hx; cases hx
  next hb => simp
  next b bs hne hb =>
    dsimp only
    have hi : Config.freePick f % (bs.length + 1) < (b :: bs).length := Nat.mod_lt _ (Nat.succ_pos _)
    rw [List.getElem?_eq_getElem hi, Option.getD_some]
    have hmem : (b :: bs)[Config.freePick f % (bs.length + 1)] ∈ blocksOf (x :: l') := by
      rw [hb]
      exact List.getElem_mem hi
    generalize (b :: bs)[Config.freePick f % (bs.length + 1)] = chosen at hmem
    rw [blocksOf, List.mem_eraseDups] at hmem
    obtain ⟨y, hy, rfl⟩ := List.mem_map.mp hmem
    cases hnow : ((x :: l').filter fun z => decide (z.1 = y.1)).head? with
    | none =>
      have hnil := List.head?_eq_none_iff.mp hnow
      exact absurd (List.mem_filter.mpr ⟨hy, decide_eq_true rfl⟩) (hnil ▸ List.not_mem_nil)
    | some z => simp

theorem State.offerClass_pends (s : State) (j : AttnClass) (h : s.pends st k) : (s.offerClass j).pends st k :=
  State.offers_pends (s := { s with free := _ }) _ h

/-- The causes of an urgent class reach the records. -/
theorem State.offerClass_urgent {x : Block × AttnCause} (hx : x ∈ s.work.posts) (hu : x.2.cls.urgent = true) :
    (s.offerClass x.2.cls).pends st x.2.cls := by
  have hl : s.work.posts.filter (fun y => decide (y.2.cls = x.2.cls)) ≠ [] :=
    List.ne_nil_of_mem (List.mem_filter.mpr ⟨hx, decide_eq_true rfl⟩)
  obtain ⟨c, hc⟩ := List.exists_mem_of_ne_nil _ (mergePosts_ne_nil hl s.free)
  obtain ⟨y, hy, rfl⟩ := mem_of_mem_mergePosts _ _ _ hc
  have hcls : y.2.cls = x.2.cls := of_decide_eq_true (List.mem_filter.mp hy).2
  rw [← hcls] at hu hc ⊢
  exact State.offers_urgent (s := { s with free := _ }) hc hu

theorem State.settlePosts_urgent {x : Block × AttnCause} (hx : x ∈ s.work.posts) (hu : x.2.cls.urgent = true) :
    s.settlePosts.pends st x.2.cls := by
  have hall : x.2.cls ∈ allClasses := by cases x.2.cls <;> decide
  have hstays : ∀ (l : List AttnClass) (v : State), v.pends st x.2.cls → (l.foldl State.offerClass v).pends st x.2.cls := by
    intro l
    induction l with
    | nil => exact fun v h => h
    | cons j l ih => exact fun v h => ih _ (v.offerClass_pends j h)
  obtain ⟨before, after, hsplit⟩ := List.append_of_mem hall
  have hwork : (before.foldl State.offerClass s).work = s.work := foldl_keeps State.work _ State.offerClass_work _ s
  rw [State.settlePosts, hsplit, List.foldl_append, List.foldl_cons]
  exact hstays after _ (State.offerClass_urgent (by rw [hwork]; exact hx) hu)

/-- A cause of an urgent class that a step has posted is pending when it ends. -/
theorem State.settle_urgent {x : Block × AttnCause} (hx : x ∈ s.work.posts) (hu : x.2.cls.urgent = true) :
    s.settle.pends st x.2.cls := by
  have hmem : x ∈ s.settleArming.settleTests.settleDuty.work.posts :=
    State.settleDuty_posts _ (((Obeys.refl s).settleArming.settleTests).posts hx)
  rw [State.settle, State.pends, State.attn_begin]
  exact State.settlePosts_urgent hmem hu

end Sys2Proof.Machine
end

section
/-! A lost loop (R33): the break below picture end, with its trigger (R110, R117), and the film-out at or above it, with the
reel that the projector takes next (R34, R35). -/

namespace Sys2Proof.Machine

variable {s t : State} {p : ProjNo}

theorem exec_loopLost (h : s.Awake) (p : ProjNo) : exec (.loopLost p) s = .next (s.loopLost p).settle :=
  event_of_awake h fun s => s.loopLost p

/-! ## Below picture end -/

/-- A film break, with the trigger that it raises. -/
theorem State.loopLost_below (hm : (s.projector p).runState.motor = true) (he : s.atPictureEnd p = false) :
    s.loopLost p = (s.haltCore p .filmBreak).triggerAfter (.filmBreak p) (some p) := by
  rw [State.loopLost, if_pos hm, he, if_neg Bool.false_ne_true, State.breakHalt, if_pos hm]

/-- What follows the halt of a break: the shutters of the entry drop, and the projectors take orders. -/
theorem State.breakTrigger_obeys (s : State) (p : ProjNo) : Obeys (((s.haltCore p .filmBreak)).addCauses (.filmBreak p))
    ((s.haltCore p .filmBreak).triggerAfter (.filmBreak p) (some p)) :=
  ((Obeys.refl _).haltPorts _ _).trans (State.triggerAfter_obeys _ _ _)

/-- A trigger leaves of `calm` what its causes leave. -/
theorem State.addCauses_calm_congr (h : t.calm = s.calm) (k : TriggerKey) : (t.addCauses k).calm = (s.addCauses k).calm := by
  have hunit : t.shutterUnit = s.shutterUnit := congrArg Calm.shutterUnit h
  have hmap : t.retained.dropMap = s.retained.dropMap := congrArg (·.fixed.dropMap) h
  have hcauses : (t.addCauses k).shutterUnit = (s.addCauses k).shutterUnit := by
    simp only [State.addCauses, State.shutter, hunit, hmap]
  rw [State.addCauses_calm, State.addCauses_calm, h, hcauses]

theorem State.loopLost_break_calm (hm : (s.projector p).runState.motor = true) (he : s.atPictureEnd p = false) :
    (s.loopLost p).calm = (s.addCauses (.filmBreak p)).calm := by
  rw [State.loopLost_below hm he, State.triggerAfter_calm]
  exact State.addCauses_calm_congr (s.haltCore_calm p .filmBreak) _

theorem State.loopLost_break_run (hm : (s.projector p).runState.motor = true) (he : s.atPictureEnd p = false) :
    (s.loopLost p).run p = (s.run p).halted .filmBreak := by
  rw [State.loopLost_below hm he]
  exact (s.breakTrigger_obeys p).halted_run ((State.haltCore_run hm .filmBreak p).trans (if_pos rfl))

theorem State.loopLost_break_posts (hm : (s.projector p).runState.motor = true) (he : s.atPictureEnd p = false) :
    (Block.projector p, AttnCause.filmBreak p) ∈ (s.loopLost p).work.posts := by
  rw [State.loopLost_below hm he]
  refine (s.breakTrigger_obeys p).posts ((State.haltCore_rest hm .filmBreak).2 ?_)
  exact List.mem_append_right _ (List.mem_singleton.mpr rfl)

/-- Settles O21: the halt with the trigger that it raises, and an urgent cause. -/
theorem lostLoopBelowEndBreaks : Obligations.LostLoopBelowEndBreaks := by
  intro s p h hm he
  have hrun : (s.loopLost p).settle.run p = (s.run p).halted .filmBreak :=
    State.settle_run_of (State.loopLost_break_run hm he) nofun
  have hcalm := State.loopLost_break_calm hm he
  have hunit : (s.loopLost p).settle.shutterUnit = (s.addCauses (.filmBreak p)).shutterUnit :=
    (State.settle_shutterUnit _).trans (congrArg Calm.shutterUnit hcalm)
  refine ⟨_, exec_loopLost h p, congrArg Run.projector hrun, congrArg Run.tracker hrun, ?_, ?_, fun st => ?_, ?_⟩
  · rw [hunit]
    rfl
  · rw [hunit]
    rfl
  · exact Option.isSome_iff_exists.mp (State.settle_urgent (st := st) (State.loopLost_break_posts hm he) rfl)
  · exact (State.settle_bankView _).trans (congrArg Calm.banks hcalm)

/-! ## At or above picture end -/

/-- A runout end, or a film-out with the halt that the sequencer takes. -/
theorem State.loopLost_above (hm : (s.projector p).runState.motor = true) (he : s.atPictureEnd p = true) :
    Obeys (s.emptyRun p) (s.loopLost p) := by
  rw [State.loopLost, if_pos hm, if_pos he]
  split
  · exact .refl _
  · exact (Obeys.refl _).onHalt p

theorem State.loopLost_empty_run (hm : (s.projector p).runState.motor = true) (he : s.atPictureEnd p = true) :
    (s.loopLost p).run p = (s.run p).emptied (s.nextReel p) := by
  have hrun : (s.emptyRun p).run p = (s.run p).emptied (s.nextReel p) := by rw [State.emptyRun_run, if_pos rfl]
  have hstate : ((s.emptyRun p).projector p).runState = .empty := congrArg (·.projector.runState) hrun
  rw [(State.loopLost_above hm he).still (by rw [hstate]; decide) (by rw [hstate]; rfl), hrun]

/-- The reel of a projector whose screen is not PLAYING (R35). -/
theorem State.nextReel_opening (h : (s.showRec p.screen).state ≠ .playing) : s.nextReel p = s.openingReel p := by
  unfold State.nextReel
  cases (s.projector p).loaded with
  | none => rfl
  | some r =>
    rw [Option.elim_some, State.assignAfter]
    split
    next hp _ => exact absurd hp h
    · rfl

/-- The reel of a projector whose screen is PLAYING (R35). -/
theorem State.nextReel_playing {r c : Nat} (h : (s.showRec p.screen).state = .playing)
    (hl : (s.projector p).loaded = some r) (hc : s.reelCount p.screen = some c) :
    s.nextReel p = if r + 2 ≤ c then some (r + 2) else s.openingReel p := by
  rw [State.nextReel, hl, Option.elim_some, State.assignAfter, h, hc]

/-- Outside the motor states the loop is not watched (R33). -/
theorem State.loopLost_still (hm : (s.projector p).runState.motor = false) : s.loopLost p = s :=
  if_neg (by rw [hm]; decide)

/-- Settles O22: the emptied run with the next reel of R35. -/
theorem lostLoopAtEndEmpties : Obligations.LostLoopAtEndEmpties := by
  intro s p h
  refine ⟨fun hm he => ?_, fun hm => ?_⟩
  · have hrun : (s.loopLost p).settle.run p = (s.run p).emptied (s.nextReel p) :=
      State.settle_run_of (State.loopLost_empty_run hm he) nofun
    have hproj : (s.loopLost p).settle.projector p = ((s.run p).emptied (s.nextReel p)).projector :=
      congrArg Run.projector hrun
    have htracker : (s.loopLost p).settle.tracker p = ((s.run p).emptied (s.nextReel p)).tracker :=
      congrArg Run.tracker hrun
    refine ⟨_, exec_loopLost h p, ?_⟩
    beta_reduce
    rw [hproj, htracker]
    refine ⟨rfl, rfl, rfl, rfl, rfl, rfl, congrArg Run.marks hrun, State.nextReel_opening,
      fun r c => State.nextReel_playing, ?_⟩
    rw [State.settle_shutterUnit, State.shutterUnit_of_calm (State.loopLost_above hm he).calm,
      State.shutterUnit_of_calm (s.emptyRun_calm p)]
  · rw [exec, execLoopLost, event_of_quiet h _ (by rw [State.loopLost_still hm]; exact h.work), State.loopLost_still hm]

end Sys2Proof.Machine
end

section
/-! Threading (R24, R25, R39), and the projector that waits THREADED to the end of the step: no arming check and no readiness
test starts it where its screen is not SINGLE or ARMED and its show not HELD. -/

namespace Sys2Proof.Machine

variable {s t : State} {p q : ProjNo} {n m : ScreenNo}

/-! ## A projector that waits THREADED -/

theorem State.modScreen_runPart (s : State) (m : ScreenNo) (f : Screen → Screen) : (s.modScreen m f).runPart = s.runPart :=
  rfl

theorem State.clearLate_runPart (s : State) (m : ScreenNo) : (s.clearLate m).runPart = s.runPart := rfl

/-- From `s` to `t` projector `p` has waited THREADED. -/
structure Waits (p : ProjNo) (s t : State) : Prop where
  threaded : (t.projector p).runState = .threaded
  run : t.run p = s.run p

theorem Waits.refl (h : (s.projector p).runState = .threaded) : Waits p s s := ⟨h, rfl⟩

theorem Waits.of_run {u : State} (h : Waits p s t) (hr : u.run p = t.run p) : Waits p s u :=
  ⟨(congrArg (·.projector.runState) hr).trans h.threaded, hr.trans h.run⟩

theorem Waits.same {u : State} (h : Waits p s t) (hr : u.runPart = t.runPart) : Waits p s u := h.of_run (State.run_congr hr p)

theorem Waits.startOrder (h : Waits p s t) (hq : p ≠ q) : Waits p s (t.startOrder q).1 := by
  refine h.of_run ?_
  unfold State.startOrder
  split
  · simp [State.run, hq]
  · rfl

/-- A halt passes a projector by that is not in a motor state. -/
theorem Waits.haltCore (h : Waits p s t) (q : ProjNo) (c : HaltCause) : Waits p s (t.haltCore q c) := by
  cases hm : (t.projector q).runState.motor with
  | false => rwa [State.haltCore_still hm]
  | true =>
    refine h.of_run ((State.haltCore_run hm c p).trans (if_neg ?_))
    rintro rfl
    rw [h.threaded] at hm
    cases hm

theorem Waits.stopIdle (h : Waits p s t) (m : ScreenNo) : Waits p s (t.stopIdle m) := by
  unfold State.stopIdle
  split
  · split
    · exact h.haltCore _ _
    · exact h
  · exact h

theorem Waits.interrupt (h : Waits p s t) (m : ScreenNo) : Waits p s (t.interrupt m) := by
  unfold State.interrupt
  split
  · exact h
  · have hdark := ((h.stopIdle m).same (State.modScreen_runPart _ m fun r =>
      { r.darkened with currentReel := (t.stopIdle m).settledReel m }))
    exact ((hdark.same (State.clearLate_runPart _ m)).same (State.setScreenState_runPart _ m .dark)).same rfl

theorem Waits.actOnArming (h : Waits p s t) (m : ScreenNo) (hq : p ≠ q) (b : Bool) : Waits p s (t.actOnArming m q b) := by
  unfold State.actOnArming
  split
  · split
    · exact ((h.same (t.clearLate_runPart m)).startOrder hq).same (State.setScreenState_runPart _ m _)
    · exact h.same (State.setScreenState_runPart _ m _)
  · exact h.same (State.setScreenState_runPart _ m _)
  · exact h

/-- The standby of a screen is one of its projectors. -/
theorem State.screen_of_standby (h : s.standby m = some q) : q.screen = m := by
  unfold State.standby State.showingProj at h
  cases hd : (s.screen m).showingSide with
  | none => simp [hd] at h
  | some d =>
    rw [hd] at h
    obtain rfl := Option.some.inj h
    rfl

/-- An arming check of another screen. -/
theorem Waits.armingCheck (h : Waits p s t) (hm : p.screen ≠ m) : Waits p s (t.armingCheck m) := by
  unfold State.armingCheck
  split
  · split
    · exact h
    next q hq =>
      have hne : p ≠ q := fun hpq => hm (hpq ▸ State.screen_of_standby hq)
      have hmod := h.same (t.modScreen_runPart m fun r => { r with arming := resultOf (t.armingFails m q) })
      dsimp only
      refine Waits.actOnArming ?_ m hne _
      split
      · exact hmod.same rfl
      · exact hmod
  · exact h

theorem Waits.giveStart (h : Waits p s t) (hm : p.screen ≠ m) : Waits p s (t.giveStart m) := by
  unfold State.giveStart
  split
  next x _ _ =>
    have hne : p ≠ ⟨m, x.firstSide⟩ := fun hp => hm (hp ▸ rfl)
    have hset := (h.same (t.modScreen_runPart m fun r =>
      { r with opening := some ⟨m, x.firstSide⟩, currentReel := some 1, sound := x.firstSide })).same
        (State.setScreenState_runPart _ m .starting)
    unfold State.beginOpening
    dsimp only
    split
    · exact hset.startOrder hne
    · exact (hset.startOrder hne).interrupt m
  · exact h

theorem Waits.startShow (h : Waits p s t) (hm : p.screen ≠ m) : Waits p s (t.startShow m) := by
  have hstart := fun (r : ShowRec) => (h.same (u := t.setShow m r) rfl).giveStart hm
  have hhouse := fun (r : ShowRec) => ((hstart r).same (u := ((t.setShow m r).giveStart m).setMarks m 0#16) rfl).same
    (State.fireWhere_runPart _ m fun c => decide (c.anchor = .showStart))
  unfold State.startShow State.houseShowStart
  dsimp only
  split
  · exact (hhouse _).same rfl
  · exact (hhouse _).same rfl

theorem Waits.storeReadiness (h : Waits p s t) (m : ScreenNo) : Waits p s (t.storeReadiness m) := by
  refine h.same ?_
  unfold State.storeReadiness State.carbonNotice
  split <;> [split; skip] <;> rfl

/-- A readiness test, of another screen or without a held show. -/
theorem Waits.retest (h : Waits p s t) (hm : p.screen = m → (t.showRec m).state ≠ .held) : Waits p s (t.retest m) := by
  unfold State.retest
  split
  · exact h.storeReadiness m
  next hh =>
    dsimp only
    split
    · exact (h.storeReadiness m).startShow fun he => hm he hh
    · exact h.storeReadiness m
  · exact h

/-- A THREADED projector of a screen that takes no arming check, and whose show is not HELD, waits to the end of the step. -/
theorem State.settle_waits (hp : (s.projector p).runState = .threaded) (hs : (s.screen p.screen).state ≠ .single)
    (ha : (s.screen p.screen).state ≠ .armed) (hh : (s.showRec p.screen).state ≠ .held) :
    (s.settle.projector p).runState = .threaded := by
  have hfold : ∀ {f : State → ScreenNo → State},
      (∀ t m, Stays p.screen s t → Waits p s t → Stays p.screen s (f t m) ∧ Waits p s (f t m)) →
      ∀ (l : List ScreenNo) (t : State), Stays p.screen s t → Waits p s t →
        Stays p.screen s (l.foldl f t) ∧ Waits p s (l.foldl f t) := by
    intro f hf l
    induction l with
    | nil => exact fun t h k => ⟨h, k⟩
    | cons m l ih => exact fun t h k => ih _ (hf t m h k).1 (hf t m h k).2
  have harm := hfold (f := fun t n => if t.work.arm.get n then t.armingCheck n else t) (fun t m h k => by
    split
    · by_cases hm : p.screen = m
      · subst hm
        rw [State.armingCheck_idle (by rwa [h.screen]) (by rwa [h.screen])]
        exact ⟨h, k⟩
      · exact ⟨h.trans (.armingCheck_other t hm), k.armingCheck hm⟩
    · exact ⟨h, k⟩) allScreens s (.refl s) (.refl hp)
  have htest := hfold (f := fun t n => if t.work.retest.get n then t.retest n else t) (fun t m h k => by
    split
    · by_cases hm : p.screen = m
      · subst hm
        have hnot : (t.showRec p.screen).state ≠ .held := by rwa [h.show_]
        exact ⟨h.trans (.retest t fun he => absurd he hnot), k.retest fun _ => hnot⟩
      · exact ⟨h.trans (.retest_other t hm), k.retest fun he => absurd he hm⟩
    · exact ⟨h, k⟩) allScreens s.settleArming harm.1 harm.2
  obtain ⟨-, -, -, hprojectors, -⟩ := s.settle_rest
  rw [State.projector, hprojectors]
  exact htest.2.threaded

/-- What the end of a step leaves of a THREADED projector. -/
theorem State.settle_threaded (hp : (s.projector p).runState = .threaded) :
    s.settle.projector p = { s.projector p with runState := (s.settle.projector p).runState } ∧
    ((s.settle.projector p).runState = .threaded ∨ (s.settle.projector p).runState = .starting) ∧
    (s.settle.tracker p).counter = (s.tracker p).counter ∧ (s.settle.tracker p).context = (s.tracker p).context := by
  rcases s.settle_starts.projectors p with ⟨hproj, htracker⟩ | ⟨-, hproj, htracker⟩
  · rw [hproj, htracker]
    exact ⟨rfl, .inl hp, rfl, rfl⟩
  · rw [hproj, htracker]
    exact ⟨rfl, .inr rfl, rfl, rfl⟩

/-! ## Threading -/

theorem exec_threadedSwitchClose (h : s.Awake) (p : ProjNo) :
    exec (.threadedSwitchClose p) s = .next (s.threadedClose p).settle := event_of_awake h fun s => s.threadedClose p

theorem State.thread_screen (s : State) (p : ProjNo) (r : Nat) (n : ScreenNo) : (s.thread p r).screen n = s.screen n := rfl

theorem State.thread_showRec (s : State) (p : ProjNo) (r : Nat) (n : ScreenNo) : (s.thread p r).showRec n = s.showRec n := rfl

/-- Settles O19: the threaded run, and the end of the step. -/
theorem threadingTakesTheAssignedReel : Obligations.ThreadingTakesTheAssignedReel := by
  intro s p r h he ha
  have hclose : s.threadedClose p = s.thread p r := by rw [State.threadedClose, he, ha]
  have hrun : (s.thread p r).run p = (s.run p).threaded r (s.freshContext p.screen r) := by
    rw [State.thread_run, if_pos rfl]
  have hproj : (s.thread p r).projector p = ((s.run p).threaded r (s.freshContext p.screen r)).projector :=
    congrArg Run.projector hrun
  have htracker : (s.thread p r).tracker p = ((s.run p).threaded r (s.freshContext p.screen r)).tracker :=
    congrArg Run.tracker hrun
  have hmarks : (s.thread p r).runMarks p = ⟨true, some r, 0⟩ := congrArg Run.marks hrun
  have hthreaded : ((s.thread p r).projector p).runState = .threaded := by rw [hproj]; rfl
  obtain ⟨hrest, hstate, hcounter, hcontext⟩ := State.settle_threaded hthreaded
  have hwaits := State.settle_waits hthreaded
  rw [State.thread_screen, State.thread_showRec] at hwaits
  refine ⟨_, exec_threadedSwitchClose h p, ?_⟩
  rw [hclose]
  refine ⟨?_, ?_, ?_, ?_, ?_, hstate, hwaits, ?_, ?_, ?_, ?_, ?_, ?_, ?_⟩
  · rw [hrest, hproj]; rfl
  · rw [hrest, hproj]; rfl
  · rw [hrest, hproj]; rfl
  · rw [hrest, hproj]; rfl
  · rw [hrest, hproj]; rfl
  · rw [hcounter, htracker]; rfl
  · rw [hcontext, htracker]; rfl
  · rw [State.runMarks, State.settle_retained, ← State.runMarks, hmarks]
  · exact State.settle_arcs _
  · exact State.settle_shutterUnit _
  · exact State.settle_bankView _
  · exact State.settle_fixed _

/-- The closing where no film is to be threaded (R24). -/
theorem State.threadedClose_still (h : (s.projector p).runState = .threaded ∨ (s.projector p).runState.motor = true ∨
    ((s.projector p).runState = .empty ∧ (s.projector p).assigned = none)) : s.threadedClose p = s := by
  unfold State.threadedClose
  split
  next hr ha => simp [hr, ha, RunState.motor] at h
  next hr => simp [hr, RunState.motor] at h
  · rfl

/-- Settles O20: the run that is threaded again, with the BREAK cause cleared. -/
theorem threadingAgainKeepsTheReel : Obligations.ThreadingAgainKeepsTheReel := by
  intro s p h
  refine ⟨fun hh => ?_, fun hr => ?_⟩
  · have hclose : s.threadedClose p = s.threadAgain p := by rw [State.threadedClose, hh]
    have hrun : (s.threadAgain p).run p = (s.run p).rethreaded := by rw [State.threadAgain_run, if_pos rfl]
    have hproj : (s.threadAgain p).projector p = (s.run p).rethreaded.projector := congrArg Run.projector hrun
    have htracker : (s.threadAgain p).tracker p = (s.run p).rethreaded.tracker := congrArg Run.tracker hrun
    have hthreaded : ((s.threadAgain p).projector p).runState = .threaded := by rw [hproj]; rfl
    obtain ⟨hrest, hstate, hcounter, hcontext⟩ := State.settle_threaded hthreaded
    refine ⟨_, exec_threadedSwitchClose h p, ?_⟩
    rw [hclose]
    refine ⟨?_, ?_, ?_, ?_, hstate, ?_, ?_, fun i => ?_, ?_, ?_, ?_⟩
    · rw [hrest, hproj]; rfl
    · rw [hrest, hproj]; rfl
    · rw [hrest, hproj]; rfl
    · rw [hrest, hproj]; rfl
    · rw [hcounter, htracker]; rfl
    · rw [hcontext, htracker]; rfl
    · rw [State.shutter, State.settle_shutterUnit]
      exact ByShutter.get_map _ _ i
    · exact State.settle_retained _
    · exact State.settle_arcs _
    · exact State.settle_bankView _
  · rw [exec, execThreadedSwitchClose, event_of_quiet h _ (by rw [State.threadedClose_still hr]; exact h.work),
      State.threadedClose_still hr]

end Sys2Proof.Machine
end

section
/-! The open confirmation (R29) below picture end. What the sequencer does on the showing notice starts projectors at most: it
holds the screen FINAL or SINGLE, makes the arming check of that entry, and takes the cues of the context, of which none
swaps, since the incoming has not come to speed yet (R65, R70, R73). -/

namespace Sys2Proof.Machine

variable {s t : State} {p q : ProjNo} {n m : ScreenNo}

/-! ## What a start leaves -/

/-- A projector that is not THREADED takes no Start order. -/
theorem Starts.still (h : Starts s t) (hp : (s.projector p).runState ≠ .threaded) :
    t.projector p = s.projector p ∧ t.tracker p = s.tracker p :=
  (h.projectors p).resolve_right fun hs => hp hs.1

/-- A start leads into STARTING. -/
theorem Starts.runState (h : Starts s t) {x : RunState} (hx : x ≠ .starting) (hp : (s.projector p).runState ≠ x) :
    (t.projector p).runState ≠ x := by
  rcases h.projectors p with ⟨hproj, -⟩ | ⟨-, hproj, -⟩
  · rwa [hproj]
  · rw [hproj]
    exact hx.symm

theorem State.atPictureEnd_congr (hr : t.loadedRecord p = s.loadedRecord p)
    (hc : (t.tracker p).counter = (s.tracker p).counter) : t.atPictureEnd p = s.atPictureEnd p := by
  rw [State.atPictureEnd, hr, hc, ← State.atPictureEnd]

/-- A showing projector below E stays below E through a start. -/
theorem Starts.below (h : Starts s t) (hp : (s.projector p).runState = .showing) (he : s.atPictureEnd p = false) :
    t.atPictureEnd p = false := by
  obtain ⟨hproj, htracker⟩ := h.still (by rw [hp]; nofun)
  have hbank : t.bankIn p.screen .current = s.bankIn p.screen .current := by
    rw [State.bankIn, State.bankNo, State.bank, State.bank, State.bank, h.retained]
    rfl
  have hrecord : t.reelRecord p.screen = s.reelRecord p.screen := by
    funext r
    rw [State.reelRecord, State.header_congr h.retained, hbank, ← State.reelRecord]
  have hloaded : t.loadedRecord p = s.loadedRecord p := by
    rw [State.loadedRecord, hproj, hrecord, ← State.loadedRecord]
  rw [State.atPictureEnd_congr hloaded (by rw [htracker]), he]

/-! ## The entry of a screen into SINGLE -/

/-- A screen in ARMED or ROLLING with an incoming that is not RUNNING. -/
def State.Unready (s : State) (p : ProjNo) : Prop :=
  (s.screen p.screen).state = .armed ∨ (s.screen p.screen).state = .rolling → (s.projector p.other).runState ≠ .running

theorem State.Unready.atSpeed (h : s.Unready p) (hr : (s.screen p.screen).state = .rolling) : s.atSpeed p.other = false := by
  simp [State.atSpeed, h (.inr hr)]

theorem State.Unready.starts (h : s.Unready p) (ha : (s.screen p.screen).state = .armed) (hst : Starts s t) : t.Unready p :=
  fun _ => hst.runState nofun (h (.inl ha))

/-- The entry of projector `p` into the screen's record (R65, R73), before the arming check. -/
def State.holds (s : State) (p : ProjNo) (x : ScreenState) : State :=
  (s.modScreen p.screen fun r => { r with
    confirmTimer := none, currentReel := (s.projector p).loaded, showingSide := some p.side, opening := none }).setScreenState
      p.screen x

theorem State.beginShowing_eq (s : State) (p : ProjNo) : s.beginShowing p.screen p =
    if (s.projector p).loaded.isSome && (s.projector p).loaded = s.reelCount p.screen then s.holds p .final
    else (s.holds p .single).armingCheck p.screen := rfl

theorem State.holds_screen (s : State) (p : ProjNo) (x : ScreenState) : (s.holds p x).screen p.screen =
    { s.screen p.screen with confirmTimer := none, currentReel := (s.projector p).loaded, showingSide := some p.side,
                             opening := none, state := x } := by
  rw [State.holds, (State.setScreenState_fields _ _ _).1, State.modScreen, State.screen_setScreen, if_pos rfl]

theorem State.modScreen_starts (s : State) (m : ScreenNo) (f : Screen → Screen) : Starts s (s.modScreen m f) :=
  .same rfl rfl rfl rfl

theorem State.holds_starts (s : State) (p : ProjNo) (x : ScreenState) : Starts s (s.holds p x) :=
  (s.modScreen_starts p.screen _).trans (State.setScreenState_starts _ p.screen x)

theorem State.beginShowing_starts (s : State) (p : ProjNo) : Starts s (s.beginShowing p.screen p) := by
  rw [State.beginShowing_eq]
  split
  · exact s.holds_starts p _
  · exact (s.holds_starts p _).trans (State.armingCheck_starts _ _)

/-- The arming check of the entry arms or rolls the screen on a THREADED standby alone, which it may start. -/
theorem State.beginShowing_unready (s : State) (p : ProjNo) : (s.beginShowing p.screen p).Unready p := by
  have hsingle := s.holds_screen p .single
  have hfinal := s.holds_screen p .final
  rw [State.beginShowing_eq]
  split
  · intro h
    simp [hfinal] at h
  · by_cases hq : ((s.holds p .single).projector p.other).runState = .threaded
    · exact fun _ => (State.armingCheck_starts _ p.screen).runState nofun (by rw [hq]; nofun)
    · have hstandby : (s.holds p .single).standby p.screen = some p.other := State.standby_of_side (by rw [hsingle])
      have hcheck := State.armingCheck_of_not_threaded _ hstandby hq (.inl (by rw [hsingle]))
      intro h
      simp [hcheck] at h

/-! ## The cues of the context -/

theorem State.setLate_screen (s : State) (m : ScreenNo) : (s.setLate m).screen m = { s.screen m with lateMotor := true } :=
  (State.screen_setScreen s m m _).trans (if_pos rfl)

theorem State.onMotorCue_starts (s : State) (p : ProjNo) : Starts s (s.onMotorCue p) := by
  unfold State.onMotorCue
  dsimp only
  split
  · split
    · exact State.roll_starts s _ _
    · exact Starts.trans (t := s.setLate p.screen) (.same rfl rfl rfl rfl) (.same rfl rfl rfl rfl)
    · exact .refl s
  · exact .refl s

theorem State.Unready.onMotorCue (h : s.Unready p) : (s.onMotorCue p).Unready p := by
  have hstarts := s.onMotorCue_starts p
  by_cases ha : (s.screen p.screen).state = .armed
  · exact h.starts ha hstarts
  · revert hstarts
    unfold State.onMotorCue
    dsimp only
    split
    · split
      next he => exact absurd he ha
      next he =>
        have hscreen : ((s.setLate p.screen).screen p.screen).state = .single := by rw [State.setLate_screen, he]
        intro _ hs
        rcases hs with hs | hs
        · exact absurd (hscreen.symm.trans hs) nofun
        · exact absurd (hscreen.symm.trans hs) nofun
      · exact fun _ => h
    · exact fun _ => h

theorem State.Unready.onChangeoverCue (h : s.Unready p) : Starts s (s.onChangeoverCue p) := by
  unfold State.onChangeoverCue
  dsimp only
  split
  · split
    next hr =>
      rw [h.atSpeed hr, if_neg Bool.false_ne_true]
      split
      · exact .refl s
      · exact .same rfl rfl rfl rfl
    · exact .same rfl rfl rfl rfl
    · exact .same rfl rfl rfl rfl
    · exact .refl s
  · exact .refl s

theorem State.Unready.takeOldCues (h : s.Unready p) : Starts s (s.takeOldCues p) := by
  unfold State.takeOldCues
  split
  · exact .refl s
  next c _ =>
    dsimp only
    have hm : (if c.motor.settled then s.onMotorCue p else s).Unready p ∧
        Starts s (if c.motor.settled then s.onMotorCue p else s) := by
      split
      · exact ⟨h.onMotorCue, s.onMotorCue_starts p⟩
      · exact ⟨h, .refl s⟩
    split
    · exact hm.2.trans hm.1.onChangeoverCue
    · exact hm.2

/-! ## The showing notice -/

/-- The entry into SINGLE or FINAL, with the cues that have come before it. -/
theorem State.beginShowing_cues_starts (ht : Starts (s.beginShowing p.screen p) t)
    (hu : t.Unready p) : Starts s (if (t.screen p.screen).state = .final then t else t.takeOldCues p) := by
  have hstarts := (s.beginShowing_starts p).trans ht
  split
  · exact hstarts
  · exact hstarts.trans hu.takeOldCues

theorem State.openDone_starts (hp : (s.projector p).runState = .showing) (he : s.atPictureEnd p = false) :
    Starts s (s.openDone p.screen p) := by
  have hcues := State.beginShowing_cues_starts (.refl _) (s.beginShowing_unready p)
  unfold State.openDone
  dsimp only
  rwa [hcues.below hp he, if_neg Bool.false_ne_true]

theorem State.swapDone_starts (s : State) (p : ProjNo) : Starts s (s.swapDone p.screen p) := by
  have hclear : Starts s ((s.modScreen p.screen fun r => { r with swapFailed := false }).clearLate p.screen) :=
    .same rfl rfl rfl rfl
  exact hclear.trans (State.beginShowing_cues_starts (.same rfl rfl rfl rfl) (State.beginShowing_unready _ p))

/-- The showing notice of a projector below E starts projectors at most. -/
theorem State.onShowing_starts (hp : (s.projector p).runState = .showing) (he : s.atPictureEnd p = false) :
    Starts s (s.onShowing p) := by
  unfold State.onShowing
  dsimp only
  split
  · split
    · split
      · exact State.openDone_starts hp he
      · exact .refl s
    · split
      · exact s.swapDone_starts p
      · exact .refl s
    · exact .refl s
  · exact .refl s

theorem State.entryCues_starts (s : State) (p : ProjNo) : Starts s (s.entryCues p) := by
  unfold State.entryCues
  split
  · exact .refl s
  · dsimp only
    split
    · exact (State.fireWhere_starts s _ _).trans (State.fireWhere_starts _ _ _)
    · exact State.fireWhere_starts s _ _

/-! ## The open confirmation -/

theorem State.entered_projector (s : State) (p : ProjNo) :
    (s.entered p).projector p = { s.projector p with runState := .showing } ∧ (s.entered p).tracker p = s.tracker p := by
  have hrun := (s.entered_run p p).trans (if_pos rfl)
  exact ⟨congrArg Run.projector hrun, congrArg Run.tracker hrun⟩

theorem State.entered_other (s : State) (p : ProjNo) : ((s.entered p).projector p.other).runState ≠ .showing := by
  have hrun := (s.entered_run p p.other).trans (if_neg (ProjNo.other_ne p))
  have hproj : (s.entered p).projector p.other = (s.handOver p).projector p.other := congrArg Run.projector hrun
  rw [hproj]
  exact s.handOver_not_showing p

/-- Below picture end, the open confirmation after the entry into SHOWING starts projectors at most. -/
theorem State.confirmOpen_starts (he : s.atPictureEnd p = false) : Starts (s.entered p) (s.confirmOpen p) := by
  obtain ⟨hproj, htracker⟩ := s.entered_projector p
  have hshow : ((s.entered p).projector p).runState = .showing := by rw [hproj]
  have hcalm : (s.entered p).calm = s.calm := by simp [State.entered]
  have hbelow : (s.entered p).atPictureEnd p = false := by
    have hrecord := State.loadedRecord_congr (p := p) (by rw [hproj]) (State.bankView_of_calm hcalm)
    rw [State.atPictureEnd_congr hrecord (by rw [htracker]), he]
  have hcues := (s.entered p).entryCues_starts p
  have hcuesBelow := hcues.below hshow hbelow
  have hcuesShow : (((s.entered p).entryCues p).projector p).runState = .showing := by
    rw [(hcues.still (by rw [hshow]; nofun)).1, hshow]
  have hdone := State.onShowing_starts hcuesShow hcuesBelow
  have hend := hdone.below hcuesShow hcuesBelow
  rw [State.confirmOpen_eq, State.entryEnd, hend, Bool.and_false, if_neg Bool.false_ne_true]
  exact hcues.trans hdone

theorem State.douserOpens_confirmed (hr : (s.projector p).runState = .running) (hd : (s.projector p).douser = .opened)
    (hup : (s.shutter (.port p)).state = .up) : s.douserOpens p = s.confirmOpen p := by
  rw [State.douserOpens, hr, hd, State.permit, hup]
  rfl

theorem State.douserOpens_shut (hr : (s.projector p).runState = .running) (hd : (s.projector p).douser = .opened)
    (hup : (s.shutter (.port p)).state ≠ .up) : s.douserOpens p = s.haltEvent p (s.shutter (.port p)).lastDrop.halt := by
  rw [State.douserOpens, hr, hd, State.permit, decide_eq_false hup]
  rfl

theorem State.douserOpens_still (h : (s.projector p).runState ≠ .running ∨ (s.projector p).douser = .closed) :
    s.douserOpens p = s := by
  rw [State.douserOpens, if_neg]
  rcases h with h | h
  · simp [h]
  · simp [h]

theorem DropCause.halt_eq (c : DropCause) : c.halt = if c = .fire then .fire else .shutter := by
  cases c <;> rfl

theorem exec_douserOpenSwitchClose (h : s.Awake) (p : ProjNo) :
    exec (.douserOpenSwitchClose p) s = .next (s.douserOpens p).settle := event_of_awake h fun s => s.douserOpens p

/-- Settles O24: the entry into SHOWING with the starts that follow it, or the halt of a closed port. -/
theorem openConfirmationShows : Obligations.OpenConfirmationShows := by
  intro s p h
  refine ⟨fun hr hd => ⟨fun hup he => ?_, fun hup => ?_⟩, fun hc => ?_⟩
  · obtain ⟨hproj, htracker⟩ := s.entered_projector p
    have hstarts := (State.confirmOpen_starts he).trans (s.confirmOpen p).settle_starts
    obtain ⟨hproj', htracker'⟩ := hstarts.still (p := p) (by rw [hproj]; nofun)
    refine ⟨_, exec_douserOpenSwitchClose h p, ?_⟩
    beta_reduce
    rw [State.douserOpens_confirmed hr hd hup, hproj', htracker', hproj, htracker]
    exact ⟨rfl, hstarts.runState nofun (s.entered_other p), rfl, rfl⟩
  · have hm : (s.projector p).runState.motor = true := by rw [hr]; rfl
    have hrun := State.settle_run_of (State.haltEvent_run hm (s.shutter (.port p)).lastDrop.halt) nofun
    refine ⟨_, exec_douserOpenSwitchClose h p, ?_⟩
    rw [State.douserOpens_shut hr hd hup, ← DropCause.halt_eq]
    exact congrArg Run.projector hrun
  · rw [exec, execDouserOpenSwitchClose, event_of_quiet h _ (by rw [State.douserOpens_still hc]; exact h.work),
      State.douserOpens_still hc]

end Sys2Proof.Machine
end

section
/-! Table 18 (R52): the outcome of judging a cue mark, case by case. -/

namespace Sys2Proof.Machine

variable {x : CueContext} {r : Reel} {c : Nat}

theorem CueStatus.settled_iff (v : CueStatus) : v.settled = true ↔ v ≠ .pending := by
  cases v <;> simp [CueStatus.settled]

theorem CueStatus.isTaken_iff (v : CueStatus) : v.isTaken = true ↔ ∃ f k, v = .taken f k := by
  cases v <;> simp [CueStatus.isTaken]

/-- The mark may be the motor cue: the first row of Table 18. -/
def CueContext.markIsMotor (x : CueContext) (r : Reel) (c : Nat) : Prop :=
  x.motor = .pending ∧ within c r.motorCue x.window = true

/-- The mark may be the changeover cue: the second row of Table 18. -/
def CueContext.markIsChangeover (x : CueContext) (r : Reel) (c : Nat) : Prop :=
  x.changeover = .pending ∧ x.motor ≠ .pending ∧ within c r.changeoverCue x.window = true

/-- The mark may be of a cue already taken: the third row of Table 18. -/
def CueContext.markIsOfTaken (x : CueContext) (r : Reel) (c : Nat) : Prop :=
  (∃ f k, x.motor = .taken f k) ∧ within c r.motorCue x.window = true ∨
    (∃ f k, x.changeover = .taken f k) ∧ within c r.changeoverCue x.window = true

theorem CueContext.markIsMotor_iff (x : CueContext) (r : Reel) (c : Nat) : x.markIsMotor r c ↔
    (decide (x.motor = .pending) && within c r.motorCue x.window) = true := by
  simp [CueContext.markIsMotor]

theorem CueContext.markIsChangeover_iff (x : CueContext) (r : Reel) (c : Nat) : x.markIsChangeover r c ↔
    (decide (x.changeover = .pending) && x.motor.settled && within c r.changeoverCue x.window) = true := by
  simp [CueContext.markIsChangeover, ← CueStatus.settled_iff, and_assoc]

theorem CueContext.markIsOfTaken_iff (x : CueContext) (r : Reel) (c : Nat) : x.markIsOfTaken r c ↔
    ((x.motor.isTaken && within c r.motorCue x.window) ||
      (x.changeover.isTaken && within c r.changeoverCue x.window)) = true := by
  simp [CueContext.markIsOfTaken, ← CueStatus.isTaken_iff]

section Rows

theorem CueContext.judgeMark_motor (h : x.markIsMotor r c) : x.judgeMark r c = .take .motor :=
  if_pos ((x.markIsMotor_iff r c).mp h)

variable (hm : ¬ x.markIsMotor r c)

include hm

theorem CueContext.judgeMark_changeover (h : x.markIsChangeover r c) : x.judgeMark r c = .take .changeover := by
  rw [CueContext.judgeMark, if_neg (mt (x.markIsMotor_iff r c).mpr hm), if_pos ((x.markIsChangeover_iff r c).mp h)]

variable (hc : ¬ x.markIsChangeover r c)

include hc

theorem CueContext.judgeMark_ofTaken (h : x.markIsOfTaken r c) : x.judgeMark r c = .ignore := by
  rw [CueContext.judgeMark, if_neg (mt (x.markIsMotor_iff r c).mpr hm), if_neg (mt (x.markIsChangeover_iff r c).mpr hc),
    if_pos ((x.markIsOfTaken_iff r c).mp h)]

theorem CueContext.judgeMark_stray (h : ¬ x.markIsOfTaken r c) : x.judgeMark r c = .stray := by
  rw [CueContext.judgeMark, if_neg (mt (x.markIsMotor_iff r c).mpr hm), if_neg (mt (x.markIsChangeover_iff r c).mpr hc),
    if_neg (mt (x.markIsOfTaken_iff r c).mpr h)]

end Rows

/-- Settles O28: the rows of Table 18 in order. -/
theorem marksAreJudgedInOrder : Obligations.MarksAreJudgedInOrder := by
  intro x r c
  refine ⟨fun hp hw => CueContext.judgeMark_motor ⟨hp, hw⟩, fun hmotor => ?_⟩
  have hm : ¬ x.markIsMotor r c := fun ⟨hp, hw⟩ => hmotor.elim (· hp) fun hf => by simp [hf] at hw
  refine ⟨fun hp hs hw => CueContext.judgeMark_changeover hm ⟨hp, hs, hw⟩, fun hchange => ?_⟩
  have hc : ¬ x.markIsChangeover r c := by
    rintro ⟨hp, hs, hw⟩
    rcases hchange with h | h | h
    · exact h hp
    · exact hs h
    · simp [h] at hw
  exact ⟨CueContext.judgeMark_ofTaken hm hc, CueContext.judgeMark_stray hm hc⟩

end Sys2Proof.Machine
end

section
/-! A cue mark (R52, R53): the cue that it takes, and the fall of a context to COUNT at the third stray. What the sequencer does
on the cue leaves the context and the counter, short of the runout limit, where alone a Close order empties the projector. -/

namespace Sys2Proof.Machine

variable {a s t : State} {p : ProjNo} {x : CueContext} {r : Reel} {k : CueKind} {v : CueStatus}

/-! ## The context through orders -/

/-- An order empties its projector, or leaves the context and the counter. -/
theorem Run.Order.context {a b : Run} (h : Run.Order a b) : b.projector.runState = .empty ∨
    (b.tracker.context = a.tracker.context ∧ b.tracker.counter = a.tracker.counter) := by
  cases h with
  | empty => exact .inl rfl
  | start | douser | halt | runout => exact .inr ⟨rfl, rfl⟩

/-- Orders that do not end in EMPTY have left the context and the counter. -/
theorem Obeys.context (h : Obeys s t) (hp : (t.projector p).runState ≠ .empty) :
    (t.tracker p).context = (s.tracker p).context ∧ (t.tracker p).counter = (s.tracker p).counter := by
  have hr := h.runs p
  have hb : (t.run p).projector.runState ≠ .empty := hp
  change (t.run p).tracker.context = _ ∧ (t.run p).tracker.counter = _
  generalize t.run p = b at hr hb
  induction hr with
  | refl => exact ⟨rfl, rfl⟩
  | @tail y z _ ho ih =>
    have hy : y.projector.runState ≠ .empty := by
      intro he
      rcases ho.taken with k | k
      · rw [he] at k; cases k
      · rw [he] at k; cases k
    obtain ⟨h1, h2⟩ := ih hy
    obtain ⟨h3, h4⟩ := ho.context.resolve_left hb
    exact ⟨h3.trans h1, h4.trans h2⟩

theorem Pulsed.not_empty (h : Pulsed p a t) : (t.projector p).runState ≠ .empty := by
  intro he
  rcases h.state with hm | hm <;> simp [he, RunState.motor] at hm

theorem Pulsed.setContext (h : Pulsed p a t) (y : Option CueContext) :
    Pulsed p a (t.setTracker p { t.tracker p with context := y }) := by
  obtain ⟨z, hz⟩ := h.tracker
  refine ⟨h.calm, h.loaded, h.marks, h.state, ⟨y, ?_⟩, h.final⟩
  rw [State.tracker_setTracker, if_pos rfl, State.projector_setTracker, hz]
  split <;> rfl

theorem Obeys.cueNotice (h : Obeys s t) (p : ProjNo) (k : CueKind) (v : CueStatus) : Obeys s (t.cueNotice p k v) := by
  unfold State.cueNotice
  split
  · split
    · exact h.onMotorCue p
    · exact h.onChangeoverCue p
    · exact h
  · exact h

theorem Pulsed.cueNotice (h : Pulsed p a t) (k : CueKind) (v : CueStatus)
    (ha : k = .changeover → a.atRunoutLimit p = false) : Pulsed p a (t.cueNotice p k v) := by
  unfold State.cueNotice
  split
  · split
    · exact h.onMotorCue p
    · exact Pulsed.onChangeoverCue (ha rfl) h p
    · exact h
  · exact h

/-- A cue that is settled stands in the context of its tracker, whatever the sequencer does on it. -/
theorem Pulsed.settleCue_context (h : Pulsed p a t) (x : CueContext) (k : CueKind) (v : CueStatus)
    (ha : k = .changeover → a.atRunoutLimit p = false) : Pulsed p a (t.settleCue p x k v) ∧
      ((t.settleCue p x k v).tracker p).context = some (x.setStatus k v) := by
  have hp := (h.setContext (some (x.setStatus k v))).cueNotice k v ha
  refine ⟨hp, (((Obeys.refl _).cueNotice p k v).context hp.not_empty).1.trans ?_⟩
  rw [State.tracker_setTracker, if_pos rfl]

theorem State.cueMark_exec (h : s.Awake) (p : ProjNo) : exec (.cueMarkPulse p) s = .next (s.cueMark p).settle :=
  event_of_awake h fun s => s.cueMark p

theorem State.cueMark_quiet (h : s.Awake) (hw : (s.cueMark p).work = s.work) :
    exec (.cueMarkPulse p) s = .next (s.cueMark p) :=
  event_of_quiet h (fun s => s.cueMark p) (hw.trans h.work)

/-- A mark whose outcome leaves context `y` leads to a state with that context and the counter as it was. -/
theorem Pulsed.marked (h : Pulsed p s (s.cueMark p)) (haw : s.Awake) {y : CueContext}
    (hy : ((s.cueMark p).tracker p).context = some y) : Leads (.cueMarkPulse p) s fun t =>
      (t.tracker p).context = some y ∧ (t.tracker p).counter = (s.tracker p).counter := by
  obtain ⟨-, htracker, -⟩ := h.settle
  refine ⟨_, State.cueMark_exec haw p, ?_⟩
  beta_reduce
  rw [htracker]
  exact ⟨hy, h.counter⟩

/-! ## The outcomes of a mark -/

/-- A mark that is judged: the projector is in a motor state, and its context is bound and under MARK or EITHER (R52). -/
structure Judged (s : State) (p : ProjNo) (x : CueContext) (r : Reel) : Prop where
  awake : s.Awake
  context : (s.tracker p).context = some x
  record : s.loadedRecord p = some r
  motor : (s.projector p).runState.motor = true
  policy : x.effective ≠ .count

section Outcomes

variable (h : Judged s p x r)

include h

theorem Judged.cueMark_take (hj : x.judgeMark r (s.tracker p).counter = .take k) :
    s.cueMark p = s.settleCue p x k (.taken (s.tracker p).counter .mark) := by
  simp [State.cueMark, h.context, h.record, h.motor, h.policy, hj]

theorem Judged.cueMark_ignore (hj : x.judgeMark r (s.tracker p).counter = .ignore) : s.cueMark p = s := by
  simp [State.cueMark, h.context, h.record, h.motor, h.policy, hj]

theorem Judged.cueMark_stray (hj : x.judgeMark r (s.tracker p).counter = .stray) : s.cueMark p = s.stray p x r := by
  simp [State.cueMark, h.context, h.record, h.motor, h.policy, hj]

end Outcomes

/-- A mark that is not judged changes nothing (R52). -/
theorem State.cueMark_unjudged (h : (s.projector p).runState.motor = false ∨ s.loadedRecord p = none ∨
    ∀ x, (s.tracker p).context = some x → x.effective = .count) : s.cueMark p = s := by
  unfold State.cueMark
  split
  next x r hx hr =>
    refine if_neg ?_
    rcases h with h | h | h
    · simp [h]
    · rw [h] at hr; cases hr
    · simp [h x hx]
  · rfl

theorem Judged.below (h : Judged s p x r) (hlim : (s.tracker p).counter < r.pictureEnd + 320) :
    s.atRunoutLimit p = false := by
  rw [State.atRunoutLimit, h.record]
  exact decide_eq_false (Nat.not_le.mpr hlim)

/-- A mark takes a cue (R52). -/
theorem Judged.takes (h : Judged s p x r) (hj : x.judgeMark r (s.tracker p).counter = .take k)
    (hlim : k = .changeover → (s.tracker p).counter < r.pictureEnd + 320) :
    Leads (.cueMarkPulse p) s fun t =>
      (t.tracker p).context = some (x.setStatus k (.taken (s.tracker p).counter .mark)) ∧
      (t.tracker p).counter = (s.tracker p).counter := by
  obtain ⟨hp, hc⟩ := (Pulsed.refl h.motor).settleCue_context x k (.taken (s.tracker p).counter .mark)
    fun hk => h.below (hlim hk)
  rw [← h.cueMark_take hj] at hp hc
  exact hp.marked h.awake hc

/-! ## The third stray (R53) -/

/-- A context at a fallback: a due PENDING cue is taken by COUNT. -/
def CueContext.fallback (x : CueContext) (r : Reel) (c : Nat) (k : CueKind) : CueContext :=
  if x.status k = .pending ∧ r.cueFrame k ≤ c then x.setStatus k (.taken c .count) else x

/-- A context that has met its third stray. -/
def CueContext.fallen (x : CueContext) : CueContext := { x with strays := 3, fallenBack := true }

theorem CueContext.setStatus_fields (x : CueContext) (k : CueKind) (v : CueStatus) :
    (x.setStatus k v).strays = x.strays ∧ (x.setStatus k v).fallenBack = x.fallenBack := by
  cases k <;> exact ⟨rfl, rfl⟩

theorem CueContext.fallback_fields (x : CueContext) (r : Reel) (c : Nat) (k : CueKind) :
    (x.fallback r c k).strays = x.strays ∧ (x.fallback r c k).fallenBack = x.fallenBack := by
  unfold CueContext.fallback
  split
  · exact x.setStatus_fields k _
  · exact ⟨rfl, rfl⟩

theorem CueContext.fallback_changeover_motor (x : CueContext) (r : Reel) (c : Nat) :
    (x.fallback r c .changeover).motor = x.motor := by
  unfold CueContext.fallback
  split <;> rfl

theorem CueContext.fallback_motor (hx : x.motor = .pending) {c : Nat} (hc : r.motorCue ≤ c) :
    (x.fallback r c .motor).motor = .taken c .count := by
  rw [CueContext.fallback, if_pos ⟨hx, hc⟩]
  rfl

theorem Pulsed.fallbackCue (ha : a.atRunoutLimit p = false) (h : Pulsed p a t) (hx : (t.tracker p).context = some x)
    (r : Reel) (k : CueKind) : Pulsed p a (t.fallbackCue p r k) ∧
      ((t.fallbackCue p r k).tracker p).context = some (x.fallback r (a.tracker p).counter k) := by
  unfold State.fallbackCue CueContext.fallback
  rw [hx, ← h.counter]
  dsimp only
  by_cases hd : x.status k = .pending ∧ r.cueFrame k ≤ (t.tracker p).counter
  · rw [if_pos hd, if_pos (by simpa using hd)]
    exact h.settleCue_context x k _ fun _ => ha
  · rw [if_neg hd, if_neg (by simpa using hd)]
    exact ⟨h, hx⟩

theorem State.stray_third (hn : 2 ≤ x.strays) : s.stray p x r =
    (((s.setTracker p { s.tracker p with context := some x.fallen }).fallbackCue p r .motor).fallbackCue p r
      .changeover).post (.tracker p) (.stray p) := if_neg (by omega)

/-- The third stray makes the context fall back, and the due PENDING cues are taken (R53). -/
theorem Judged.falls (h : Judged s p x r) (hj : x.judgeMark r (s.tracker p).counter = .stray) (hn : 2 ≤ x.strays)
    (hlim : (s.tracker p).counter < r.pictureEnd + 320) : Leads (.cueMarkPulse p) s fun t =>
      (t.tracker p).context = some ((x.fallen.fallback r (s.tracker p).counter .motor).fallback r (s.tracker p).counter
        .changeover) ∧ (t.tracker p).counter = (s.tracker p).counter := by
  have ha := h.below hlim
  have hset := (Pulsed.refl h.motor).setContext (some x.fallen)
  have hcontext : ((s.setTracker p { s.tracker p with context := some x.fallen }).tracker p).context = some x.fallen := by
    rw [State.tracker_setTracker, if_pos rfl]
  obtain ⟨hp1, hc1⟩ := hset.fallbackCue ha hcontext r .motor
  obtain ⟨hp2, hc2⟩ := hp1.fallbackCue ha hc1 r .changeover
  have hmark := (h.cueMark_stray hj).trans (State.stray_third hn)
  refine Pulsed.marked ?_ h.awake ?_
  · rw [hmark]
    exact hp2.post _ _
  · rw [hmark]
    exact hc2

/-- Settles O27: each outcome of `CueContext.judgeMark` by what it does to the context. -/
theorem marksAreTakenCountedOrIgnored : Obligations.MarksAreTakenCountedOrIgnored := by
  intro s p haw
  refine ⟨fun x r hx hr hm hpol => ?_, fun h => ?_⟩
  · have h : Judged s p x r := ⟨haw, hx, hr, hm, hpol⟩
    refine ⟨fun hj => h.takes hj nofun, fun hj hlim => h.takes hj fun _ => hlim, fun hj => ?_, fun hj hn => ?_,
      fun hj hn hlim => ?_⟩
    · have hmark := h.cueMark_ignore hj
      rw [State.cueMark_quiet haw (by rw [hmark]), hmark]
    · have hmark : s.cueMark p =
          s.setTracker p { s.tracker p with context := some { x with strays := x.strays + 1 } } :=
        (h.cueMark_stray hj).trans (if_pos (by omega))
      rw [State.cueMark_quiet haw (by rw [hmark]; rfl), hmark]
    · obtain ⟨t, ht, hc, -⟩ := h.falls hj hn hlim
      refine ⟨t, ht, _, hc, ?_, ?_, fun hmotor hdue => ?_⟩
      · rw [(CueContext.fallback_fields _ _ _ _).1, (CueContext.fallback_fields _ _ _ _).1]
        rfl
      · rw [(CueContext.fallback_fields _ _ _ _).2, (CueContext.fallback_fields _ _ _ _).2]
        rfl
      · rw [CueContext.fallback_changeover_motor]
        exact CueContext.fallback_motor (x := x.fallen) hmotor hdue
  · have hmark := State.cueMark_unjudged h
    rw [State.cueMark_quiet haw (by rw [hmark]), hmark]

end Sys2Proof.Machine
end

section
/-! The setting requests (R58, R109, R128, R138, R139): which fields each accepts, and the item of the retained store that it
replaces. -/

namespace Sys2Proof.Machine

variable {s : State} {n : ScreenNo} {k : TriggerKey} {i : ShutterNo} {mask : Half}

/-! ## The frames of the setting requests -/

theorem passes_setCuePolicy (t q w : Byte) : Passes (.setCuePolicy .console t q w) .console ⟨0x29#8, t, [q, w]⟩ :=
  ⟨rfl, rfl, Nat.le_of_ble_eq_true rfl⟩

theorem passes_setDropMap (t : Byte) (mask : Half) :
    Passes (.setDropMap .console t mask) .console ⟨0x56#8, t, mask.bytes⟩ := ⟨rfl, rfl, Nat.le_of_ble_eq_true rfl⟩

theorem passes_setScene (t k a b c d : Byte) : Passes (.setScene .house t k a b c d) .house ⟨0x67#8, t, [k, a, b, c, d]⟩ :=
  ⟨rfl, rfl, Nat.le_of_ble_eq_true rfl⟩

theorem passes_setCurtainTime (t x : Byte) : Passes (.setCurtainTime .house t x) .house ⟨0x6A#8, t, [x]⟩ :=
  ⟨rfl, rfl, Nat.le_of_ble_eq_true rfl⟩

theorem passes_setStanding (t a b c d : Byte) (f : Half) (h : Byte) :
    Passes (.setStanding .house t a b c d f h) .house ⟨0x68#8, t, a :: b :: c :: d :: (f.bytes ++ [h])⟩ :=
  ⟨rfl, rfl, Nat.le_of_ble_eq_true rfl⟩

theorem passes_deleteStanding (t : Byte) : Passes (.deleteStanding .house t) .house ⟨0x69#8, t, []⟩ :=
  ⟨rfl, rfl, Nat.zero_le _⟩

/-! ## The cue policy (R58) -/

theorem named_policy_code (q : Policy) :
    named [Policy.mark, .count, .either] Policy.code (BitVec.ofNat 8 q.code) = some q := by
  cases q <;> rfl

theorem named_policy_none {q : Byte} (h : q = 0 ∨ 3 < q.toNat) :
    named [Policy.mark, .count, .either] Policy.code q = none := by
  have hq := toNat_zero_of h
  have hcode : ∀ x : Policy, 1 ≤ x.code ∧ x.code ≤ 3 := fun x => by cases x <;> decide
  simp only [named, List.find?_eq_none, decide_eq_true_eq]
  intro x _ hx
  have := hcode x
  omega

theorem cuePolicyOf_some (q : Policy) {w : Byte} (hw : w.toNat ≤ 240) :
    cuePolicyOf (BitVec.ofNat 8 q.code) w = some ⟨q, w.toNat⟩ := by
  rw [cuePolicyOf, named_policy_code, inRange_some (Nat.zero_le _) hw]
  rfl

theorem cuePolicyOf_none {q w : Byte} (h : q = 0 ∨ 3 < q.toNat ∨ 240 < w.toNat) : cuePolicyOf q w = none := by
  simp only [cuePolicyOf, Option.bind_eq_bind, Option.bind_eq_none_iff]
  intro x hx y hy
  exfalso
  rw [← or_assoc] at h
  rcases h with h | h
  · rw [named_policy_none h] at hx; cases hx
  · rw [inRange_none (.inr h)] at hy; cases hy

theorem setCuePolicy_some {q w : Byte} {x : CuePolicy} (h : cuePolicyOf q w = some x) : setCuePolicy q w n s =
    ({ s with retained := { s.retained with cuePolicy := s.retained.cuePolicy.set n x } }, .ok []) := by
  rw [setCuePolicy, h]

theorem setCuePolicy_none {q w : Byte} (h : cuePolicyOf q w = none) : setCuePolicy q w n s = refuse .range s := by
  rw [setCuePolicy, h]

/-! ## The drop map (R109) -/

theorem shutterSetOf_some (h : mask.toNat < 4096) : shutterSetOf mask = some (.ofFn fun i => member mask i.code) :=
  if_pos (decide_eq_true h)

theorem shutterSetOf_none (h : 4096 ≤ mask.toNat) : shutterSetOf mask = none :=
  if_neg (by simpa [maskFits] using h)

/-- The new entry of a key that has a changeable one: it holds the key's own shutter (R108). -/
theorem newEntry_some (hk : k.must = some i) (hm : mask.toNat < 4096) (hi : member mask i.code = true) :
    newEntry k mask = some (.ofFn fun j => member mask j.code) := by
  simp [newEntry, hk, shutterSetOf_some hm, hi]

theorem newEntry_none (hk : k.must = some i) (h : 4096 ≤ mask.toNat ∨ member mask i.code = false) :
    newEntry k mask = none := by
  rcases Nat.lt_or_ge mask.toNat 4096 with hm | hm
  · simp [newEntry, hk, shutterSetOf_some hm, h.resolve_left (Nat.not_le.mpr hm)]
  · simp [newEntry, hk, shutterSetOf_none hm]

theorem newEntry_fixed (hk : k.must = none) : newEntry k mask = none := by
  simp [newEntry, hk]

theorem setDropMap_some {v : ShutterSet} (h : newEntry k mask = some v) : setDropMap mask k s =
    ({ s with retained := { s.retained with dropMap := s.retained.dropMap.put k v } }, .ok []) := by
  rw [setDropMap, h]

theorem setDropMap_none (h : newEntry k mask = none) : setDropMap mask k s = refuse .range s := by
  rw [setDropMap, h]

/-- A changeable entry is replaced, and every other entry stands (R109). -/
theorem DropMap.entry_put (d : DropMap) (hk : k.must = some i) (v : ShutterSet) (j : TriggerKey) :
    (d.put k v).entry j = if j = k then v else d.entry j := by
  cases k with
  | fire => cases hk
  | manual => cases hk
  | filmBreak p => cases j <;> simp [DropMap.put, DropMap.entry]
  | heat p => cases j <;> simp [DropMap.put, DropMap.entry]
  | link p => cases j <;> simp [DropMap.put, DropMap.entry]

/-! ## Levels and scenes (R128) -/

/-- A level byte is in range: absent, or a level (R192). -/
def levelFits (x : Byte) : Prop := x = 0xFF ∨ x.toNat ≤ 100

/-- The level that a byte in range is. -/
def levelValue (x : Byte) : Option Nat := if x = 0xFF then none else some x.toNat

theorem toNat_ff (x : Byte) : x.toNat = 0xFF ↔ x = 0xFF :=
  ⟨fun h => BitVec.eq_of_toNat_eq h, fun h => by rw [h]; rfl⟩

theorem levelOf_some {x : Byte} (h : levelFits x) : optRange 0xFF 0 100 x.toNat = some (levelValue x) := by
  rw [optRange_some (h.imp (toNat_ff x).mpr fun h => ⟨Nat.zero_le _, h⟩)]
  simp only [toNat_ff, levelValue]

theorem levelOf_none {x : Byte} (h : ¬ levelFits x) : optRange 0xFF 0 100 x.toNat = none := by
  obtain ⟨hx, hn⟩ := not_or.mp h
  rw [optRange, if_neg (mt (toNat_ff x).mp hx), inRange_none (.inr (Nat.not_le.mp hn))]
  rfl

theorem levelsOf_some {a b c d : Byte} (ha : levelFits a) (hb : levelFits b) (hc : levelFits c) (hd : levelFits d) :
    levelsOf a b c d = some ⟨levelValue a, levelValue b, levelValue c, levelValue d⟩ := by
  simp only [levelsOf, levelOf_some ha, levelOf_some hb, levelOf_some hc, levelOf_some hd]
  rfl

theorem levelsOf_none {a b c d : Byte} (h : ¬ levelFits a ∨ ¬ levelFits b ∨ ¬ levelFits c ∨ ¬ levelFits d) :
    levelsOf a b c d = none := by
  simp only [levelsOf, Option.bind_eq_bind, Option.bind_eq_none_iff]
  intro a' ha b' hb c' hc d' hd
  exfalso
  rcases h with h | h | h | h
  · rw [levelOf_none h] at ha; cases ha
  · rw [levelOf_none h] at hb; cases hb
  · rw [levelOf_none h] at hc; cases hc
  · rw [levelOf_none h] at hd; cases hd

theorem setScene_some {k : Byte} {v : Levels} (h1 : 1 ≤ k.toNat) (h2 : k.toNat ≤ 8) : setScene k (some v) n s =
    ({ s with retained := { s.retained with
        scenes := s.retained.scenes.set n ((s.retained.scenes.get n).setIfInBounds (k.toNat - 1) v) } }, .ok []) := by
  simp only [setScene, sceneOf, inRange_some h1 h2]

theorem setScene_number {k : Byte} (v : Option Levels) (h : k = 0 ∨ 8 < k.toNat) : setScene k v n s = refuse .range s := by
  simp only [setScene, sceneOf, inRange_zero h]

theorem setScene_levels (k : Byte) : setScene k none n s = refuse .range s := by
  simp [setScene]

/-! ## The travel time (R138) -/

theorem setCurtainTime_some {x : Byte} (h1 : 5 ≤ x.toNat) (h2 : x.toNat ≤ 60) : setCurtainTime x n s =
    ({ s with retained := { s.retained with travelTime := s.retained.travelTime.set n x.toNat } }, .ok []) := by
  rw [setCurtainTime, inRange_some h1 h2]

theorem setCurtainTime_none {x : Byte} (h : x.toNat < 5 ∨ 60 < x.toNat) : setCurtainTime x n s = refuse .range s := by
  rw [setCurtainTime, inRange_none h]

/-! ## The standing table (R139) -/

theorem StandingTable.get_set (y : StandingTable) (k j : StandingKey) (e : Option StandingEntry) :
    (y.set k e).get j = if j = k then e else y.get j := by
  cases k <;> cases j <;> simp [StandingTable.set, StandingTable.get]

theorem levelValue_none {x : Byte} : levelValue x = none ↔ x = 0xFF := by
  unfold levelValue
  split <;> simp_all

/-- The entry that the fields of SET_STANDING are, where they are in range. -/
def standingEntry (a b c d : Byte) (f : Half) (h : Byte) : StandingEntry :=
  ⟨⟨levelValue a, levelValue b, levelValue c, levelValue d⟩, f.toNat, decide (h = 1)⟩

theorem standingEntryOf_some {a b c d h : Byte} {f : Half} (ha : levelFits a) (hb : levelFits b) (hc : levelFits c)
    (hd : levelFits d) (hsome : a ≠ 0xFF ∨ b ≠ 0xFF ∨ c ≠ 0xFF ∨ d ≠ 0xFF) (hf : f.toNat ≤ 6000) (hh : h = 0 ∨ h = 1) :
    standingEntryOf (levelsOf a b c d) f h = some (standingEntry a b c d f h) := by
  have hv : (⟨levelValue a, levelValue b, levelValue c, levelValue d⟩ : Levels) ≠ .const none := by
    simp only [ne_eq, ByPos.const, ByPos.mk.injEq, levelValue_none]
    rintro ⟨rfl, rfl, rfl, rfl⟩
    simp at hsome
  simp only [standingEntryOf, levelsOf_some ha hb hc hd, fadeOf, inRange_some (Nat.zero_le _) hf, flagOf_some hh,
    Option.bind_eq_bind, Option.bind_some]
  exact if_neg hv

theorem standingEntryOf_none {a b c d h : Byte} {f : Half}
    (hbad : ¬ levelFits a ∨ ¬ levelFits b ∨ ¬ levelFits c ∨ ¬ levelFits d ∨
      (a = 0xFF ∧ b = 0xFF ∧ c = 0xFF ∧ d = 0xFF) ∨ 6000 < f.toNat ∨ 1 < h.toNat) :
    standingEntryOf (levelsOf a b c d) f h = none := by
  have hf : levelsOf a b c d = none ∨ (a = 0xFF ∧ b = 0xFF ∧ c = 0xFF ∧ d = 0xFF) ∨ 6000 < f.toNat ∨ 1 < h.toNat := by
    rcases hbad with h | h | h | h | h
    · exact .inl (levelsOf_none (.inl h))
    · exact .inl (levelsOf_none (.inr (.inl h)))
    · exact .inl (levelsOf_none (.inr (.inr (.inl h))))
    · exact .inl (levelsOf_none (.inr (.inr (.inr h))))
    · exact .inr h
  simp only [standingEntryOf, Option.bind_eq_bind, Option.bind_eq_none_iff]
  intro v hv f' hf' h' hh'
  rcases hf with hf | ⟨rfl, rfl, rfl, rfl⟩ | hf | hf
  · rw [hf] at hv; cases hv
  · cases hv; rfl
  · rw [fadeOf, inRange_none (.inr hf)] at hf'; cases hf'
  · rw [flagOf_none hf] at hh'; cases hh'

variable {key : StandingKey}

theorem setStanding_some (e : StandingEntry)
    (h : s.retained.standing.get key ≠ none ∨ s.retained.standing.size < 8) :
    setStanding (some e) key s = (s.setStandingTable (s.retained.standing.set key (some e)), .ok []) := by
  refine if_neg ?_
  rcases h with h | h
  · simp [h]
  · simp [Nat.not_le.mpr h]

theorem setStanding_full (e : StandingEntry) (h : s.retained.standing.get key = none)
    (hn : 8 ≤ s.retained.standing.size) : setStanding (some e) key s = refuse .full s :=
  if_pos (by simp [h, hn])

/-- Settles O33: each request by the fields that it accepts. -/
theorem settingsReplaceTheirOwnItem : Obligations.SettingsReplaceTheirOwnItem := by
  intro s t
  refine ⟨fun h => ⟨fun n hn w => ⟨fun q hw => ?_, fun q hbad => ?_⟩,
    fun k i mask hk hi => ⟨fun hm hmem => ?_, fun hbad => ?_⟩, fun mask hk => ?_⟩, fun h => ⟨fun n hn => ?_, fun k hk => ?_⟩⟩
  · exact (passes_setCuePolicy _ _ _).answers h rfl
      (by rw [hn, withTarget_some, setCuePolicy_some (cuePolicyOf_some q hw)]) h.work
  · exact (passes_setCuePolicy _ _ _).refuses h rfl
      (by rw [hn, withTarget_some, setCuePolicy_none (cuePolicyOf_none hbad)])
  · have hput := s.retained.dropMap.entry_put hi (.ofFn fun j => member mask j.code)
    refine ⟨s.retained.dropMap.put k (.ofFn fun j => member mask j.code), ?_, fun j => ?_, fun k' hk' => ?_⟩
    · exact (passes_setDropMap _ _).answers h rfl
        (by rw [hk, withTarget_some, setDropMap_some (newEntry_some hi hm hmem)]) h.work
    · rw [hput, if_pos rfl, ByShutter.get_ofFn]
    · rw [hput, if_neg hk']
  · exact (passes_setDropMap _ _).refuses h rfl
      (by rw [hk, withTarget_some, setDropMap_none (newEntry_none hi hbad)])
  · obtain ⟨k, hk, hfixed⟩ : ∃ k, triggerOf t = some k ∧ k.must = none := by
      rcases hk with hk | hk
      · exact ⟨_, hk, rfl⟩
      · exact ⟨_, hk, rfl⟩
    exact (passes_setDropMap _ _).refuses h rfl
      (by rw [hk, withTarget_some, setDropMap_none (newEntry_fixed hfixed)])
  · refine ⟨fun k a b c d h1 h2 ha hb hc hd => ?_, fun k a b c d hbad => ?_, fun x h1 h2 => ?_, fun x hbad => ?_⟩
    · exact (passes_setScene _ _ _ _ _ _).answers h rfl
        (by rw [hn, withTarget_some, levelsOf_some ha hb hc hd, setScene_some h1 h2]; rfl) h.work
    · refine (passes_setScene _ _ _ _ _ _).refuses h rfl ?_
      rw [hn, withTarget_some]
      rw [← or_assoc] at hbad
      rcases hbad with hbad | hbad
      · exact setScene_number _ hbad
      · rw [levelsOf_none hbad, setScene_levels]
    · exact (passes_setCurtainTime _ _).answers h rfl (by rw [hn, withTarget_some, setCurtainTime_some h1 h2]) h.work
    · exact (passes_setCurtainTime _ _).refuses h rfl (by rw [hn, withTarget_some, setCurtainTime_none hbad])
  · have hset := s.retained.standing.get_set k
    refine ⟨⟨s.retained.standing.set k none, ?_, ?_, fun j hj => ?_⟩,
      fun a b c d f x ha hb hc hd hsome hf hx => ⟨fun hroom => ?_, fun hnone hfull => ?_⟩, fun a b c d f x hbad => ?_⟩
    · exact (passes_deleteStanding _).answers h rfl (by rw [hk, withTarget_some]; rfl) h.work
    · rw [hset, if_pos rfl]
    · rw [hset, if_neg hj]
    · refine ⟨s.retained.standing.set k (some (standingEntry a b c d f x)), ?_, ?_, fun j hj => ?_⟩
      · exact (passes_setStanding _ _ _ _ _ _ _).answers h rfl
          (by rw [hk, withTarget_some, standingEntryOf_some ha hb hc hd hsome hf hx, setStanding_some _ hroom]; rfl) h.work
      · rw [hset, if_pos rfl]
        rfl
      · rw [hset, if_neg hj]
    · exact (passes_setStanding _ _ _ _ _ _ _).refuses h rfl
        (by rw [hk, withTarget_some, standingEntryOf_some ha hb hc hd hsome hf hx, setStanding_full _ hnone hfull])
    · exact (passes_setStanding _ _ _ _ _ _ _).refuses h rfl
        (by rw [hk, withTarget_some, standingEntryOf_none hbad]; rfl)

end Sys2Proof.Machine
end

section
/-! Two causes of class CHANGE that different blocks have posted in one step reach every record, in either order (R185,
R186). -/

namespace Sys2Proof.Machine

variable {s t : State} {k : AttnClass}

/-- Two records that have the same entry of a class, and the same armed mark. -/
def Attention.Agrees (k : AttnClass) (x y : Attention) : Prop :=
  x.pending.get k = y.pending.get k ∧ x.armed.get k = y.armed.get k

theorem Attention.Agrees.offer {x y : Attention} (h : x.Agrees k y) {c : AttnCause} (hc : c.cls = k) :
    (x.offer c).Agrees k (y.offer c) := by
  subst hc
  obtain ⟨hp, ha⟩ := h
  refine ⟨Attention.offer_congr c hp ha, ?_⟩
  unfold Attention.offer
  rw [ha]
  split
  · exact ha
  · split
    · simp
    · exact ha

theorem Attention.Agrees.offers {l : List AttnCause} (hl : ∀ c ∈ l, c.cls = k) {x y : Attention} (h : x.Agrees k y) :
    (l.foldl Attention.offer x).Agrees k (l.foldl Attention.offer y) := by
  induction l generalizing x y with
  | nil => exact h
  | cons c l ih => exact ih (fun d hd => hl d (by simp [hd])) (h.offer (hl c (by simp)))

theorem State.offers_attn (l : List AttnCause) (s : State) (st : Station) :
    (l.foldl State.offer s).attn st = l.foldl Attention.offer (s.attn st) := by
  induction l generalizing s with
  | nil => rfl
  | cons c l ih => rw [List.foldl_cons, List.foldl_cons, ih, State.offer_attn]

/-- The causes of class CHANGE that a step has posted are offered to every record in one of the orders of R186. -/
theorem State.settlePosts_changes (s : State) : ∃ f, ∀ st, (s.settlePosts.attn st).pending.get .change =
    ((mergePosts s.changes.length s.changes f).1.foldl Attention.offer (s.attn st)).pending.get .change := by
  have hsplit : allClasses = [.fire, .filmBreak, .shutter, .arc] ++ .change :: [.shows, .house, .duty, .link] := by decide
  have hbefore := fun st => s.offerClasses_other (k := .change) st [.fire, .filmBreak, .shutter, .arc] (by decide)
  unfold State.settlePosts
  rw [hsplit, List.foldl_append, List.foldl_cons]
  generalize [AttnClass.fire, .filmBreak, .shutter, .arc].foldl State.offerClass s = t at hbefore ⊢
  obtain ⟨-, -, hw⟩ := hbefore .console
  have hchanges : t.changes = s.changes := State.changes_congr (by rw [hw])
  refine ⟨t.free, fun st => ?_⟩
  obtain ⟨hp, ha, -⟩ := hbefore st
  obtain ⟨hafter, -, -⟩ := (t.offerClass .change).offerClasses_other (k := .change) st [.shows, .house, .duty,
    .link] (by decide)
  have hoffer : (t.offerClass .change).attn st =
      (mergePosts t.changes.length t.changes t.free).1.foldl Attention.offer (t.attn st) := State.offers_attn _ _ st
  rw [hafter, hoffer, hchanges]
  refine (Attention.Agrees.offers (fun c hc => ?_) ⟨hp, ha⟩).1
  obtain ⟨x, hx, rfl⟩ := mem_of_mem_mergePosts _ _ _ hc
  simpa using (List.mem_filter.mp hx).2

/-- The end of a step takes the causes of class CHANGE that the step has posted, and no other. -/
theorem State.settle_changes (ha : t.attention = s.attention) : ∃ f, ∀ st, (t.settle.attn st).pending.get .change =
    ((mergePosts t.changes.length t.changes f).1.foldl Attention.offer (s.attn st)).pending.get .change := by
  have hchanges : t.settleArming.settleTests.settleDuty.changes = t.changes := by
    rw [State.settleDuty_changes, State.settleTests_changes, State.settleArming_changes]
  have hattn : t.settleArming.settleTests.settleDuty.attention = s.attention := by
    have hduty := State.settleDuty_outside t.settleArming.settleTests
    simp only [State.outsideDuty, State.mk.injEq] at hduty
    have hcalm : t.settleArming.settleTests.calm = t.calm := by simp
    have hcalm' : t.settleArming.settleTests.attention = t.attention := congrArg Calm.attention hcalm
    simp only [hduty, hcalm', ha]
  obtain ⟨f, hf⟩ := t.settleArming.settleTests.settleDuty.settlePosts_changes
  refine ⟨f, fun st => ?_⟩
  have hst : t.settleArming.settleTests.settleDuty.attn st = s.attn st := by rw [State.attn, hattn, State.attn]
  rw [State.settle, State.attn_begin, hf, hchanges, hst]

/-- Two causes of different blocks come in either order. -/
theorem mergePosts_pair {b d : Block} (h : b ≠ d) (a c : AttnCause) (f : Nat) :
    (mergePosts 2 [(b, a), (d, c)] f).1 = [a, c] ∨ (mergePosts 2 [(b, a), (d, c)] f).1 = [c, a] := by
  have hone : ∀ e : Block, [e].eraseDups = [e] := fun e => by simp [List.eraseDups_cons]
  have htwo : [b, d].eraseDups = [b, d] := by simp [List.eraseDups_cons, h.symm]
  rcases Nat.mod_two_eq_zero_or_one (Config.freePick f) with hf | hf
  · left
    simp [mergePosts, blocksOf, htwo, hone, hf, h.symm]
  · right
    simp [mergePosts, blocksOf, htwo, hone, hf, h]

/-- A step whose causes of class CHANGE come to two, of different blocks, lets both be heard. -/
theorem State.settle_heardBoth {b d : Block} {a c : AttnCause} (hb : b ≠ d) (ha : t.attention = s.attention)
    (h : t.changes = [(b, a), (d, c)]) : s.HeardBoth t.settle a c := by
  have hcls : a.cls = .change := by
    have hmem : (b, a) ∈ t.changes := by rw [h]; exact List.mem_cons_self
    simpa using (List.mem_filter.mp hmem).2
  obtain ⟨f, hf⟩ := State.settle_changes ha
  intro st
  rw [hcls, hf st, h]
  rcases mergePosts_pair hb a c f with ho | ho
  · left
    exact congrArg (fun l => (List.foldl Attention.offer (s.attn st) l).pending.get .change) ho
  · right
    exact congrArg (fun l => (List.foldl Attention.offer (s.attn st) l).pending.get .change) ho

end Sys2Proof.Machine
end

section
/-! A screen that falls back to SINGLE (R68, R77): its arming check fails on the standby, the LATE requester joins the bell, and
the end of the step leaves both as they are, since it starts THREADED projectors alone. -/

namespace Sys2Proof.Machine

variable {s t u : State} {p q : ProjNo} {n m : ScreenNo}

/-! ## The LATE requester (R82) -/

/-- The LATE requester of a screen, with its silenced mark. -/
def State.lateMark (s : State) (n : ScreenNo) : Option Bool := s.booth.bell.late.get n

theorem Bell.settle_late (b : Bell) : b.settle.late = b.late := by
  unfold Bell.settle
  split
  · split <;> rfl
  · rfl

theorem State.lateMark_of_booth (h : t.booth = s.booth) : t.lateMark n = s.lateMark n := by
  rw [State.lateMark, h, State.lateMark]

theorem State.clearLate_lateMark (s : State) (hm : n ≠ m) : (s.clearLate m).lateMark n = s.lateMark n := by
  change (Bell.settle _).late.get n = _
  rw [Bell.settle_late, ByScreen.get_set, if_neg hm, State.lateMark]

theorem State.setLate_lateMark (s : State) (n : ScreenNo) : ((s.setLate n).lateMark n).isSome = true := by
  change ((Bell.settle _).late.get n).isSome = true
  rw [Bell.settle_late, ByScreen.get_set, if_pos rfl]
  cases s.booth.bell.late.get n <;> rfl

theorem State.setScreenState_lateMark (s : State) (m : ScreenNo) (x : ScreenState) :
    (s.setScreenState m x).lateMark n = s.lateMark n := by
  unfold State.setScreenState
  dsimp only
  split
  · rfl
  · split <;> rfl

theorem State.startOrder_lateMark (s : State) (q : ProjNo) : (s.startOrder q).1.lateMark n = s.lateMark n := by
  unfold State.startOrder
  split <;> rfl

theorem State.releaseBell_lateMark (s : State) (m : ScreenNo) : (s.releaseBell m).lateMark n = s.lateMark n :=
  congrArg (ByScreen.get · n) (Bell.settle_late { s.booth.bell with held := s.booth.bell.held.set m none })

theorem State.haltCore_booth (s : State) (q : ProjNo) {c : HaltCause} (hc : c ≠ .filmBreak) :
    (s.haltCore q c).booth = s.booth := by
  cases hm : (s.projector q).runState.motor with
  | false => rw [State.haltCore_still hm]
  | true =>
    have harcs := s.endShowing_outsideArcs q
    simp only [State.outsideArcs, State.mk.injEq] at harcs
    have hrecord : (s.haltRecord q c).booth = s.booth := by simp [State.haltRecord, harcs]
    have hbreak : s.breakStanding (s.haltRecord q c) q c = s.haltRecord q c := if_neg (by simp [hc])
    rw [State.haltCore_motor hm, hbreak, ← hrecord]
    cases c.posts q <;> rfl

theorem State.interrupt_lateMark (s : State) (hm : n ≠ m) : (s.interrupt m).lateMark n = s.lateMark n := by
  have hstop : (s.stopIdle m).booth = s.booth := by
    rcases s.stopIdle_eq m with ⟨h, -⟩ | ⟨y, -, -, h⟩
    · rw [h]
    · rw [h, State.haltCore_booth s y (by simp)]
  unfold State.interrupt
  split
  · rfl
  · dsimp only
    rw [State.lateMark_of_booth (State.post_booth _ _ _), State.setScreenState_lateMark, State.clearLate_lateMark _ hm]
    exact State.lateMark_of_booth hstop

/-! ## A screen that abides -/

/-- From `s` to `t` a screen's record and LATE requester are the same, and so is the state of its show; some THREADED
projectors may have been started. -/
structure Abides (n : ScreenNo) (s t : State) : Prop where
  stays : Stays n s t
  late : t.lateMark n = s.lateMark n
  starts : Starts s t

theorem Abides.refl (s : State) : Abides n s s := ⟨.refl s, rfl, .refl s⟩

theorem Abides.trans (h : Abides n s t) (k : Abides n t u) : Abides n s u :=
  ⟨h.stays.trans k.stays, k.late.trans h.late, h.starts.trans k.starts⟩

theorem Abides.foldl {ι : Type} (f : State → ι → State) (hf : ∀ t x, Abides n s t → Abides n t (f t x)) (l : List ι)
    (h : Abides n s t) : Abides n s (l.foldl f t) := by
  induction l generalizing t with
  | nil => exact h
  | cons x rest ih => exact ih (h.trans (hf t x h))

/-- A screen in SINGLE whose standby is not THREADED, with the result of the arming check that has found it so (R67). -/
structure Refused (n : ScreenNo) (p : ProjNo) (s : State) : Prop where
  standby : s.standby n = some p
  still : (s.projector p).runState ≠ .threaded
  state : (s.screen n).state = .single
  arming : (s.screen n).arming = .fail .standbyState

theorem State.standby_congr (h : t.screen n = s.screen n) : t.standby n = s.standby n := by
  rw [State.standby, State.showingProj, h, State.standby, State.showingProj]

theorem Refused.abides (h : Refused n p s) (k : Abides n s t) : Refused n p t where
  standby := (State.standby_congr k.stays.screen).trans h.standby
  still := k.starts.runState nofun h.still
  state := by rw [k.stays.screen, h.state]
  arming := by rw [k.stays.screen, h.arming]

/-! ## The arming checks -/

theorem State.armingCheck_lateMark_other (s : State) (hm : n ≠ m) : (s.armingCheck m).lateMark n = s.lateMark n := by
  have hact : ∀ (t : State) (q : ProjNo) (b : Bool), (t.actOnArming m q b).lateMark n = t.lateMark n := by
    intro t q b
    unfold State.actOnArming
    split
    · split
      · exact (State.setScreenState_lateMark _ _ _).trans
          ((State.startOrder_lateMark _ _).trans (t.clearLate_lateMark hm))
      · exact t.setScreenState_lateMark _ _
    · exact t.setScreenState_lateMark _ _
    · rfl
  unfold State.armingCheck
  split
  · split
    · rfl
    · dsimp only
      rw [hact]
      split <;> rfl
  · rfl

/-- The arming check of a standby that is not THREADED leaves the bell (R67, R82). -/
theorem State.armingCheck_lateMark (hp : s.standby n = some p) (ht : (s.projector p).runState ≠ .threaded) :
    (s.armingCheck n).lateMark n = s.lateMark n := by
  have hfails : (s.armingFails n p).isEmpty = false := by simp [State.armingFails, failing, ht]
  have hact : ∀ t : State, (t.actOnArming n p false).lateMark n = t.lateMark n := by
    intro t
    unfold State.actOnArming
    split
    next hb => cases hb
    · exact t.setScreenState_lateMark _ _
    · rfl
  unfold State.armingCheck
  split
  · rw [hp]
    dsimp only
    rw [hfails, hact]
    split <;> rfl
  · rfl

theorem State.armingCheck_shows (s : State) (m : ScreenNo) : (s.armingCheck m).shows = s.shows := by
  have hset : ∀ (t : State) (x : ScreenState), (t.setScreenState m x).shows = t.shows :=
    fun t x => (t.setScreenState_fields m x).2.2.2.1
  have hstart : ∀ (t : State) (q : ProjNo), (t.startOrder q).1.shows = t.shows := by
    intro t q
    unfold State.startOrder
    split <;> rfl
  have hact : ∀ (t : State) (q : ProjNo) (b : Bool), (t.actOnArming m q b).shows = t.shows := by
    intro t q b
    unfold State.actOnArming
    split
    · split
      · exact (hset _ _).trans (hstart _ _)
      · exact hset _ _
    · exact hset _ _
    · rfl
  unfold State.armingCheck
  split
  · split
    · rfl
    · dsimp only
      rw [hact]
      split <;> rfl
  · rfl

theorem Refused.armingCheck (h : Refused n p s) (m : ScreenNo) : Abides n s (s.armingCheck m) := by
  by_cases hm : n = m
  · subst hm
    refine ⟨⟨?_, ?_⟩, State.armingCheck_lateMark h.standby h.still, State.armingCheck_starts s n⟩
    · rw [State.armingCheck_of_not_threaded s h.standby h.still (.inl h.state), ← h.state, ← h.arming]
    · rw [State.showRec, State.armingCheck_shows, State.showRec]
  · exact ⟨.armingCheck_other s hm, s.armingCheck_lateMark_other hm, State.armingCheck_starts s m⟩

/-! ## The readiness tests -/

theorem State.storeReadiness_lateMark (s : State) (m : ScreenNo) : (s.storeReadiness m).lateMark n = s.lateMark n := by
  unfold State.storeReadiness State.carbonNotice
  split
  · split <;> rfl
  · rfl

theorem State.startShow_lateMark (s : State) (hm : n ≠ m) : (s.startShow m).lateMark n = s.lateMark n := by
  have hgive : ∀ t : State, (t.giveStart m).lateMark n = t.lateMark n := by
    intro t
    have hopen : ∀ (f : Screen → Screen) (q : ProjNo),
        (((t.modScreen m f).setScreenState m .starting).startOrder q).1.lateMark n = t.lateMark n :=
      fun f q => (State.startOrder_lateMark _ _).trans (State.setScreenState_lateMark _ _ _)
    unfold State.giveStart State.beginOpening
    split
    · dsimp only
      split
      · exact hopen _ _
      · exact (State.interrupt_lateMark _ hm).trans (hopen _ _)
    · rfl
  have hhouse : ∀ t : State, (t.houseShowStart m).lateMark n = t.lateMark n := fun t => by
    have h := State.outsideHouse_congr ((t.setMarks m 0#16).fireWhere_outsideHouse m fun c =>
      decide (c.anchor = .showStart))
    unfold State.houseShowStart
    rw [h]
    rfl
  have hstart := fun r : ShowRec => (hhouse _).trans (hgive (s.setShow m r))
  unfold State.startShow
  dsimp only
  split
  · exact (State.releaseBell_lateMark _ m).trans (hstart _)
  · exact hstart _

theorem Abides.retest (s : State) (m : ScreenNo) (h : (s.screen n).state ≠ .dark) : Abides n s (s.retest m) := by
  by_cases hm : n = m
  · subst hm
    refine ⟨.retest s fun _ => h, ?_, State.retest_starts s n⟩
    unfold State.retest
    split
    · exact s.storeReadiness_lateMark n
    · dsimp only
      rw [if_neg]
      · exact s.storeReadiness_lateMark n
      · rw [State.storeReadiness_result]
        intro hpass
        obtain ⟨_, -, hdark, -⟩ := State.readiness_pass s hpass
        exact h hdark
    · rfl
  · refine ⟨.retest_other s hm, ?_, State.retest_starts s m⟩
    unfold State.retest
    split
    · exact s.storeReadiness_lateMark m
    · dsimp only
      split
      · exact (State.startShow_lateMark _ hm).trans (s.storeReadiness_lateMark m)
      · exact s.storeReadiness_lateMark m
    · rfl

/-- The end of a step leaves a screen that its arming check has refused, and starts THREADED projectors at most. -/
theorem Refused.settle (h : Refused n p s) : Abides n s s.settle := by
  have harm : Abides n s s.settleArming := by
    refine .foldl _ (fun t m k => ?_) _ (.refl s)
    split
    · exact (h.abides k).armingCheck m
    · exact .refl t
  have htest : Abides n s s.settleArming.settleTests := by
    refine .foldl _ (fun t m k => ?_) _ harm
    split
    · exact .retest t m (by rw [(h.abides k).state]; nofun)
    · exact .refl t
  obtain ⟨-, -, -, -, -, hscreens, hbooth, -, -, -, hshows⟩ := s.settle_rest
  exact ⟨htest.stays.trans (.of_fields hscreens hshows), (State.lateMark_of_booth hbooth).trans htest.late,
    State.settle_starts s⟩

end Sys2Proof.Machine
end

section
/-! The timers of a tracker that run out (R45, R46): the halt of their projector, and the state in which its sequencer takes
that halt. -/

namespace Sys2Proof.Machine

variable {s w : State} {p x y : ProjNo} {n : ScreenNo}

/-! ## The start-failure timer -/

theorem exec_startFailure (h : s.Awake) (p : ProjNo) :
    exec (.startFailureTimerExpiry p) s = .next (s.startFailure p).settle := event_of_awake h fun s => s.startFailure p

theorem State.startFailure_starting (ht : (s.tracker p).startTimer ≠ none) (hr : (s.projector p).runState = .starting) :
    s.startFailure p = (s.setTracker p { s.tracker p with startTimer := none }).haltEvent p .startFail := by
  rw [State.startFailure, if_pos (Option.isSome_iff_ne_none.mpr ht)]
  exact if_pos hr

theorem State.startFailure_elsewhere (ht : (s.tracker p).startTimer ≠ none) (hr : (s.projector p).runState ≠ .starting) :
    s.startFailure p = s.setTracker p { s.tracker p with startTimer := none } := by
  rw [State.startFailure, if_pos (Option.isSome_iff_ne_none.mpr ht)]
  exact if_neg hr

theorem State.startFailure_idle (ht : (s.tracker p).startTimer = none) : s.startFailure p = s :=
  if_neg (by simp [ht])

/-! ## The stall timer -/

theorem exec_stallExpiry (h : s.Awake) (p : ProjNo) : exec (.stallTimerExpiry p) s = .next (s.stallExpiry p).settle :=
  event_of_awake h fun s => s.stallExpiry p

theorem State.stallExpiry_running (ht : (s.tracker p).stallTimer ≠ none) :
    s.stallExpiry p = (s.setTracker p { s.tracker p with stallTimer := none }).haltEvent p .stall :=
  if_pos (Option.isSome_iff_ne_none.mpr ht)

theorem State.stallExpiry_idle (ht : (s.tracker p).stallTimer = none) : s.stallExpiry p = s :=
  if_neg (by simp [ht])

/-- A timer of its tracker that has run out halts a projector in a motor state. -/
theorem State.timer_halts {k : Tracker} {c : HaltCause} (hm : (s.projector p).runState.motor = true)
    (hk : k.counter = (s.tracker p).counter) :
    (((s.setTracker p k).haltEvent p c).settle.projector p =
      { s.projector p with runState := .halted, haltCause := some c, douser := .closed }) ∧
    (((s.setTracker p k).haltEvent p c).settle.tracker p).counter = (s.tracker p).counter ∧
    (((s.setTracker p k).haltEvent p c).settle.tracker p).startTimer = none ∧
    (((s.setTracker p k).haltEvent p c).settle.tracker p).stallTimer = none := by
  have hrun := State.settle_run_of (State.haltEvent_run (s := s.setTracker p k) hm c) nofun
  have htracker := congrArg Run.tracker hrun
  rw [State.run_tracker] at htracker
  rw [htracker]
  refine ⟨congrArg Run.projector hrun, ?_, rfl, rfl⟩
  exact (congrArg Tracker.counter ((State.tracker_setTracker s p p k).trans (if_pos rfl))).trans hk

/-! ## The state of a stall -/

/-- Projector `x` has halted with STALL, and nothing else has been done since `s` but to send the notices of the halt. -/
structure StallHalt (s : State) (x : ProjNo) (w : State) : Prop where
  calm : w.calm = s.calm
  self : w.projector x = { s.projector x with runState := .halted, haltCause := some .stall, douser := .closed }
  counter : (w.tracker x).counter = (s.tracker x).counter
  others : ∀ y, y ≠ x → w.projector y = s.projector y ∧ w.tracker y = s.tracker y
  screens : w.screens = s.screens
  shows_ : w.shows = s.shows
  posts : w.work.posts = [(.projector x, .halt x .stall)]

/-- The stall timer of a projector in a motor state runs out: it halts, and then its sequencer takes the halt. -/
theorem exec_stall (h : s.Awake) (ht : (s.tracker x).stallTimer ≠ none) (hm : (s.projector x).runState.motor = true) :
    ∃ w, StallHalt s x w ∧ exec (.stallTimerExpiry x) s = .next (w.onHalt x).settle := by
  have hm' : ((s.setTracker x { s.tracker x with stallTimer := none }).projector x).runState.motor = true := hm
  obtain ⟨hp, htr, -, hs, hw, hposts⟩ := State.haltCore_fields (c := .stall) hm' (by simp)
  have hcalm := (s.setTracker x { s.tracker x with stallTimer := none }).haltCore_calm x .stall
  refine ⟨_, ⟨hcalm, (hp x).trans (if_pos rfl), ?_, fun y hy => ⟨(hp y).trans (if_neg hy), ?_⟩, hs, hw, ?_⟩, ?_⟩
  · rw [htr, if_pos rfl, State.tracker_setTracker, if_pos rfl]
    rfl
  · rw [htr, if_neg hy, State.tracker_setTracker, if_neg hy]
  · rw [hposts, State.setTracker_work, h.work]
    rfl
  · rw [exec_stallExpiry h, State.stallExpiry_running ht, State.haltEvent_motor hm']

namespace StallHalt

variable (h : StallHalt s x w)

include h

theorem screen (n : ScreenNo) : w.screen n = s.screen n := by rw [State.screen, h.screens, State.screen]

theorem showRec (n : ScreenNo) : w.showRec n = s.showRec n := by rw [State.showRec, h.shows_, State.showRec]

theorem loaded (y : ProjNo) : (w.projector y).loaded = (s.projector y).loaded := by
  by_cases hy : y = x
  · rw [hy, h.self]
  · rw [(h.others y hy).1]

theorem counters (y : ProjNo) : (w.tracker y).counter = (s.tracker y).counter := by
  by_cases hy : y = x
  · rw [hy, h.counter]
  · rw [(h.others y hy).2]

theorem loadedRecord (y : ProjNo) : w.loadedRecord y = s.loadedRecord y :=
  State.loadedRecord_congr (h.loaded y) (State.bankView_of_calm h.calm)

theorem atPictureEnd (y : ProjNo) : w.atPictureEnd y = s.atPictureEnd y :=
  State.atPictureEnd_congr (h.loadedRecord y) (h.counters y)

theorem leadIn (y : ProjNo) : w.leadIn y = s.leadIn y := by
  rw [State.leadIn, h.loadedRecord, ← State.leadIn]

theorem permit (y : ProjNo) : w.permit y = s.permit y := by
  rw [State.permit, State.shutter, State.shutterUnit_of_calm h.calm, ← State.shutter, ← State.permit]

theorem atSpeed (hy : y ≠ x) : w.atSpeed y = s.atSpeed y := by
  obtain ⟨hp, ht⟩ := h.others y hy
  rw [State.atSpeed, hp, ht, ← State.atSpeed]

theorem not_stoppable : ¬ w.stoppable x := by simp [State.stoppable, h.self]

theorem changes : w.changes = [(.projector x, .halt x .stall)] := by
  rw [State.changes, h.posts]
  rfl

theorem attention : w.attention = s.attention := congrArg Calm.attention h.calm

end StallHalt

end Sys2Proof.Machine
end

section
/-! The halt of the showing projector (R76): an interruption, the rescue of a rolling screen by an incoming at speed, or the
completion of a swap by rescue. The showing projector is `q`, and the standby `q.other`. -/

namespace Sys2Proof.Machine

variable {s t v w : State} {p q : ProjNo} {n : ScreenNo} {k : Nat}

/-- The stall timer of a projector that shows on its screen runs out. -/
structure ShowingStall (s : State) (q : ProjNo) : Prop where
  awake : s.Awake
  timer : (s.tracker q).stallTimer ≠ none
  showing : (s.projector q).runState = .showing
  side : (s.screen q.screen).showingSide = some q.side

theorem ShowingStall.exec_stall (h : ShowingStall s q) :
    ∃ w, StallHalt s q w ∧ exec (.stallTimerExpiry q) s = .next (w.onHalt q).settle :=
  Machine.exec_stall h.awake h.timer (by rw [h.showing]; rfl)

/-! ## The notice reaches the sequencer -/

theorem State.onHalt_showing (hside : (w.screen q.screen).showingSide = some q.side)
    (hd : (w.screen q.screen).state ≠ .dark)
    (hs : (w.screen q.screen).state ≠ .starting) : w.onHalt q = w.showingHalt q.screen := by
  unfold State.onHalt
  dsimp only
  split
  next h => exact absurd h hd
  next h => exact absurd h hs
  · exact if_pos (State.showingProj_of_side hside)

theorem State.onHalt_standby (hside : (w.screen q.screen).showingSide = some q.side)
    (hd : (w.screen q.screen).state ≠ .dark)
    (hs : (w.screen q.screen).state ≠ .starting) : w.onHalt q.other = w.standbyHalt q.screen := by
  have hn : w.showingProj q.screen ≠ some q.other := by
    rw [State.showingProj_of_side hside]
    exact fun h => ProjNo.other_ne q (Option.some.inj h).symm
  unfold State.onHalt
  dsimp only
  split
  next h => exact absurd h hd
  next h => exact absurd h hs
  · exact if_neg hn

/-- A screen on which the halt of the showing projector is an interruption (R76). -/
def State.unrescued (w : State) (q : ProjNo) : Prop :=
  (w.screen q.screen).state = .single ∨ (w.screen q.screen).state = .armed ∨ (w.screen q.screen).state = .final ∨
    ((w.screen q.screen).state = .rolling ∧ w.atSpeed q.other = false)

theorem State.unrescued.running (h : w.unrescued q) :
    (w.screen q.screen).state ≠ .dark ∧ (w.screen q.screen).state ≠ .starting := by
  rcases h with h | h | h | ⟨h, -⟩
  · simp [h]
  · simp [h]
  · simp [h]
  · simp [h]

theorem State.onHalt_unrescued (hside : (w.screen q.screen).showingSide = some q.side) (h : w.unrescued q) :
    w.onHalt q = w.interrupt q.screen := by
  rw [State.onHalt_showing hside h.running.1 h.running.2, State.showingHalt]
  rcases h with h | h | h | ⟨h, hslow⟩
  · rw [h]
  · rw [h]
  · rw [h]
  · rw [h, State.standby_of_side hside]
    exact if_neg (by simp [hslow])

/-! ## The interruption (R66) -/

/-- The reel to be shown next, where the projector that holds the current one is not stopped (R66, step 2). -/
theorem State.stopIdle_settledReel (hk : (w.screen q.screen).currentReel = some k) (hq : (w.projector q).loaded = some k)
    (hp : (w.projector q.other).loaded ≠ some k) (hstop : ¬ w.stoppable q) :
    (w.stopIdle q.screen).settledReel q.screen = some (if w.atPictureEnd q then k + 1 else k) := by
  obtain ⟨hloaded, hkeep, -, hscreens, -, -⟩ := w.stopIdle_fields q.screen
  have hcurrent : ((w.stopIdle q.screen).screen q.screen).currentReel = some k := by
    rw [State.screen, hscreens, ← State.screen, hk]
  have hend : (w.stopIdle q.screen).atPictureEnd q = w.atPictureEnd q :=
    State.atPictureEnd_congr (State.loadedRecord_congr (hloaded q) (State.bankView_of_calm (w.stopIdle_calm _)))
      (by rw [(hkeep q hstop).2])
  have hhold : (w.stopIdle q.screen).holderOf q.screen k = some q := by
    have hq' := (hloaded q).trans hq
    have hp' : ((w.stopIdle q.screen).projector q.other).loaded ≠ some k := by rwa [hloaded]
    generalize w.stopIdle q.screen = u at hq' hp'
    obtain ⟨m, d⟩ := q
    cases d <;> simp_all [State.holderOf, projectorsOf, ProjNo.other, Side.other]
  rw [State.settledReel, hcurrent]
  dsimp only
  rw [hhold]
  dsimp only
  rw [hend]
  split
  · rfl
  · rfl

theorem State.stopIdle_stops (hidle : w.idleProj n = some p) (hstop : w.stoppable p) : (w.stopIdle n).projector p =
    { w.projector p with runState := .halted, haltCause := some .stop, douser := .closed } := by
  have hm : (w.projector p).runState.motor = true := by rcases hstop with h | h <;> rw [h] <;> rfl
  obtain ⟨hp, -⟩ := State.haltCore_fields (c := .stop) hm (by simp)
  rcases w.stopIdle_eq n with ⟨-, hn⟩ | ⟨y, hy, -, heq⟩
  · exact absurd hstop (hn p hidle)
  · rw [Option.some.inj (hidle.symm.trans hy)] at hp ⊢
    rw [heq, hp, if_pos rfl]

/-- The record of an interrupted screen, at the end of a step in which no held show can start on it. -/
theorem State.interrupt_settle (hd : (w.screen n).state ≠ .dark) (hheld : (w.showRec n).state ≠ .held) :
    (w.interrupt n).settle.screen n = { (w.screen n).darkened with
      currentReel := (w.stopIdle n).settledReel n, lateMotor := false, state := .dark } := by
  obtain ⟨hscreen, -, -, hshows, -⟩ := State.interrupt_fields hd
  have hheld' : ((w.interrupt n).showRec n).state ≠ .held := by rwa [State.showRec, hshows, ← State.showRec]
  rw [(State.settle_stays (s := w.interrupt n) (n := n) (by simp [hscreen]) (by simp [hscreen])
    fun h => absurd h hheld').screen, hscreen]

/-- What the stall of the showing projector `q` leads to where the screen is interrupted. -/
def State.WentDark (s : State) (q : ProjNo) (t : State) : Prop :=
  (t.screen q.screen).state = .dark ∧ (t.screen q.screen).showingSide = none ∧ (t.screen q.screen).lateMotor = false ∧
  (t.screen q.screen).swapPending = false ∧ (t.screen q.screen).swapFailed = false ∧
  (t.screen q.screen).immediate = false ∧ (t.screen q.screen).confirmTimer = none ∧
  (t.screen q.screen).closeWatch = none ∧ (t.screen q.screen).sound = (s.screen q.screen).sound ∧
  (∀ k, (s.screen q.screen).currentReel = some k → (s.projector q).loaded = some k →
    (s.projector q.other).loaded ≠ some k → s.atPictureEnd q = false → (t.screen q.screen).currentReel = some k) ∧
  ((s.projector q.other).runState = .starting ∨ (s.projector q.other).runState = .running →
    t.projector q.other = { s.projector q.other with runState := .halted, haltCause := some .stop, douser := .closed }) ∧
  s.HeardBoth t (.halt q .stall) (.dark q.screen)

theorem StallHalt.interrupts (h : StallHalt s q w) (hside : (s.screen q.screen).showingSide = some q.side)
    (hd : (s.screen q.screen).state ≠ .dark) (ho : (s.screen q.screen).opening = none)
    (hheld : (s.showRec q.screen).state ≠ .held) : s.WentDark q (w.interrupt q.screen).settle := by
  have hd' : (w.screen q.screen).state ≠ .dark := by rwa [h.screen]
  have hsettle := State.interrupt_settle hd' (by rwa [h.showRec])
  obtain ⟨-, hprojs, -, -, hposts⟩ := State.interrupt_fields hd'
  rw [h.screen] at hsettle
  have hother := (h.others q.other (ProjNo.other_ne q)).1
  have hidle : w.idleProj q.screen = some q.other := by
    rw [State.idleProj_of_no_opening w (by rw [h.screen, ho]), State.standby_of_side (by rw [h.screen, hside])]
  rw [State.WentDark, hsettle]
  refine ⟨rfl, rfl, rfl, rfl, rfl, rfl, rfl, rfl, rfl, fun k hk hq hp he => ?_, fun hstop => ?_, ?_⟩
  · refine (State.stopIdle_settledReel (by rw [h.screen, hk]) (by rw [h.loaded, hq]) (by rwa [h.loaded])
      h.not_stoppable).trans ?_
    rw [h.atPictureEnd, he]
    rfl
  · have hstopped := State.stopIdle_stops hidle (by rwa [State.stoppable, hother])
    have hproj : (w.interrupt q.screen).projector q.other =
        { s.projector q.other with runState := .halted, haltCause := some .stop, douser := .closed } := by
      rw [State.projector, hprojs, ← hother]
      exact hstopped
    rw [((w.interrupt q.screen).settle_projector q.other (by rw [hproj]; nofun)).1, hproj]
  · refine State.settle_heardBoth (b := .projector q) (d := .sequencer q.screen) nofun ?_ ?_
    · exact (congrArg Calm.attention (w.interrupt_calm _)).trans h.attention
    · rw [State.changes, hposts, h.posts]
      rfl

theorem stall_interrupts (hst : ShowingStall s q) (hs : s.unrescued q) (ho : (s.screen q.screen).opening = none)
    (hheld : (s.showRec q.screen).state ≠ .held) : Leads (.stallTimerExpiry q) s (s.WentDark q) := by
  obtain ⟨w, h, hexec⟩ := hst.exec_stall
  have hs' : w.unrescued q := by rwa [State.unrescued, h.screen, h.atSpeed (ProjNo.other_ne q)]
  rw [State.onHalt_unrescued (by rw [h.screen, hst.side]) hs'] at hexec
  exact ⟨_, hexec, h.interrupts hst.side hs.running.1 ho hheld⟩

/-! ## The rescue of a rolling screen -/

theorem State.running_of_atSpeed (h : v.atSpeed p = true) : (v.projector p).runState = .running := by
  simp only [State.atSpeed, Bool.and_eq_true, decide_eq_true_eq] at h
  exact h.1

theorem State.openTest_opens (hs : (v.screen n).state = .starting) (ho : (v.screen n).opening = some p)
    (hspeed : v.atSpeed p = true) (hlead : v.leadIn p ≤ (v.tracker p).counter)
    (hnone : (v.screen n).confirmTimer = none) (hpermit : v.permit p = true) : v.openTest n =
      (v.setProjector p { v.projector p with douser := .opened }).modScreen n
        fun r => { r with confirmTimer := timerFor p } := by
  have htaken : v.openOrder p = (v.setProjector p { v.projector p with douser := .opened }, true) :=
    if_pos (by simp [State.running_of_atSpeed hspeed, hpermit])
  rw [State.openTest, hs, ho]
  dsimp only
  rw [if_pos (by simp [hspeed, hlead, hnone]), htaken]
  rfl

theorem State.openTest_short (hs : (v.screen n).state = .starting) (ho : (v.screen n).opening = some p)
    (hlead : (v.tracker p).counter < v.leadIn p) : v.openTest n = v := by
  rw [State.openTest, hs, ho]
  exact if_neg (by simp [Nat.not_le.mpr hlead])

/-- The record of a rolling screen that is rescued (R76), before the open test. -/
def Screen.rescued (r : Screen) (p : ProjNo) : Screen :=
  { r with state := .starting, opening := some p, showingSide := none, sound := p.side, swapPending := false,
           immediate := false, swapFailed := false }

/-- A rolling screen that has named its opening projector (R76). -/
def State.rescue (w : State) (n : ScreenNo) (p : ProjNo) : State :=
  ((w.modScreen n fun r => { r with
    opening := some p, showingSide := none, sound := p.side, swapPending := false, immediate := false,
    swapFailed := false }).setScreenState n .starting).post (.sequencer n) (.rescue n)

theorem State.rescueRolling_eq (w : State) (n : ScreenNo) (p : ProjNo) : w.rescueRolling n p = (w.rescue n p).openTest n :=
  rfl

theorem State.rescue_fields (w : State) (n : ScreenNo) (p : ProjNo) :
    (w.rescue n p).screen n = (w.screen n).rescued p ∧ (w.rescue n p).projectors = w.projectors ∧
      (w.rescue n p).trackers = w.trackers ∧ (w.rescue n p).calm = w.calm ∧
      (w.rescue n p).work.posts = w.work.posts ++ [(.sequencer n, .rescue n)] := by
  obtain ⟨h1, h2, h3, -, h5⟩ := w.modState_fields n (fun r => { r with
    opening := some p, showingSide := none, sound := p.side, swapPending := false, immediate := false,
    swapFailed := false }) .starting
  exact ⟨h1, h2, h3, by simp [State.rescue], congrArg (· ++ [(Block.sequencer n, AttnCause.rescue n)]) h5⟩

/-- A screen in STARTING, with the halt and the rescue posted, comes out of the end of the step as it went in. -/
theorem StallHalt.rescued (h : StallHalt s q w) (hc : t.calm = w.calm) (hs : (t.screen n).state = .starting)
    (hp : t.work.posts = w.work.posts ++ [(.sequencer n, .rescue n)]) :
    t.settle.screen n = t.screen n ∧ s.HeardBoth t.settle (.halt q .stall) (.rescue n) := by
  have hstays := State.settle_stays (s := t) (n := n) (by simp [hs]) (by simp [hs]) fun _ => by simp [hs]
  refine ⟨hstays.screen, State.settle_heardBoth (b := .projector q) (d := .sequencer n) nofun ?_ ?_⟩
  · exact (congrArg Calm.attention hc).trans h.attention
  · rw [State.changes, hp, h.posts]
    rfl

theorem stall_rescues (hst : ShowingStall s q) (hs : (s.screen q.screen).state = .rolling)
    (hspeed : s.atSpeed q.other = true) : ∃ w, StallHalt s q w ∧
      exec (.stallTimerExpiry q) s = .next ((w.rescue q.screen q.other).openTest q.screen).settle := by
  obtain ⟨w, h, hexec⟩ := hst.exec_stall
  have hside' : (w.screen q.screen).showingSide = some q.side := by rw [h.screen, hst.side]
  have hs' : (w.screen q.screen).state = .rolling := by rw [h.screen, hs]
  have hspeed' : w.atSpeed q.other = true := by rw [h.atSpeed (ProjNo.other_ne q), hspeed]
  refine ⟨w, h, ?_⟩
  rw [hexec, State.onHalt_showing hside' (by simp [hs']) (by simp [hs']), State.showingHalt, hs',
    State.standby_of_side hside']
  dsimp only
  rw [if_pos hspeed', State.rescueRolling_eq]

/-- What a rescue leaves of the records that the open test reads. -/
theorem StallHalt.rescue_reads (h : StallHalt s q w) : (w.rescue q.screen q.other).leadIn q.other = s.leadIn q.other ∧
    (w.rescue q.screen q.other).projector q.other = s.projector q.other ∧
    (w.rescue q.screen q.other).tracker q.other = s.tracker q.other ∧
    (w.rescue q.screen q.other).permit q.other = s.permit q.other := by
  obtain ⟨-, hprojs, htrackers, hcalm, -⟩ := w.rescue_fields q.screen q.other
  obtain ⟨hp, ht⟩ := h.others q.other (ProjNo.other_ne q)
  have hproj : (w.rescue q.screen q.other).projector q.other = w.projector q.other := by
    rw [State.projector, hprojs, ← State.projector]
  refine ⟨?_, hproj.trans hp, by rw [State.tracker, htrackers, ← State.tracker, ht], ?_⟩
  · rw [State.leadIn, State.loadedRecord_congr (by rw [hproj]) (State.bankView_of_calm hcalm), ← State.leadIn, h.leadIn]
  · rw [State.permit, State.shutter, State.shutterUnit_of_calm hcalm, ← State.shutter, ← State.permit, h.permit]

/-- The incoming stands at its lead-in or above it, and its port is UP: the rescue opens it (R64, R76). -/
theorem stall_rescue_opens (hst : ShowingStall s q) (hs : (s.screen q.screen).state = .rolling)
    (hspeed : s.atSpeed q.other = true) (hlead : s.leadIn q.other ≤ (s.tracker q.other).counter)
    (hnone : (s.screen q.screen).confirmTimer = none) (hpermit : s.permit q.other = true) :
    Leads (.stallTimerExpiry q) s fun t =>
      t.screen q.screen = { (s.screen q.screen).rescued q.other with confirmTimer := timerFor q.other } ∧
      t.projector q.other = { s.projector q.other with douser := .opened } ∧
      s.HeardBoth t (.halt q .stall) (.rescue q.screen) := by
  obtain ⟨w, h, hexec⟩ := stall_rescues hst hs hspeed
  obtain ⟨hscreen, -, -, hcalm, hposts⟩ := w.rescue_fields q.screen q.other
  obtain ⟨hl, hp, htr, hper⟩ := h.rescue_reads
  rw [h.screen] at hscreen
  generalize w.rescue q.screen q.other = v at *
  rw [State.openTest_opens (p := q.other) (by rw [hscreen]; rfl) (by rw [hscreen]; rfl)
    (by rwa [State.atSpeed, hp, htr]) (by rwa [hl, htr]) (by rw [hscreen]; exact hnone) (by rwa [hper]), hp] at hexec
  have hopened : ((v.setProjector q.other { s.projector q.other with douser := .opened }).modScreen q.screen
      fun r => { r with confirmTimer := timerFor q.other }).screen q.screen =
      { (s.screen q.screen).rescued q.other with confirmTimer := timerFor q.other } := by
    rw [State.modScreen, State.screen_setScreen, if_pos rfl, ← hscreen]
    rfl
  have hproj : ((v.setProjector q.other { s.projector q.other with douser := .opened }).modScreen q.screen
      fun r => { r with confirmTimer := timerFor q.other }).projector q.other =
      { s.projector q.other with douser := .opened } := (State.projector_setProjector _ _ _ _).trans (if_pos rfl)
  obtain ⟨hend, hheard⟩ := h.rescued (n := q.screen) (t := (v.setProjector q.other
    { s.projector q.other with douser := .opened }).modScreen q.screen fun r => { r with confirmTimer := timerFor q.other })
    hcalm (by rw [hopened]; rfl) hposts
  have hrun := State.running_of_atSpeed hspeed
  exact ⟨_, hexec, hend.trans hopened, by rw [(State.settle_projector _ q.other (by rw [hproj, hrun]; nofun)).1, hproj],
    hheard⟩

/-- The incoming is short of its lead-in: it is not opened yet (R64, R76). -/
theorem stall_rescue_short (hst : ShowingStall s q) (hs : (s.screen q.screen).state = .rolling)
    (hspeed : s.atSpeed q.other = true) (hlead : (s.tracker q.other).counter < s.leadIn q.other) :
    Leads (.stallTimerExpiry q) s fun t =>
      t.screen q.screen = (s.screen q.screen).rescued q.other ∧ t.projector q.other = s.projector q.other ∧
      s.HeardBoth t (.halt q .stall) (.rescue q.screen) := by
  obtain ⟨w, h, hexec⟩ := stall_rescues hst hs hspeed
  obtain ⟨hscreen, -, -, hcalm, hposts⟩ := w.rescue_fields q.screen q.other
  obtain ⟨hl, hp, htr, -⟩ := h.rescue_reads
  rw [h.screen] at hscreen
  generalize w.rescue q.screen q.other = v at *
  rw [State.openTest_short (p := q.other) (by rw [hscreen]; rfl) (by rw [hscreen]; rfl) (by rwa [hl, htr])] at hexec
  obtain ⟨hend, hheard⟩ := h.rescued hcalm (n := q.screen) (by rw [hscreen]; rfl) hposts
  have hrun := State.running_of_atSpeed hspeed
  exact ⟨_, hexec, hend.trans hscreen, by rw [(State.settle_projector _ q.other (by rw [hp, hrun]; nofun)).1, hp], hheard⟩

/-! ## The rescue of a swapping screen -/

theorem stall_completes_swap (hst : ShowingStall s q) (hs : (s.screen q.screen).state = .swapping) :
    Leads (.stallTimerExpiry q) s fun t =>
      t.screen q.screen =
        { s.screen q.screen with state := .starting, opening := some q.other, showingSide := none, closeWatch := none } ∧
      s.HeardBoth t (.halt q .stall) (.rescue q.screen) := by
  obtain ⟨w, h, hexec⟩ := hst.exec_stall
  have hside' : (w.screen q.screen).showingSide = some q.side := by rw [h.screen, hst.side]
  have hs' : (w.screen q.screen).state = .swapping := by rw [h.screen, hs]
  rw [State.onHalt_showing hside' (by simp [hs']) (by simp [hs']), State.showingHalt, hs',
    State.standby_of_side hside'] at hexec
  obtain ⟨hscreen, -, -, -, hposts⟩ := w.modState_fields q.screen (fun r => { r with
    opening := some q.other, showingSide := none, closeWatch := none }) .starting
  have hscreen' : (w.rescueSwapping q.screen q.other).screen q.screen =
      { s.screen q.screen with state := .starting, opening := some q.other, showingSide := none, closeWatch := none } := by
    rw [← h.screen]
    exact hscreen
  obtain ⟨hend, hheard⟩ := h.rescued (n := q.screen) (t := w.rescueSwapping q.screen q.other) (by simp)
    (by rw [hscreen']) (congrArg (· ++ [(Block.sequencer q.screen, AttnCause.rescue q.screen)]) hposts)
  exact ⟨_, hexec, hend.trans hscreen', hheard⟩

end Sys2Proof.Machine
end

section
/-! The halt of the standby (R77): the screen stays in SINGLE or falls back to it with the motor late, or a swap whose outgoing
stands at E is closed; and the statement on failures is put together. The standby is `q.other`. -/

namespace Sys2Proof.Machine

variable {s t v w : State} {p q : ProjNo} {n : ScreenNo} {k : Nat}

/-! ## Back to SINGLE -/

/-- An arming check that has refused the standby, at the end of a step (R67, R68). -/
theorem State.armingCheck_refused (hp : v.standby n = some p) (ht : (v.projector p).runState ≠ .threaded)
    (hs : (v.screen n).state = .single ∨ (v.screen n).state = .armed) : Refused n p (v.armingCheck n) := by
  have hscreen := v.armingCheck_of_not_threaded hp ht hs
  refine ⟨?_, (State.armingCheck_starts v n).runState nofun ht, by rw [hscreen], by rw [hscreen]⟩
  rw [State.standby, State.showingProj, hscreen]
  exact hp

/-- The screen falls back to SINGLE on a standby that is not THREADED, with the motor late (R77, R82). -/
theorem State.backToSingle_settle (hp : v.standby n = some p) (ht : (v.projector p).runState ≠ .threaded) :
    (v.backToSingle n).settle.screen n =
        { v.screen n with lateMotor := true, state := .single, arming := .fail .standbyState } ∧
      ((v.backToSingle n).settle.lateMark n).isSome = true ∧
      ∀ y, (v.projector y).runState ≠ .threaded → (v.backToSingle n).settle.projector y = v.projector y := by
  obtain ⟨hscreen, hprojs, htrackers, -, -⟩ := (v.setLate n).setScreenState_fields n .single
  have hlate : (((v.setLate n).setScreenState n .single).lateMark n).isSome = true := by
    rw [State.setScreenState_lateMark, State.setLate_lateMark]
  rw [State.setLate_screen] at hscreen
  have hunfold : v.backToSingle n = ((v.setLate n).setScreenState n .single).armingCheck n := rfl
  have hproj : ∀ y, ((v.setLate n).setScreenState n .single).projector y = v.projector y := fun y => by
    rw [State.projector, hprojs]
    rfl
  rw [hunfold]
  generalize (v.setLate n).setScreenState n .single = u at *
  have hstandby : u.standby n = some p := by
    rw [State.standby, State.showingProj, hscreen]
    exact hp
  have hstill : (u.projector p).runState ≠ .threaded := by rwa [hproj]
  have hsingle : (u.screen n).state = .single := by rw [hscreen]
  have hcheck := u.armingCheck_of_not_threaded hstandby hstill (.inl hsingle)
  have hend := (State.armingCheck_refused hstandby hstill (.inl hsingle)).settle
  refine ⟨?_, ?_, fun y hy => ?_⟩
  · rw [hend.stays.screen, hcheck, hscreen]
  · rw [hend.late, State.armingCheck_lateMark hstandby hstill, hlate]
  · rw [← hproj y] at hy ⊢
    exact (((State.armingCheck_starts u n).trans hend.starts).still hy).1

/-! ## The standby stalls -/

/-- The stall timer of the standby of a projector that its screen shows runs out, in a motor state. -/
structure StandbyStall (s : State) (q : ProjNo) : Prop where
  awake : s.Awake
  timer : (s.tracker q.other).stallTimer ≠ none
  motor : (s.projector q.other).runState.motor = true
  side : (s.screen q.screen).showingSide = some q.side

theorem StallHalt.standby (h : StallHalt s q.other w) (hside : (s.screen q.screen).showingSide = some q.side) :
    w.standby q.screen = some q.other := State.standby_of_side (by rw [h.screen, hside])

theorem StallHalt.not_threaded (h : StallHalt s p w) : (w.projector p).runState ≠ .threaded := by
  rw [h.self]
  nofun

/-- The sequencer takes the halt of the standby of a screen that shows. -/
theorem stall_standby (hst : StandbyStall s q) (hd : (s.screen q.screen).state ≠ .dark)
    (hs : (s.screen q.screen).state ≠ .starting) :
    ∃ w, StallHalt s q.other w ∧ exec (.stallTimerExpiry q.other) s = .next (w.standbyHalt q.screen).settle := by
  obtain ⟨w, h, hexec⟩ := exec_stall hst.awake hst.timer hst.motor
  rw [State.onHalt_standby (by rw [h.screen, hst.side]) (by rwa [h.screen]) (by rwa [h.screen])] at hexec
  exact ⟨w, h, hexec⟩

theorem State.standbyHalt_waiting (hs : (w.screen n).state = .single ∨ (w.screen n).state = .armed) :
    w.standbyHalt n = w.armingCheck n := by
  rcases hs with hs | hs <;> rw [State.standbyHalt, hs]

theorem State.standbyHalt_rolling (hs : (w.screen n).state = .rolling) : w.standbyHalt n =
    (w.modScreen n fun r => { r with immediate := false, swapFailed := false }).backToSingle n := by
  rw [State.standbyHalt, hs]

theorem State.standbyHalt_swapping (hs : (w.screen q.screen).state = .swapping)
    (hside : (w.screen q.screen).showingSide = some q.side) : w.standbyHalt q.screen = w.swapIncomingHalt q.screen q := by
  rw [State.standbyHalt, hs, State.showingProj_of_side hside]

theorem State.standbyHalt_final (hs : (w.screen n).state = .final) : w.standbyHalt n = w := by
  rw [State.standbyHalt, hs]

theorem standby_stall_waiting (hst : StandbyStall s q)
    (hs : (s.screen q.screen).state = .single ∨ (s.screen q.screen).state = .armed) :
    Leads (.stallTimerExpiry q.other) s fun t =>
      t.screen q.screen = { s.screen q.screen with state := .single, arming := .fail .standbyState } := by
  obtain ⟨w, h, hexec⟩ := stall_standby hst (by rcases hs with hs | hs <;> simp [hs])
    (by rcases hs with hs | hs <;> simp [hs])
  rw [← h.screen] at hs
  have hrefused := State.armingCheck_refused (h.standby hst.side) h.not_threaded hs
  refine ⟨_, hexec, ?_⟩
  beta_reduce
  rw [State.standbyHalt_waiting hs, hrefused.settle.stays.screen,
    w.armingCheck_of_not_threaded (h.standby hst.side) h.not_threaded hs, h.screen]

theorem State.modScreen_screen (s : State) (n : ScreenNo) (f : Screen → Screen) :
    (s.modScreen n f).screen n = f (s.screen n) :=
  (State.screen_setScreen _ _ _ _).trans (if_pos rfl)

theorem standby_stall_rolling (hst : StandbyStall s q) (hs : (s.screen q.screen).state = .rolling) :
    Leads (.stallTimerExpiry q.other) s fun t =>
      t.screen q.screen = { s.screen q.screen with
        state := .single, lateMotor := true, immediate := false, swapFailed := false, arming := .fail .standbyState } ∧
      (t.lateMark q.screen).isSome = true := by
  obtain ⟨w, h, hexec⟩ := stall_standby hst (by simp [hs]) (by simp [hs])
  rw [State.standbyHalt_rolling (by rw [h.screen, hs])] at hexec
  have hmod := w.modScreen_screen q.screen fun r => { r with immediate := false, swapFailed := false }
  have hstandby : (w.modScreen q.screen fun r => { r with immediate := false, swapFailed := false }).standby q.screen =
      some q.other := State.standby_of_side (by rw [hmod, h.screen]; exact hst.side)
  obtain ⟨hscreen, hlate, -⟩ := State.backToSingle_settle hstandby h.not_threaded
  refine ⟨_, hexec, ?_, hlate⟩
  rw [hscreen, hmod, h.screen]

theorem standby_stall_final (hst : StandbyStall s q) (hs : (s.screen q.screen).state = .final) :
    Leads (.stallTimerExpiry q.other) s fun t => t.screen q.screen = s.screen q.screen := by
  obtain ⟨w, h, hexec⟩ := stall_standby hst (by simp [hs]) (by simp [hs])
  have hs' : (w.screen q.screen).state = .final := by rw [h.screen, hs]
  rw [State.standbyHalt_final hs'] at hexec
  have hstays := State.settle_stays (s := w) (n := q.screen) (by simp [hs']) (by simp [hs']) fun _ => by simp [hs']
  exact ⟨_, hexec, hstays.screen.trans (h.screen _)⟩

/-! ## The incoming of a swap stalls -/

/-- The screen of a swap whose incoming has halted: the confirmation timer is idle (R77). -/
def State.unconfirmed (w : State) (n : ScreenNo) : State := w.modScreen n fun r => { r with confirmTimer := none }

theorem State.swapIncomingHalt_closes (he : w.atPictureEnd q = true) :
    w.swapIncomingHalt n q = ((w.unconfirmed n).closeOrder q).interrupt n := if_pos he

theorem State.swapIncomingHalt_reopens (he : w.atPictureEnd q = false) (hr : (w.projector q).runState = .showing)
    (hpermit : w.permit q = true) : w.swapIncomingHalt n q =
      (((w.unconfirmed n).setProjector q { w.projector q with douser := .opened }).modScreen n
        fun r => { r with sound := q.side, closeWatch := none }).backToSingle n := by
  have htaken : (w.unconfirmed n).openOrder q =
      ((w.unconfirmed n).setProjector q { w.projector q with douser := .opened }, true) := by
    refine if_pos ?_
    have hr' : ((w.unconfirmed n).projector q).runState = .showing := hr
    have hpermit' : (w.unconfirmed n).permit q = true := hpermit
    simp [hr', hpermit']
  unfold State.swapIncomingHalt
  dsimp only
  rw [← State.unconfirmed, he, htaken]
  rfl

theorem standby_stall_reverts (hst : StandbyStall s q) (hs : (s.screen q.screen).state = .swapping)
    (hr : (s.projector q).runState = .showing)
    (he : s.atPictureEnd q = false) (hpermit : s.permit q = true) : Leads (.stallTimerExpiry q.other) s fun t =>
      t.screen q.screen = { s.screen q.screen with
        state := .single, lateMotor := true, confirmTimer := none, closeWatch := none, sound := q.side
        arming := .fail .standbyState } ∧
      t.projector q = { s.projector q with douser := .opened } ∧ (t.lateMark q.screen).isSome = true := by
  obtain ⟨w, h, hexec⟩ := stall_standby hst (by simp [hs]) (by simp [hs])
  have hq := (h.others q (ProjNo.other_ne q).symm).1
  rw [State.standbyHalt_swapping (by rw [h.screen, hs]) (by rw [h.screen, hst.side]),
    State.swapIncomingHalt_reopens (by rw [h.atPictureEnd, he]) (by rw [hq, hr]) (by rw [h.permit, hpermit]), hq] at hexec
  have hmod := ((w.unconfirmed q.screen).setProjector q { s.projector q with douser := .opened }).modScreen_screen q.screen
    fun r => { r with sound := q.side, closeWatch := none }
  have hfirst : ((w.unconfirmed q.screen).setProjector q { s.projector q with douser := .opened }).screen q.screen =
      { s.screen q.screen with confirmTimer := none } := by
    rw [← h.screen]
    exact w.modScreen_screen q.screen fun r => { r with confirmTimer := none }
  rw [hfirst] at hmod
  have hproj : ∀ y, (((w.unconfirmed q.screen).setProjector q { s.projector q with douser := .opened }).modScreen q.screen
      fun r => { r with sound := q.side, closeWatch := none }).projector y =
      if y = q then { s.projector q with douser := .opened } else w.projector y :=
    fun y => State.projector_setProjector (w.unconfirmed q.screen) q y _
  generalize ((w.unconfirmed q.screen).setProjector q { s.projector q with douser := .opened }).modScreen q.screen
    (fun r => { r with sound := q.side, closeWatch := none }) = v at *
  have hstandby : v.standby q.screen = some q.other := State.standby_of_side (by rw [hmod]; exact hst.side)
  have hstill : (v.projector q.other).runState ≠ .threaded := by
    rw [hproj, if_neg (ProjNo.other_ne q)]
    exact h.not_threaded
  obtain ⟨hscreen, hlate, hkeep⟩ := State.backToSingle_settle hstandby hstill
  have hself := hproj q
  rw [if_pos rfl] at hself
  refine ⟨_, hexec, by rw [hscreen, hmod], ?_, hlate⟩
  rw [hkeep q (by rw [hself, hr]; nofun), hself]

theorem standby_stall_closes (hst : StandbyStall s q) (hs : (s.screen q.screen).state = .swapping)
    (hr : (s.projector q).runState = .showing)
    (he : s.atPictureEnd q = true) (hlim : s.atRunoutLimit q = false) (hheld : (s.showRec q.screen).state ≠ .held) :
    Leads (.stallTimerExpiry q.other) s fun t =>
      (t.screen q.screen).state = .dark ∧ (t.projector q).runState = .runout ∧
      ∀ k, (s.screen q.screen).currentReel = some k → (s.projector q).loaded = some k →
        (s.projector q.other).loaded ≠ some k → (t.screen q.screen).currentReel = some (k + 1) := by
  obtain ⟨w, h, hexec⟩ := stall_standby hst (by simp [hs]) (by simp [hs])
  have hq := (h.others q (ProjNo.other_ne q).symm).1
  rw [State.standbyHalt_swapping (by rw [h.screen, hs]) (by rw [h.screen, hst.side]),
    State.swapIncomingHalt_closes (by rw [h.atPictureEnd, he])] at hexec
  obtain ⟨v, hv, hcalm, hproj, htr, -, hscreens, hshows, -⟩ :=
    State.closeOrder_showing (s := w.unconfirmed q.screen) (q := q) ((congrArg Projector.runState hq).trans hr)
  have hself : v.projector q = { s.projector q with runState := .runout, douser := .closed } := by
    rw [hproj, if_pos rfl, ← hq]
    rfl
  have hpo : v.projector q.other = w.projector q.other := (hproj q.other).trans (if_neg (ProjNo.other_ne q))
  have hscreen : v.screen q.screen = { s.screen q.screen with confirmTimer := none } := by
    rw [State.screen, hscreens, ← h.screen]
    exact w.modScreen_screen q.screen _
  have hrecord : v.loadedRecord q = s.loadedRecord q :=
    State.loadedRecord_congr (by rw [hself]) (State.bankView_of_calm (hcalm.trans h.calm))
  have hcount : (v.tracker q).counter = (s.tracker q).counter := by
    rw [State.tracker, htr]
    exact h.counters q
  have hvlim : v.atRunoutLimit q = false := by
    rw [State.atRunoutLimit, hrecord, hcount, ← State.atRunoutLimit, hlim]
  rw [hv, hvlim, if_neg Bool.false_ne_true] at hexec
  have hvheld : (v.showRec q.screen).state ≠ .held := by
    rw [State.showRec, hshows]
    exact fun k => hheld ((congrArg ShowRec.state (h.showRec q.screen)).symm.trans k)
  have hd : (v.screen q.screen).state ≠ .dark := by simp [hscreen, hs]
  have hdark := State.interrupt_settle hd hvheld
  have hstop : ¬ v.stoppable q := by simp [State.stoppable, hself]
  refine ⟨_, hexec, by rw [hdark], ?_, fun k hk hl hp => ?_⟩
  · obtain ⟨-, hprojs, -, -, -⟩ := State.interrupt_fields hd
    obtain ⟨-, hkeep, -⟩ := v.stopIdle_fields q.screen
    have hint : (v.interrupt q.screen).projector q = v.projector q := by
      rw [State.projector, hprojs]
      exact (hkeep q hstop).1
    rw [((v.interrupt q.screen).settle_projector q (by rw [hint, hself]; nofun)).1, hint, hself]
  · rw [hdark]
    refine (State.stopIdle_settledReel (by rw [hscreen]; exact hk) (by rw [hself]; exact hl)
      (by rw [hpo, h.loaded]; exact hp) hstop).trans ?_
    rw [State.atPictureEnd_congr hrecord hcount, he]
    rfl

/-- Settles O29: the timers by `State.timer_halts`, the showing projector by R76 and the standby by R77. -/
theorem failuresHalt : Obligations.FailuresHalt := by
  refine ⟨fun s p h => ⟨fun ht => ⟨fun hr => ?_, fun hr => ?_⟩, fun ht => ?_, fun ht hm => ?_, fun ht => ?_⟩, ?_⟩
  · obtain ⟨hproj, hcount, hstart, -⟩ := State.timer_halts (s := s) (p := p) (c := .startFail)
      (k := { s.tracker p with startTimer := none }) (by rw [hr]; rfl) rfl
    refine ⟨_, exec_startFailure h p, ?_⟩
    rw [State.startFailure_starting ht hr]
    exact ⟨hproj, hcount, hstart⟩
  · rw [exec, execStartFailureTimerExpiry, event_of_quiet h _ (by rw [State.startFailure_elsewhere ht hr]; exact h.work),
      State.startFailure_elsewhere ht hr]
  · rw [exec_startFailure h, State.startFailure_idle ht, State.settle_of_empty _ h.work]
  · obtain ⟨hproj, hcount, -, hstall⟩ := State.timer_halts (s := s) (p := p) (c := .stall)
      (k := { s.tracker p with stallTimer := none }) hm rfl
    refine ⟨_, exec_stallExpiry h p, ?_⟩
    rw [State.stallExpiry_running ht]
    exact ⟨hproj, hcount, hstall⟩
  · rw [exec_stallExpiry h, State.stallExpiry_idle ht, State.settle_of_empty _ h.work]
  · rintro s n d _ _ h hside rfl rfl
    refine ⟨fun ht hr => ?_, fun ht hm => ?_⟩
    · have hst : ShowingStall s ⟨n, d⟩ := ⟨h, ht, hr, hside⟩
      refine ⟨fun hs ho hheld => ?_, fun hs hslow ho hheld => ?_, fun hs hspeed => ⟨fun hl hn hp => ?_, fun hl => ?_⟩,
        fun hs => ?_⟩
      · exact stall_interrupts hst (hs.imp_right (·.imp_right .inl)) ho hheld
      · exact stall_interrupts hst (.inr (.inr (.inr ⟨hs, hslow⟩))) ho hheld
      · exact stall_rescue_opens hst hs hspeed hl hn hp
      · exact stall_rescue_short hst hs hspeed hl
      · exact stall_completes_swap hst hs
    · have hst : StandbyStall s ⟨n, d⟩ := ⟨h, ht, hm, hside⟩
      refine ⟨fun hs => ?_, fun hs => ?_, fun hs hr => ⟨fun he hp => ?_, fun he hl hheld => ?_⟩, fun hs => ?_⟩
      · exact standby_stall_waiting (q := ⟨n, d⟩) hst hs
      · exact standby_stall_rolling (q := ⟨n, d⟩) hst hs
      · exact standby_stall_reverts (q := ⟨n, d⟩) hst hs hr he hp
      · exact standby_stall_closes (q := ⟨n, d⟩) hst hs hr he hl hheld
      · exact standby_stall_final (q := ⟨n, d⟩) hst hs

end Sys2Proof.Machine
end

section
/-! The lamps (R84 to R102): the part of the state that the carbon account, the LOW flag, the shutters and fire are
judged by, the equation of each operation of the arc unit on it, and the frame of all other operations. The orders, the
sequencer, the halts and the start of a show leave every lamp in its state with its LOW flag and its account, and post
no cause of class FIRE: at the end of a showing a rate may join the burn history, which stays in range (R102). -/

namespace Sys2Proof.Machine

variable {s t u : State} {p q : ProjNo} {n m : ScreenNo}

/-! ## One lamp -/

/-- The arc of a projector with its carbon account. -/
structure Lamp where
  arc : Arc
  store : ArcStore

def State.lamp (s : State) (p : ProjNo) : Lamp := ⟨s.arc p, s.arcStore p⟩

@[simp] theorem State.lamp_arc (s : State) (p : ProjNo) : (s.lamp p).arc = s.arc p := rfl
@[simp] theorem State.lamp_store (s : State) (p : ProjNo) : (s.lamp p).store = s.arcStore p := rfl

/-- An account without its burn history: what the feed, a re-trim and the settings write (R96, R99, R100). -/
def ArcStore.account (k : ArcStore) : ArcStore := { k with history := [] }

/-- At most three rates, each of 1 to 500 (R102). -/
def ArcStore.RatesSound (k : ArcStore) : Prop := k.history.length ≤ 3 ∧ ∀ r ∈ k.history, 1 ≤ r ∧ r ≤ 500

theorem burnRate_range (steps frames : Nat) : 1 ≤ burnRate steps frames ∧ burnRate steps frames ≤ 500 := by
  unfold burnRate
  omega

/-- A rate that joins the history keeps it sound (R102). -/
theorem ArcStore.RatesSound.record {k : ArcStore} (h : k.RatesSound) {r : Nat} (hr : 1 ≤ r ∧ r ≤ 500) :
    (k.record r).RatesSound := by
  refine ⟨List.length_take_le _ _, fun x hx => ?_⟩
  rcases List.mem_cons.mp (List.mem_of_mem_take hx) with rfl | hx
  · exact hr
  · exact h.2 x hx

/-- The end of a span leaves all but the span and the frames that it adds to (R101). -/
theorem Arc.endSpan_eq (a : Arc) (c : Nat) : a.endSpan c = { a with frames := (a.endSpan c).frames, mark := none } := by
  unfold Arc.endSpan
  split
  next hm => rw [← hm]
  · rfl

/-- A lamp that is in the state, with the LOW flag and with the account that it had. -/
structure Lamp.Abides (a b : Lamp) : Prop where
  state : b.arc.state = a.arc.state
  low : b.arc.low = a.arc.low
  account : b.store.account = a.store.account
  rates : a.store.RatesSound → b.store.RatesSound

theorem Lamp.Abides.refl (a : Lamp) : a.Abides a := ⟨rfl, rfl, rfl, id⟩

theorem Lamp.Abides.trans {a b c : Lamp} (h : a.Abides b) (k : b.Abides c) : a.Abides c :=
  ⟨k.state.trans h.state, k.low.trans h.low, k.account.trans h.account, fun ha => k.rates (h.rates ha)⟩

/-! ## The part of the state -/

/-- The arcs with their accounts, the shutters with the fire flag, and the main power. -/
structure LampPart where
  powered : Bool
  arcs : ByProj Arc
  stores : ByProj ArcStore
  shutterUnit : ShutterUnit

def State.lampPart (s : State) : LampPart := ⟨s.powered, s.arcs, s.retained.arcs, s.shutterUnit⟩

theorem State.lamp_congr (h : t.lampPart = s.lampPart) (p : ProjNo) : t.lamp p = s.lamp p := by
  simp only [State.lampPart, LampPart.mk.injEq] at h
  simp only [State.lamp, State.arc, State.arcStore, h]

theorem State.lampPart_of_outsideShows (h : t.outsideShows = s.outsideShows) : t.lampPart = s.lampPart := by
  change t.outsideShows.lampPart = s.outsideShows.lampPart
  rw [h]

/-- The causes of class FIRE that the step has posted so far. -/
def State.alarms (s : State) : List (Block × AttnCause) := s.work.posts.filter fun x => decide (x.2.cls = .fire)

theorem State.alarms_congr (h : t.work.posts = s.work.posts) : t.alarms = s.alarms := by
  rw [State.alarms, h, State.alarms]

theorem State.post_alarms (s : State) (b : Block) {c : AttnCause} (h : c.cls ≠ .fire) :
    (s.post b c).alarms = s.alarms := by
  simp [State.alarms, h]

/-- All but the house and what has been sent in the step: what the notices of the arc unit leave. -/
def State.outsideNotices (s : State) : State := { s with house := State.reset.house, work := .empty }

theorem State.outsideNotices_of_outsideHouse (h : t.outsideHouse = s.outsideHouse) :
    t.outsideNotices = s.outsideNotices := congrArg (fun v : State => { v with work := .empty }) h

theorem State.lampPart_of_outsideNotices (h : t.outsideNotices = s.outsideNotices) : t.lampPart = s.lampPart := by
  change t.outsideNotices.lampPart = s.outsideNotices.lampPart
  rw [h]

section Frames

variable (s)

@[simp] theorem State.post_outsideNotices (b : Block) (c : AttnCause) :
    (s.post b c).outsideNotices = s.outsideNotices := rfl

@[simp] theorem State.tellDuty_outsideNotices (d : DutyNotice) : (s.tellDuty d).outsideNotices = s.outsideNotices := rfl

@[simp] theorem State.noteRetest_outsideNotices (m : ScreenNo) :
    (s.noteRetest m).outsideNotices = s.outsideNotices := rfl

@[simp] theorem State.noteRunState_outsideNotices (m : ScreenNo) :
    (s.noteRunState m).outsideNotices = s.outsideNotices := rfl

/-- The arming check of a standby is a notice (R68). -/
theorem State.noteArmIfStandby_keeps (q : ProjNo) : (s.noteArmIfStandby q).outsideNotices = s.outsideNotices ∧
    (s.noteArmIfStandby q).work.posts = s.work.posts := by
  unfold State.noteArmIfStandby
  split
  · exact ⟨rfl, rfl⟩
  · exact ⟨rfl, rfl⟩

@[simp] theorem State.arcNotice_outsideNotices (q : ProjNo) : (s.arcNotice q).outsideNotices = s.outsideNotices :=
  (s.noteArmIfStandby_keeps q).1

@[simp] theorem State.retrimNotice_outsideNotices (q : ProjNo) : (s.retrimNotice q).outsideNotices = s.outsideNotices :=
  (s.noteArmIfStandby_keeps q).1

theorem State.arcNotice_alarms (q : ProjNo) : (s.arcNotice q).alarms = s.alarms :=
  State.alarms_congr (s.noteArmIfStandby_keeps q).2

theorem State.retrimNotice_alarms (q : ProjNo) : (s.retrimNotice q).alarms = s.alarms :=
  State.alarms_congr (s.noteArmIfStandby_keeps q).2

@[simp] theorem State.fireWhere_lampPart (m : ScreenNo) (f : Cue → Bool) : (s.fireWhere m f).lampPart = s.lampPart :=
  State.lampPart_of_outsideNotices (State.outsideNotices_of_outsideHouse (s.fireWhere_outsideHouse m f))

theorem State.fireWhere_alarms (m : ScreenNo) (f : Cue → Bool) : (s.fireWhere m f).alarms = s.alarms := by
  rw [State.outsideHouse_congr (s.fireWhere_outsideHouse m f)]
  rfl

theorem State.applyStanding_outsideHouse (k : StandingKey) (e : StandingEntry) :
    (s.applyStanding k e).1.outsideHouse = s.outsideHouse := by
  refine foldl_keeps (fun a : State × Bool => a.1.outsideHouse) _ (fun a c => ?_) _ (s, false)
  unfold standingChannel
  split
  · rfl
  · split
    · rfl
    · rfl

/-- A standing action changes the house, and posts no more than its own cause (R140). -/
theorem State.fireStanding_keeps (k : StandingKey) : (s.fireStanding k).outsideNotices = s.outsideNotices ∧
    (s.fireStanding k).alarms = s.alarms := by
  unfold State.fireStanding
  split
  · exact ⟨rfl, rfl⟩
  next e _ =>
    split
    · refine ⟨State.outsideNotices_of_outsideHouse (t := (s.applyStanding k e).1) (s.applyStanding_outsideHouse k e), ?_⟩
      rw [State.post_alarms _ _ (by simp [AttnCause.cls])]
      exact State.alarms_congr (congrArg Work.posts (s.applyStanding_keeps k e).2)
    · exact ⟨rfl, rfl⟩

@[simp] theorem State.fireStanding_outsideNotices (k : StandingKey) :
    (s.fireStanding k).outsideNotices = s.outsideNotices := (s.fireStanding_keeps k).1

@[simp] theorem State.arcFaultNotice_outsideNotices (q : ProjNo) :
    (s.arcFaultNotice q).outsideNotices = s.outsideNotices := by
  unfold State.arcFaultNotice
  split
  · exact s.fireStanding_outsideNotices _
  · rfl

@[simp] theorem State.setScreenState_lampPart (m : ScreenNo) (x : ScreenState) :
    (s.setScreenState m x).lampPart = s.lampPart := by
  unfold State.setScreenState
  dsimp only
  split
  · rfl
  · split
    · rfl
    · rfl

end Frames

/-! ## Abiding lamps -/

/-- From `s` to `t` every lamp abides, the shutters and the main power are as they were, and no cause of class FIRE has
been posted. -/
structure LampsAbide (s t : State) : Prop where
  powered : t.powered = s.powered
  shutterUnit : t.shutterUnit = s.shutterUnit
  lamps : ∀ p, (s.lamp p).Abides (t.lamp p)
  alarms : t.alarms = s.alarms

theorem LampsAbide.refl (s : State) : LampsAbide s s := ⟨rfl, rfl, fun _ => .refl _, rfl⟩

theorem LampsAbide.trans (h : LampsAbide s t) (k : LampsAbide t u) : LampsAbide s u :=
  ⟨k.powered.trans h.powered, k.shutterUnit.trans h.shutterUnit, fun p => (h.lamps p).trans (k.lamps p),
    k.alarms.trans h.alarms⟩

/-- What leaves the lamps alone. -/
theorem LampsAbide.same (h : LampsAbide s t) (hp : u.lampPart = t.lampPart) (ha : u.alarms = t.alarms := by exact rfl) :
    LampsAbide s u :=
  h.trans ⟨congrArg LampPart.powered hp, congrArg LampPart.shutterUnit hp,
    fun p => by rw [State.lamp_congr hp]; exact .refl _, ha⟩

theorem LampsAbide.post (h : LampsAbide s t) (b : Block) (c : AttnCause)
    (hc : c.cls ≠ .fire := by simp [AttnCause.cls]) : LampsAbide s (t.post b c) :=
  h.same rfl (State.post_alarms t b hc)

theorem LampsAbide.tellDuty (h : LampsAbide s t) (d : DutyNotice) : LampsAbide s (t.tellDuty d) := h.same rfl

theorem LampsAbide.noteArm (h : LampsAbide s t) (m : ScreenNo) : LampsAbide s (t.noteArm m) := h.same rfl

theorem LampsAbide.noteRetest (h : LampsAbide s t) (m : ScreenNo) : LampsAbide s (t.noteRetest m) := h.same rfl

theorem LampsAbide.noteRunState (h : LampsAbide s t) (m : ScreenNo) : LampsAbide s (t.noteRunState m) := h.same rfl

theorem LampsAbide.noteArmIfStandby (h : LampsAbide s t) (q : ProjNo) : LampsAbide s (t.noteArmIfStandby q) :=
  h.same (State.lampPart_of_outsideNotices (t.noteArmIfStandby_keeps q).1)
    (State.alarms_congr (t.noteArmIfStandby_keeps q).2)

theorem LampsAbide.modScreen (h : LampsAbide s t) (m : ScreenNo) (f : Screen → Screen) :
    LampsAbide s (t.modScreen m f) :=
  h.same rfl

theorem LampsAbide.clearLate (h : LampsAbide s t) (m : ScreenNo) : LampsAbide s (t.clearLate m) := h.same rfl

theorem LampsAbide.setLate (h : LampsAbide s t) (m : ScreenNo) : LampsAbide s (t.setLate m) := h.same rfl

theorem LampsAbide.setScreenState (h : LampsAbide s t) (m : ScreenNo) (x : ScreenState) :
    LampsAbide s (t.setScreenState m x) :=
  h.same (t.setScreenState_lampPart m x) (State.alarms_congr (t.setScreenState_posts m x))

theorem LampsAbide.fireWhere (h : LampsAbide s t) (m : ScreenNo) (f : Cue → Bool) : LampsAbide s (t.fireWhere m f) :=
  h.same (t.fireWhere_lampPart m f) (t.fireWhere_alarms m f)

theorem LampsAbide.fireStanding (h : LampsAbide s t) (k : StandingKey) : LampsAbide s (t.fireStanding k) :=
  h.same (State.lampPart_of_outsideNotices (t.fireStanding_keeps k).1) (t.fireStanding_keeps k).2

/-- One lamp that abides. -/
theorem LampsAbide.one (h : LampsAbide s t) (q : ProjNo) (hp : u.powered = t.powered)
    (hu : u.shutterUnit = t.shutterUnit) (hx : ∀ x, x ≠ q → u.lamp x = t.lamp x) (hq : (t.lamp q).Abides (u.lamp q))
    (ha : u.alarms = t.alarms := by exact rfl) : LampsAbide s u := by
  refine h.trans ⟨hp, hu, fun x => ?_, ha⟩
  by_cases hxq : x = q
  · exact hxq ▸ hq
  · rw [hx x hxq]
    exact .refl _

/-! ## The showing notices (R29, R101, R102) -/

theorem Arc.endSpan_state (a : Arc) (c : Nat) : (a.endSpan c).state = a.state := by rw [a.endSpan_eq]

theorem Arc.endSpan_low (a : Arc) (c : Nat) : (a.endSpan c).low = a.low := by rw [a.endSpan_eq]

theorem LampsAbide.arcShowing (h : LampsAbide s t) (q : ProjNo) : LampsAbide s (t.arcShowing q) := by
  unfold State.arcShowing State.beginSpan
  dsimp only
  split
  · exact h.one q rfl rfl (fun x hx => by simp [State.lamp, hx, State.arcStore])
      ⟨by simp [State.lamp], by simp [State.lamp], rfl, id⟩
  · exact h.one q rfl rfl (fun x hx => by simp [State.lamp, hx, State.arcStore])
      ⟨by simp [State.lamp], by simp [State.lamp], rfl, id⟩

theorem LampsAbide.arcShowingEnded (h : LampsAbide s t) (q : ProjNo) : LampsAbide s (t.arcShowingEnded q) := by
  have harc : LampsAbide s (t.setArc q { (t.arc q).endSpan (t.tracker q).counter with
      frames := 0, steps := 0, showing := false }) :=
    h.one q rfl rfl (fun x hx => by simp [State.lamp, hx, State.arcStore])
      ⟨by simp [State.lamp, Arc.endSpan_state], by simp [State.lamp, Arc.endSpan_low], rfl, id⟩
  unfold State.arcShowingEnded
  dsimp only
  split
  · refine LampsAbide.same (LampsAbide.one harc q
      (u := (t.setArc q _).setArcStore q ((t.arcStore q).record (burnRate _ _))) rfl rfl
      (fun x hx => by simp [State.lamp, hx, State.arc]) ⟨rfl, rfl, by simp [State.lamp]; rfl, fun hr => ?_⟩)
      (State.lampPart_of_outsideNotices (State.retrimNotice_outsideNotices _ q)) (State.retrimNotice_alarms _ q)
    rw [State.lamp_store, State.arcStore_setArcStore, if_pos rfl]
    exact ArcStore.RatesSound.record hr (burnRate_range _ _)
  · exact harc

theorem LampsAbide.endShowing (h : LampsAbide s t) (q : ProjNo) : LampsAbide s (t.endShowing q) := by
  unfold State.endShowing
  split
  · exact h.arcShowingEnded q
  · exact h

/-! ## Orders and halts -/

theorem LampsAbide.startOrder (h : LampsAbide s t) (q : ProjNo) : LampsAbide s (t.startOrder q).1 := by
  unfold State.startOrder
  split
  · exact h.same rfl
  · exact h

theorem LampsAbide.openOrder (h : LampsAbide s t) (q : ProjNo) : LampsAbide s (t.openOrder q).1 := by
  unfold State.openOrder
  split
  · exact h.same rfl
  · exact h

theorem LampsAbide.douseOrder (h : LampsAbide s t) (q : ProjNo) : LampsAbide s (t.douseOrder q) := by
  unfold State.douseOrder
  split
  · exact h.same rfl
  · exact h

theorem HaltCause.posts_cls {c : HaltCause} {k : AttnCause} (h : c.posts q = some k) : k.cls ≠ .fire := by
  cases c with
  | filmBreak | stall | startFail | shutter | douser =>
    obtain rfl := Option.some.inj h
    simp [AttnCause.cls]
  | fire | stop | power => cases h

theorem LampsAbide.haltCore (h : LampsAbide s t) (q : ProjNo) (c : HaltCause) : LampsAbide s (t.haltCore q c) := by
  cases hm : (t.projector q).runState.motor with
  | false => rwa [State.haltCore_still hm]
  | true =>
    have hrecord : LampsAbide s (t.haltRecord q c) := (h.endShowing q).same rfl
    have hbreak : LampsAbide s (t.breakStanding (t.haltRecord q c) q c) := by
      unfold State.breakStanding
      split
      · exact hrecord.fireStanding _
      · exact hrecord
    rw [State.haltCore_motor hm]
    cases hp : c.posts q with
    | none => exact (hbreak.noteRunState _).tellDuty _
    | some k => exact ((hbreak.post _ _ (HaltCause.posts_cls hp)).noteRunState _).tellDuty _

theorem LampsAbide.becomeEmpty (h : LampsAbide s t) (q : ProjNo) (a : Option Nat) : LampsAbide s (t.becomeEmpty q a) :=
  h.same rfl

theorem LampsAbide.emptyRun (h : LampsAbide s t) (q : ProjNo) : LampsAbide s (t.emptyRun q) := by
  rw [State.emptyRun_eq]
  exact (((h.endShowing q).becomeEmpty q _).noteRunState _).tellDuty _

theorem LampsAbide.enterRunout (h : LampsAbide s t) (q : ProjNo) : LampsAbide s (t.enterRunout q) := by
  have hout : LampsAbide s (t.runoutRecord q) := (h.arcShowingEnded q).same rfl
  rw [State.enterRunout_eq]
  split
  · exact hout.emptyRun q
  · exact hout

theorem LampsAbide.closeOrder (h : LampsAbide s t) (q : ProjNo) : LampsAbide s (t.closeOrder q) := by
  unfold State.closeOrder
  split
  · exact h.enterRunout q
  · exact h

/-! ## The sequencer -/

theorem LampsAbide.stopIdle (h : LampsAbide s t) (m : ScreenNo) : LampsAbide s (t.stopIdle m) := by
  unfold State.stopIdle
  split
  · split
    · exact h.haltCore _ _
    · exact h
  · exact h

theorem LampsAbide.interrupt (h : LampsAbide s t) (m : ScreenNo) : LampsAbide s (t.interrupt m) := by
  unfold State.interrupt
  split
  · exact h
  · exact ((((h.stopIdle m).modScreen m _).clearLate m).setScreenState m _).post _ _

theorem LampsAbide.roll (h : LampsAbide s t) (m : ScreenNo) (q : ProjNo) : LampsAbide s (t.roll m q) :=
  (h.startOrder q).setScreenState m _

theorem LampsAbide.actOnArming (h : LampsAbide s t) (m : ScreenNo) (q : ProjNo) (b : Bool) :
    LampsAbide s (t.actOnArming m q b) := by
  unfold State.actOnArming
  split
  · split
    · exact (h.clearLate m).roll m q
    · exact h.setScreenState m _
  · exact h.setScreenState m _
  · exact h

theorem LampsAbide.armingCheck (h : LampsAbide s t) (m : ScreenNo) : LampsAbide s (t.armingCheck m) := by
  unfold State.armingCheck
  split
  · split
    · exact h
    · dsimp only
      refine LampsAbide.actOnArming ?_ _ _ _
      split
      · exact (h.modScreen m _).tellDuty _
      · exact h.modScreen m _
  · exact h

theorem LampsAbide.openFailed (h : LampsAbide s t) (m : ScreenNo) (q : ProjNo) : LampsAbide s (t.openFailed m q) :=
  (h.haltCore q _).interrupt m

theorem LampsAbide.openTest (h : LampsAbide s t) (m : ScreenNo) : LampsAbide s (t.openTest m) := by
  unfold State.openTest
  split
  · split
    · dsimp only
      split
      · exact (h.openOrder _).modScreen m _
      · exact ((h.openOrder _).modScreen m _).openFailed m _
    · exact h
  · exact h

theorem LampsAbide.beginOpening (h : LampsAbide s t) (m : ScreenNo) (q : ProjNo) (r : Option Nat) :
    LampsAbide s (t.beginOpening m q r) := by
  have ho := fun f => ((h.modScreen m f).setScreenState m .starting).startOrder q
  unfold State.beginOpening
  dsimp only
  split
  · exact ho _
  · exact (ho _).interrupt m

theorem LampsAbide.rescueRolling (h : LampsAbide s t) (m : ScreenNo) (q : ProjNo) :
    LampsAbide s (t.rescueRolling m q) :=
  (((h.modScreen m _).setScreenState m _).post _ _).openTest m

theorem LampsAbide.rescueSwapping (h : LampsAbide s t) (m : ScreenNo) (q : ProjNo) :
    LampsAbide s (t.rescueSwapping m q) :=
  ((h.modScreen m _).setScreenState m _).post _ _

theorem LampsAbide.showingHalt (h : LampsAbide s t) (m : ScreenNo) : LampsAbide s (t.showingHalt m) := by
  unfold State.showingHalt
  split
  · split
    · exact h.rescueRolling m _
    · exact h.interrupt m
  · exact h.rescueSwapping m _
  · exact h.interrupt m
  · exact h.interrupt m
  · exact h.interrupt m
  · exact h

theorem LampsAbide.backToSingle (h : LampsAbide s t) (m : ScreenNo) : LampsAbide s (t.backToSingle m) :=
  ((h.setLate m).setScreenState m _).armingCheck m

theorem LampsAbide.swapIncomingHalt (h : LampsAbide s t) (m : ScreenNo) (q : ProjNo) :
    LampsAbide s (t.swapIncomingHalt m q) := by
  have hidle := h.modScreen m fun r => { r with confirmTimer := none }
  unfold State.swapIncomingHalt
  dsimp only
  split
  · exact (hidle.closeOrder q).interrupt m
  · have hback := ((hidle.openOrder q).modScreen m fun r => { r with sound := q.side, closeWatch := none }).backToSingle m
    split
    · exact hback
    · exact hback.showingHalt m

theorem LampsAbide.standbyHalt (h : LampsAbide s t) (m : ScreenNo) : LampsAbide s (t.standbyHalt m) := by
  unfold State.standbyHalt
  split
  · exact h.armingCheck m
  · exact h.armingCheck m
  · exact (h.modScreen m _).backToSingle m
  · exact h.swapIncomingHalt m _
  · exact h

theorem LampsAbide.onHalt (h : LampsAbide s t) (q : ProjNo) : LampsAbide s (t.onHalt q) := by
  unfold State.onHalt
  dsimp only
  split
  · exact h
  · split
    · exact h.interrupt _
    · exact h
  · split
    · exact h.showingHalt _
    · exact h.standbyHalt _

theorem LampsAbide.haltEvent (h : LampsAbide s t) (q : ProjNo) (c : HaltCause) : LampsAbide s (t.haltEvent q c) := by
  unfold State.haltEvent
  split
  · exact (h.haltCore q c).onHalt q
  · exact h

/-! ## The swap -/

theorem LampsAbide.swapFail (h : LampsAbide s t) (m : ScreenNo) (q r : ProjNo) : LampsAbide s (t.swapFail m q r) := by
  unfold State.swapFail
  split
  · exact ((h.closeOrder r).haltCore q _).interrupt m
  · have hrev := fun f => ((((h.douseOrder q).openOrder r).modScreen m f).setScreenState m .rolling).post
      (.sequencer m) (.revert m)
    dsimp only
    split
    · exact hrev _
    · exact (hrev _).showingHalt m

theorem LampsAbide.swapStart (h : LampsAbide s t) (m : ScreenNo) (q r : ProjNo) (late : Bool) :
    LampsAbide s (t.swapStart m q r late) := by
  have hswap := fun f => (((h.openOrder q).douseOrder r).modScreen m f).setScreenState m .swapping
  unfold State.swapStart
  dsimp only
  split <;> split
  · exact (hswap _).post _ _
  · exact hswap _
  · exact ((hswap _).post _ _).swapFail m q r
  · exact (hswap _).swapFail m q r

theorem LampsAbide.onSpeed (h : LampsAbide s t) (q : ProjNo) : LampsAbide s (t.onSpeed q) := by
  unfold State.onSpeed State.swapIfReady
  dsimp only
  split
  · split
    · exact h.openTest _
    · exact h
  · split
    · split
      · split
        · exact h.swapStart _ _ _ _
        · exact h
      · exact h
    · exact h
  · exact h

theorem LampsAbide.onLeadIn (h : LampsAbide s t) (q : ProjNo) : LampsAbide s (t.onLeadIn q) := by
  unfold State.onLeadIn
  split
  · exact h.openTest _
  · exact h

theorem LampsAbide.onMotorCue (h : LampsAbide s t) (q : ProjNo) : LampsAbide s (t.onMotorCue q) := by
  unfold State.onMotorCue
  dsimp only
  split
  · split
    · exact h.roll _ _
    · exact (h.setLate _).post _ _
    · exact h
  · exact h

theorem LampsAbide.onChangeoverCue (h : LampsAbide s t) (q : ProjNo) : LampsAbide s (t.onChangeoverCue q) := by
  unfold State.onChangeoverCue
  dsimp only
  split
  · split
    · split
      · exact h
      · split
        · exact h.swapStart _ _ _ _
        · exact h.modScreen _ _
    · exact h.modScreen _ _
    · exact h.modScreen _ _
    · exact h
  · exact h

theorem LampsAbide.takeOldCues (h : LampsAbide s t) (q : ProjNo) : LampsAbide s (t.takeOldCues q) := by
  unfold State.takeOldCues
  split
  · exact h
  next c _ =>
    have hm : LampsAbide s (if c.motor.settled then t.onMotorCue q else t) := by
      split
      · exact h.onMotorCue q
      · exact h
    dsimp only
    split
    · exact hm.onChangeoverCue q
    · exact hm

theorem LampsAbide.beginShowing (h : LampsAbide s t) (m : ScreenNo) (q : ProjNo) :
    LampsAbide s (t.beginShowing m q) := by
  unfold State.beginShowing
  dsimp only
  split
  · exact (h.modScreen m _).setScreenState m _
  · exact ((h.modScreen m _).setScreenState m _).armingCheck m

theorem LampsAbide.swapDone (h : LampsAbide s t) (m : ScreenNo) (q : ProjNo) : LampsAbide s (t.swapDone m q) := by
  have hdone := fun f => (((h.modScreen m f).clearLate m).beginShowing m q).post (.sequencer m)
    (.done m ((t.projector q).loaded.getD 0))
  unfold State.swapDone
  dsimp only
  split
  · exact hdone _
  · exact (hdone _).takeOldCues q

theorem LampsAbide.confirmExpiry (h : LampsAbide s t) (m : ScreenNo) : LampsAbide s (t.confirmExpiry m) := by
  unfold State.confirmExpiry
  split
  · exact h
  · dsimp only
    split
    · exact (h.modScreen m _).openFailed m _
    · exact (h.modScreen m _).swapFail m _ _
    · exact h.modScreen m _

theorem LampsAbide.changeNow (h : LampsAbide s t) (m : ScreenNo) : LampsAbide s (Machine.changeNow m t).1 := by
  unfold Machine.changeNow
  split
  · exact (h.modScreen m _).roll m _
  · dsimp only
    split
    · exact (h.modScreen m _).swapStart _ _ _ _
    · exact h.modScreen m _
  · exact h
  · exact h

/-! ## The start of a show -/

theorem LampsAbide.carbonNotice (h : LampsAbide s t) (m : ScreenNo) : LampsAbide s (t.carbonNotice m) := by
  unfold State.carbonNotice
  split
  · split
    · exact h.tellDuty _
    · exact h
  · exact h

theorem LampsAbide.storeReadiness (h : LampsAbide s t) (m : ScreenNo) : LampsAbide s (t.storeReadiness m) := by
  have hset : LampsAbide s (t.setShow m { t.showRec m with readiness := t.readiness m }) := h.same rfl
  exact hset.carbonNotice m

theorem LampsAbide.giveStart (h : LampsAbide s t) (m : ScreenNo) : LampsAbide s (t.giveStart m) := by
  unfold State.giveStart
  split
  · exact h.beginOpening m _ _
  · exact h

theorem LampsAbide.startShow (h : LampsAbide s t) (m : ScreenNo) : LampsAbide s (t.startShow m) := by
  have hset : ∀ r, LampsAbide s (t.setShow m r) := fun r => h.same rfl
  have hmarks : ∀ v x, LampsAbide s v → LampsAbide s (v.setMarks m x) := fun v x hv => hv.same rfl
  have hstart := fun r f => (hmarks _ 0#16 ((hset r).giveStart m)).fireWhere m f
  unfold State.startShow State.houseShowStart
  dsimp only
  split
  · have hbell : ∀ v, LampsAbide s v → LampsAbide s (v.releaseBell m) := fun v hv => hv.same rfl
    exact ((hbell _ (hstart _ _)).tellDuty _).post _ _
  · exact ((hstart _ _).tellDuty _).post _ _

theorem LampsAbide.retest (h : LampsAbide s t) (m : ScreenNo) : LampsAbide s (t.retest m) := by
  unfold State.retest
  split
  · exact h.storeReadiness m
  · dsimp only
    split
    · exact (h.storeReadiness m).startShow m
    · exact h.storeReadiness m
  · exact h

theorem LampsAbide.startRequest (h : LampsAbide s t) (m : ScreenNo) : LampsAbide s (Machine.startRequest m t).1 := by
  unfold Machine.startRequest resumeShow startNow
  split
  · split
    · split
      · exact h
      · split
        · exact h
        · split
          · exact (h.beginOpening m _ _).post _ _
          · exact h.tellDuty _
          · exact h
    · exact h
  · split
    · exact h
    · split
      · exact h.startShow m
      · dsimp only
        split
        · exact h
        · exact h.carbonNotice m

theorem LampsAbide.startReached (h : LampsAbide s t) (m : ScreenNo) : LampsAbide s (t.startReached m) := by
  unfold State.startReached State.startOrHold
  split
  · split
    · dsimp only
      split
      · exact (h.storeReadiness m).startShow m
      · have hhold : ∀ v r, LampsAbide s v → LampsAbide s (((v.setShow m r).holdBell m).tellDuty (.screen m)) :=
          fun v r hv => hv.same rfl
        exact (hhold _ _ (h.storeReadiness m)).post _ _
    · exact h
  · exact h

/-! ## Every order and notice in turn -/

theorem LampsAbide.foldl {ι : Type} {f : State → ι → State} (hf : ∀ v x, LampsAbide s v → LampsAbide s (f v x)) (l : List ι)
    (h : LampsAbide s t) : LampsAbide s (l.foldl f t) := by
  induction l generalizing t with
  | nil => exact h
  | cons x l ih => exact ih (hf t x h)

theorem LampsAbide.settleArming (h : LampsAbide s t) : LampsAbide s t.settleArming := by
  refine LampsAbide.foldl (fun v m hv => ?_) _ h
  split
  · exact hv.armingCheck m
  · exact hv

theorem LampsAbide.settleTests (h : LampsAbide s t) : LampsAbide s t.settleTests := by
  refine LampsAbide.foldl (fun v m hv => ?_) _ h
  split
  · exact hv.retest m
  · exact hv
end Sys2Proof.Machine
end

section
/-! What the arc unit does to a lamp (R87 to R102): each operation changes the arc of one projector, with its account,
and sends notices. -/

namespace Sys2Proof.Machine

variable {s t u : State} {p q : ProjNo}

/-! ## Writing one lamp -/

theorem State.setArc_self (s : State) (p : ProjNo) : s.setArc p (s.arc p) = s := by
  have hset : s.arcs.set p (s.arc p) = s.arcs := ByProj.ext_get fun q => by
    rw [ByProj.get_set]
    split
    next hq => rw [hq, State.arc]
    · rfl
  rw [State.setArc, hset]

theorem State.setArc_setArc (s : State) (p : ProjNo) (a b : Arc) : (s.setArc p a).setArc p b = s.setArc p b := by
  have hset : (s.arcs.set p a).set p b = s.arcs.set p b := ByProj.ext_get fun q => by
    simp only [ByProj.get_set]
    split
    · rfl
    · rfl
  rw [State.setArc, State.setArc_arcs, hset]
  rfl

/-- The arc and the account of one projector are written. -/
def State.setLamp (s : State) (p : ProjNo) (l : Lamp) : State := (s.setArcStore p l.store).setArc p l.arc

@[simp] theorem State.lamp_setLamp (s : State) (p q : ProjNo) (l : Lamp) :
    (s.setLamp p l).lamp q = if q = p then l else s.lamp q := by
  have harc : (s.setLamp p l).arc q = if q = p then l.arc else s.arc q := State.arc_setArc _ _ _ _
  have hstore : (s.setLamp p l).arcStore q = if q = p then l.store else s.arcStore q :=
    State.arcStore_setArcStore _ _ _ _
  rw [State.lamp, harc, hstore]
  split
  · rfl
  · rfl

/-- A change of the arc alone. -/
theorem State.setLamp_arc (s : State) (p : ProjNo) (a : Arc) : s.setLamp p ⟨a, s.arcStore p⟩ = s.setArc p a := by
  have hset : s.retained.arcs.set p (s.arcStore p) = s.retained.arcs := ByProj.ext_get fun q => by
    rw [ByProj.get_set]
    split
    next hq => rw [hq, State.arcStore]
    · rfl
  rw [State.setLamp, State.setArcStore, hset]

theorem State.setArc_lamp (s : State) (p q : ProjNo) (a : Arc) :
    (s.setArc p a).lamp q = if q = p then ⟨a, s.arcStore p⟩ else s.lamp q := by
  rw [← State.setLamp_arc, State.lamp_setLamp]

theorem State.setArc_outsideNotices (s : State) (p : ProjNo) (a : Arc) :
    (s.setArc p a).outsideNotices = s.outsideNotices.setArc p a := rfl

theorem State.arc_of_outsideNotices (h : t.outsideNotices = s.outsideNotices) (p : ProjNo) : t.arc p = s.arc p :=
  congrArg Lamp.arc (State.lamp_congr (State.lampPart_of_outsideNotices h) p)

theorem State.tracker_of_outsideNotices (h : t.outsideNotices = s.outsideNotices) (p : ProjNo) :
    t.tracker p = s.tracker p := by
  change t.outsideNotices.tracker p = s.outsideNotices.tracker p
  rw [h]

section Equations

variable (s)

/-! ## Strikes (R87 to R90) -/

/-- An arc that the crater contacts are read for (R94, R95). -/
def Arc.read (a : Arc) (k : ArcStore) (long short : Bool) : Arc :=
  { a with
    sensorReported := a.sensorReported || (long && short)
    train := if long && !short then
        if a.train = .idle then .high k.highWidth k.lowWidth k.highWidth else a.train
      else a.train }

section Read

variable (a : Arc) (k : ArcStore)

theorem Arc.read_idle (h : a.train = .idle) :
    a.read k true false = { a with train := .high k.highWidth k.lowWidth k.highWidth } := by simp [Arc.read, h]

theorem Arc.read_feeding (h : a.train ≠ .idle) : a.read k true false = a := by simp [Arc.read, h]

theorem Arc.read_both : a.read k true true = { a with sensorReported := true } := by simp [Arc.read]

theorem Arc.read_not_long (short : Bool) : a.read k false short = a := by simp [Arc.read]

end Read

theorem State.readCrater_outsideNotices (p : ProjNo) : (s.readCrater p).outsideNotices =
    (s.setArc p ((s.arc p).read (s.arcStore p) (s.pins.craterLong.get p) (s.pins.craterShort.get p))).outsideNotices := by
  have hself := s.setArc_self p
  unfold State.readCrater
  split
  next hl hs =>
    rw [hl, hs]
    split
    next ht => rw [Arc.read_idle _ _ ht]
    next ht => rw [Arc.read_feeding _ _ ht, hself]
  next hl hs =>
    rw [hl, hs, Arc.read_both]
    split
    next hr => rw [← hr, hself]
    · rfl
  next hl => rw [hl, Arc.read_not_long, hself]

/-- An arc that has been established (R88), before the crater contacts are read. -/
def Arc.established (a : Arc) (counter : Nat) : Arc :=
  { a with
    state := .burning, phase := none, attempts := 0, lossTimer := none, sensorReported := false, train := .idle
    mark := if a.showing then some counter else a.mark }

theorem State.readCrater_setArc (p : ProjNo) (a : Arc) (b : Block) (c : AttnCause) :
    (((s.setArc p a).post b c).readCrater p).outsideNotices =
      (s.setArc p (a.read (s.arcStore p) (s.pins.craterLong.get p) (s.pins.craterShort.get p))).outsideNotices := by
  rw [State.readCrater_outsideNotices]
  change ((s.setArc p a).setArc p (((s.setArc p a).arc p).read (s.arcStore p) (s.pins.craterLong.get p)
    (s.pins.craterShort.get p))).outsideNotices = _
  rw [State.setArc_setArc, State.arc_setArc, if_pos rfl]

theorem State.establish_outsideNotices (p : ProjNo) : (s.establish p).outsideNotices =
    (s.setArc p (((s.arc p).established (s.tracker p).counter).read (s.arcStore p) (s.pins.craterLong.get p)
      (s.pins.craterShort.get p))).outsideNotices := by
  unfold State.establish State.beginSpan Arc.established
  dsimp only
  rw [State.arcNotice_outsideNotices]
  split
  · rw [State.setArc_setArc, State.arc_setArc, if_pos rfl, State.readCrater_setArc]
    rfl
  · rw [State.readCrater_setArc]

theorem State.strikeFails_outsideNotices (p : ProjNo) : (s.strikeFails p).outsideNotices =
    (s.setArc p { s.arc p with state := .fault, phase := none, attempts := 0 }).outsideNotices := by
  unfold State.strikeFails
  dsimp only
  rw [State.arcFaultNotice_outsideNotices, State.arcNotice_outsideNotices, State.post_outsideNotices]

/-- An arc that has been lost: one restrike attempt (R90). -/
def Arc.restruck (a : Arc) (counter : Nat) : Arc :=
  { a.endSpan counter with
    state := .striking, attempts := 1, phase := some ⟨.touch, 400⟩, lossTimer := none, train := .idle }

theorem State.arcLost_outsideNotices (p : ProjNo) : (s.arcLost p).outsideNotices =
    (s.setArc p ((s.arc p).restruck (s.tracker p).counter)).outsideNotices := by
  unfold State.arcLost
  dsimp only
  rw [State.arcNotice_outsideNotices, State.post_outsideNotices]
  rfl

/-- An arc that has been put out (R91 to R93). -/
def Arc.out (a : Arc) (counter : Nat) : Arc :=
  { a.endSpan counter with state := .off, phase := none, attempts := 0, lossTimer := none, train := .idle }

theorem State.putOut_outsideNotices (p : ProjNo) : (s.putOut p).outsideNotices =
    (s.setArc p ((s.arc p).out (s.tracker p).counter)).outsideNotices := State.arcNotice_outsideNotices _ p

/-! ## The account (R96, R97, R99, R100) -/

/-- The LOW flag is judged (R97). -/
def Lamp.judged (l : Lamp) : Lamp := { l with arc := { l.arc with low := decide (l.store.remaining ≤ l.store.reserve) } }

theorem State.settleLow_outsideNotices (p : ProjNo) : (s.settleLow p).outsideNotices =
    (s.setArc p (s.lamp p).judged.arc).outsideNotices := by
  have hjudged : ∀ low, decide ((s.arcStore p).remaining ≤ (s.arcStore p).reserve) = low →
      (s.lamp p).judged.arc = { s.arc p with low := low } := by
    rintro _ rfl
    rfl
  unfold State.settleLow
  dsimp only
  cases hd : decide ((s.arcStore p).remaining ≤ (s.arcStore p).reserve) with
  | true =>
    rw [hjudged _ hd]
    split
    · rfl
    next hl =>
      have hlow : (s.arc p).low = true := by simpa using hl
      rw [if_neg (by simp), ← hlow, s.setArc_self p]
  | false =>
    rw [hjudged _ hd, if_neg (by simp)]
    split
    · rfl
    next hl =>
      have hlow : (s.arc p).low = false := by simpa using hl
      rw [← hlow, s.setArc_self p]

/-- An arc whose carbon is spent (R96). -/
def Arc.spent (a : Arc) (counter : Nat) : Arc :=
  { a.endSpan counter with state := .spent, train := .idle, lossTimer := none }

theorem State.becomeSpent_outsideNotices (p : ProjNo) : (s.becomeSpent p).outsideNotices =
    (s.setArc p ((s.arc p).spent (s.tracker p).counter)).outsideNotices := by
  unfold State.becomeSpent
  dsimp only
  rw [State.arcFaultNotice_outsideNotices, State.arcNotice_outsideNotices, State.post_outsideNotices]
  rfl

/-- A lamp after a completed feed step (R96). -/
def Lamp.fed (l : Lamp) (counter : Nat) : Lamp :=
  let m := Lamp.judged ⟨l.arc.feed, l.store.feed⟩
  if m.store.remaining = 0 then ⟨m.arc.spent counter, m.store⟩ else m

theorem State.feedStep_outsideNotices (p : ProjNo) : (s.feedStep p).outsideNotices =
    (s.setLamp p ((s.lamp p).fed (s.tracker p).counter)).outsideNotices := by
  have hwrite : ((s.setArcStore p (s.arcStore p).feed).setArc p (s.arc p).feed) =
      s.setLamp p ⟨(s.arc p).feed, (s.arcStore p).feed⟩ := rfl
  have hlow : ((s.setLamp p ⟨(s.arc p).feed, (s.arcStore p).feed⟩).settleLow p).outsideNotices =
      (s.setLamp p (Lamp.judged ⟨(s.arc p).feed, (s.arcStore p).feed⟩)).outsideNotices := by
    rw [State.settleLow_outsideNotices, State.lamp_setLamp, if_pos rfl]
    exact congrArg State.outsideNotices (State.setArc_setArc _ p _ _)
  unfold State.feedStep Lamp.fed
  dsimp only
  rw [hwrite]
  split
  next h0 =>
    have hspent : (Lamp.judged ⟨(s.lamp p).arc.feed, (s.lamp p).store.feed⟩).store.remaining = 0 := h0
    have harc := (State.arc_of_outsideNotices hlow p).trans
      (congrArg Lamp.arc ((s.lamp_setLamp p p _).trans (if_pos rfl)))
    rw [if_pos hspent, State.becomeSpent_outsideNotices, State.setArc_outsideNotices, hlow, harc,
      State.tracker_of_outsideNotices hlow, ← State.setArc_outsideNotices]
    exact congrArg State.outsideNotices (State.setArc_setArc _ p _ _)
  next h0 =>
    have hleft : ¬ (Lamp.judged ⟨(s.lamp p).arc.feed, (s.lamp p).store.feed⟩).store.remaining = 0 := h0
    rw [if_neg hleft, hlow]
    rfl

end Equations

end Sys2Proof.Machine
end

section
/-! Sound lamps and shutters (R84, R92, R96, R97, R99, R100, R102, R105, R106, R113): what each operation keeps of the
two. The operations of the arc unit light no arc while fire is active, and the shutter unit puts out every arc as fire
begins. -/

namespace Sys2Proof.Machine

variable {s t u : State} {p q : ProjNo} {n m : ScreenNo} {i : ShutterNo}

/-! ## Sound lamps -/

/-- What `State.CarbonSound` says of one lamp, with main power or without. -/
structure Lamp.Sound (l : Lamp) (on : Bool) : Prop where
  account : l.store.remaining + l.store.stepsSinceTrim = l.store.trimLength
  ranges : l.store.trimLength ≤ 60000 ∧ l.store.reserve ≤ 6000 ∧ 1 ≤ l.store.defaultRate ∧ l.store.defaultRate ≤ 500 ∧
    5 ≤ l.store.highWidth ∧ l.store.highWidth ≤ 250 ∧ 5 ≤ l.store.lowWidth ∧ l.store.lowWidth ≤ 250
  rates : l.store.RatesSound
  low : on = true → (l.arc.low = true ↔ l.store.remaining ≤ l.store.reserve)

theorem State.carbonSound_iff : s.CarbonSound ↔ ∀ p, (s.lamp p).Sound s.powered :=
  ⟨fun h p => ⟨h.account p, h.ranges p, h.history p, fun hp => h.low hp p⟩,
    fun h => ⟨fun p => (h p).account, fun p => (h p).ranges, fun p => (h p).rates, fun hp p => (h p).low hp⟩⟩

variable {on : Bool}

theorem Lamp.Abides.sound {a b : Lamp} (h : a.Abides b) (ha : a.Sound on) : b.Sound on := by
  have hacc := h.account
  simp only [ArcStore.account, ArcStore.mk.injEq, and_true] at hacc
  obtain ⟨hr, hs, ht, hv, hd, hh, hl⟩ := hacc
  refine ⟨by rw [hr, hs, ht, ha.account], ?_, h.rates ha.rates, fun hon => ?_⟩
  · rw [ht, hv, hd, hh, hl]
    exact ha.ranges
  · rw [h.low, hr, hv]
    exact ha.low hon

/-- A lamp whose arc has changed but for the LOW flag. -/
theorem Lamp.Sound.setArc {l : Lamp} (h : l.Sound on) {a : Arc} (ha : a.low = l.arc.low) : Lamp.Sound ⟨a, l.store⟩ on :=
  ⟨h.account, h.ranges, h.rates, fun hon => by rw [ha]; exact h.low hon⟩

/-- A judged lamp has the LOW flag that its account asks for (R97). -/
theorem Lamp.sound_judged {l : Lamp} (ha : l.store.remaining + l.store.stepsSinceTrim = l.store.trimLength)
    (hr : l.store.trimLength ≤ 60000 ∧ l.store.reserve ≤ 6000 ∧ 1 ≤ l.store.defaultRate ∧ l.store.defaultRate ≤ 500 ∧
      5 ≤ l.store.highWidth ∧ l.store.highWidth ≤ 250 ∧ 5 ≤ l.store.lowWidth ∧ l.store.lowWidth ≤ 250)
    (hh : l.store.RatesSound) : l.judged.Sound on := ⟨ha, hr, hh, fun _ => decide_eq_true_iff⟩

/-- A feed step moves one unit of the account (R96). -/
theorem Lamp.Sound.fed {l : Lamp} (h : l.Sound on) (counter : Nat) : (l.fed counter).Sound on := by
  have hstep : l.store.feed.remaining + l.store.feed.stepsSinceTrim = l.store.feed.trimLength ∧
      l.store.feed = { l.store with
        remaining := l.store.feed.remaining, stepsSinceTrim := l.store.feed.stepsSinceTrim } := by
    have hacc := h.account
    unfold ArcStore.feed
    split
    · exact ⟨hacc, rfl⟩
    · exact ⟨by dsimp only; omega, rfl⟩
  have hjudged : Lamp.Sound (Lamp.judged ⟨l.arc.feed, l.store.feed⟩) on :=
    Lamp.sound_judged hstep.1 (by rw [hstep.2]; exact h.ranges) (by rw [hstep.2]; exact h.rates)
  unfold Lamp.fed
  dsimp only
  split
  · exact hjudged.setArc (Arc.endSpan_low _ _)
  · exact hjudged

/-- A fresh account (R99). -/
theorem Lamp.Sound.retrimmed {l : Lamp} (h : l.Sound on) {trim : Nat} (ht : trim ≤ 60000) (a : Arc) :
    (Lamp.judged ⟨a, { l.store with remaining := trim, trimLength := trim, stepsSinceTrim := 0 }⟩).Sound on :=
  Lamp.sound_judged rfl ⟨ht, h.ranges.2⟩ h.rates

/-! ## Sound shutters -/

/-- What `State.ShuttersSound` says of one shutter. -/
structure Shutter.Sound (r : Shutter) : Prop where
  causes : r.state ≠ .dropped → r.causes = .empty
  solenoid : r.energised = true ↔ r.state ≠ .dropped
  timer : r.armingTimer.isSome = true ↔ r.state = .arming

theorem State.shuttersSound_iff : s.ShuttersSound ↔ ∀ i, (s.shutter i).Sound :=
  ⟨fun h i => ⟨h.causes i, h.solenoid i, h.timer i⟩,
    fun h => ⟨fun i => (h i).causes, fun i => (h i).solenoid, fun i => (h i).timer⟩⟩

theorem ArcState.lit_eq_false {x : ArcState} : x.lit = false ↔ x ≠ .striking ∧ x ≠ .burning := by
  cases x <;> simp [ArcState.lit]

/-- A shutter that is down with the cause FIRE. -/
def Shutter.FireDown (r : Shutter) : Prop := r.state = .dropped ∧ r.causes.fire = true

theorem State.fireSound_iff : s.FireSound ↔ (s.shutterUnit.fireActive = true →
    (∀ p, (s.arc p).state.lit = false) ∧ ∀ i, (s.shutter i).FireDown) :=
  ⟨fun h hf => ⟨fun p => ArcState.lit_eq_false.mpr (h.arcs hf p), h.shutters hf⟩,
    fun h => ⟨fun hf p => ArcState.lit_eq_false.mp ((h hf).1 p), fun hf => (h hf).2⟩⟩

theorem State.fireSound_of_inactive (h : s.shutterUnit.fireActive = false) : s.FireSound :=
  State.fireSound_iff.mpr fun hf => by cases h.symm.trans hf

/-! ### What a shutter takes -/

theorem Shutter.Sound.addCause {r : Shutter} (h : r.Sound) (c : DropCause) : (r.addCause c).Sound := by
  unfold Shutter.addCause
  split
  next hd => exact ⟨fun hn => absurd hd hn, h.solenoid, h.timer⟩
  · exact ⟨fun hn => absurd rfl hn, by simp, by simp⟩

theorem CauseSet.put_true_fire {x : CauseSet} (h : x.fire = true) (c : DropCause) : (x.put c true).fire = true := by
  cases c with
  | fire => rfl
  | power | manual | filmBreak | heat | link => exact h

theorem CauseSet.put_fire (x : CauseSet) {c : DropCause} (h : c ≠ .fire) (v : Bool) : (x.put c v).fire = x.fire := by
  cases c with
  | fire => exact absurd rfl h
  | power | manual | filmBreak | heat | link => rfl

theorem CauseSet.put_empty (c : DropCause) : CauseSet.empty.put c false = .empty := by
  have hp : ∀ p, (ByProj.const false).set p false = .const false := fun p => ByProj.ext_get fun q => by simp
  have hs : ∀ i, (ByShutter.const false).set i false = .const false := fun i => ByShutter.ext_get fun j => by simp
  cases c with
  | power | fire | manual => rfl
  | filmBreak p | heat p => simp only [CauseSet.put, CauseSet.empty, hp]
  | link i => simp only [CauseSet.put, CauseSet.empty, hs]

theorem Shutter.addCause_fireDown {r : Shutter} (h : r.FireDown) (c : DropCause) : (r.addCause c).FireDown := by
  unfold Shutter.addCause
  rw [if_pos h.1]
  exact ⟨h.1, CauseSet.put_true_fire h.2 c⟩

/-- The FIRE trigger takes every shutter down (R113). -/
theorem Shutter.addCause_fire (r : Shutter) : (r.addCause .fire).FireDown := by
  unfold Shutter.addCause
  split
  next hd => exact ⟨hd, rfl⟩
  · exact ⟨rfl, rfl⟩

/-- A cause that ends leaves an empty set empty. -/
theorem Shutter.Sound.clearCause {r : Shutter} (h : r.Sound) (c : DropCause) :
    Shutter.Sound { r with causes := r.causes.put c false } :=
  ⟨fun hn => by rw [h.causes hn, CauseSet.put_empty], h.solenoid, h.timer⟩

/-! ## Keeping both -/

/-- From `s` to `t` the main power is as it was, every sound lamp stays sound, and so do the shutters with fire. -/
structure KeepsLamps (s t : State) : Prop where
  powered : t.powered = s.powered
  lamps : ∀ p, (s.lamp p).Sound s.powered → (t.lamp p).Sound s.powered
  shutters : (∀ i, (s.shutter i).Sound) → s.FireSound → (∀ i, (t.shutter i).Sound) ∧ t.FireSound

theorem KeepsLamps.trans (h : KeepsLamps s t) (k : KeepsLamps t u) : KeepsLamps s u := by
  refine ⟨k.powered.trans h.powered, fun p hp => ?_, fun hs hf => ?_⟩
  · have hk := k.lamps p
    rw [h.powered] at hk
    exact hk (h.lamps p hp)
  · obtain ⟨hs', hf'⟩ := h.shutters hs hf
    exact k.shutters hs' hf'

theorem KeepsLamps.carbon (h : KeepsLamps s t) (hs : s.CarbonSound) : t.CarbonSound := by
  rw [State.carbonSound_iff] at hs ⊢
  intro p
  rw [h.powered]
  exact h.lamps p (hs p)

theorem KeepsLamps.down (h : KeepsLamps s t) (hs : s.ShuttersSound) (hf : s.FireSound) :
    t.ShuttersSound ∧ t.FireSound := by
  rw [State.shuttersSound_iff] at hs ⊢
  exact h.shutters hs hf

/-- With the shutter unit as it was, no arc may be lit that was not, while fire is active. -/
theorem KeepsLamps.of_unit (hp : t.powered = s.powered) (hu : t.shutterUnit = s.shutterUnit)
    (hs : ∀ p, (s.lamp p).Sound s.powered → (t.lamp p).Sound s.powered)
    (hlit : ∀ p, (t.arc p).state.lit = true → (s.arc p).state.lit = true ∨ s.shutterUnit.fireActive = false) :
    KeepsLamps s t := by
  have hshut : ∀ i, t.shutter i = s.shutter i := fun i => by rw [State.shutter, hu, State.shutter]
  refine ⟨hp, hs, fun hs hf => ⟨fun i => by rw [hshut]; exact hs i, ?_⟩⟩
  rw [State.fireSound_iff] at hf ⊢
  rw [hu]
  intro hon
  obtain ⟨hout, hdown⟩ := hf hon
  refine ⟨fun p => ?_, fun i => by rw [hshut]; exact hdown i⟩
  by_contra hl
  rcases hlit p (by simpa using hl) with h | h
  · rw [hout p] at h
    cases h
  · rw [hon] at h
    cases h

/-- What leaves the lamps alone keeps them. -/
theorem LampsAbide.keepsLamps (h : LampsAbide s t) : KeepsLamps s t :=
  .of_unit h.powered h.shutterUnit (fun p => (h.lamps p).sound) fun p hl => by
    rw [← State.lamp_arc, ← (h.lamps p).state]
    exact .inl hl

theorem KeepsLamps.refl (s : State) : KeepsLamps s s := (LampsAbide.refl s).keepsLamps

theorem KeepsLamps.of_part (h : t.lampPart = s.lampPart) : KeepsLamps s t :=
  .of_unit (congrArg LampPart.powered h) (congrArg LampPart.shutterUnit h)
    (fun p hp => by rwa [State.lamp_congr h]) fun p hl => by
      rw [← State.lamp_arc, ← State.lamp_congr h p]
      exact .inl hl

theorem KeepsLamps.same (h : KeepsLamps s t) (hu : u.lampPart = t.lampPart) : KeepsLamps s u := h.trans (.of_part hu)

/-- A change of one lamp. -/
theorem KeepsLamps.ofLamp (p : ProjNo) {l : Lamp} (h : t.outsideNotices = (s.setLamp p l).outsideNotices)
    (hs : (s.lamp p).Sound s.powered → l.Sound s.powered)
    (hlit : l.arc.state.lit = true → (s.arc p).state.lit = true ∨ s.shutterUnit.fireActive = false) :
    KeepsLamps s t := by
  have hpart := State.lampPart_of_outsideNotices h
  have hlamp : ∀ q, t.lamp q = if q = p then l else s.lamp q := fun q =>
    (State.lamp_congr hpart q).trans (s.lamp_setLamp p q l)
  refine .of_unit (congrArg LampPart.powered hpart) (congrArg LampPart.shutterUnit hpart) (fun q hq => ?_) fun q hl => ?_
  · rw [hlamp]
    split
    next he => exact hs (he ▸ hq)
    · exact hq
  · rw [← State.lamp_arc, hlamp] at hl
    split at hl
    next he => exact he ▸ hlit hl
    · exact .inl hl

/-- A change of one arc, but for its LOW flag. -/
theorem KeepsLamps.ofArc (p : ProjNo) {a : Arc} (h : t.outsideNotices = (s.setArc p a).outsideNotices)
    (hlow : a.low = (s.arc p).low)
    (hlit : a.state.lit = true → (s.arc p).state.lit = true ∨ s.shutterUnit.fireActive = false) : KeepsLamps s t :=
  .ofLamp p (l := ⟨a, s.arcStore p⟩) (by rw [h, State.setLamp_arc]) (fun hs => hs.setArc hlow) hlit

/-! ## The arc unit -/

theorem State.readCrater_keepsLamps (s : State) (p : ProjNo) : KeepsLamps s (s.readCrater p) :=
  .ofArc p (s.readCrater_outsideNotices p) rfl .inl

theorem State.establish_keepsLamps (h : (s.arc p).state.lit = true) : KeepsLamps s (s.establish p) :=
  .ofArc p (s.establish_outsideNotices p) rfl fun _ => .inl h

theorem State.putOut_keepsLamps (s : State) (p : ProjNo) : KeepsLamps s (s.putOut p) :=
  .ofArc p (s.putOut_outsideNotices p) (Arc.endSpan_low _ _) nofun

theorem State.feedStep_keepsLamps (s : State) (p : ProjNo) : KeepsLamps s (s.feedStep p) := by
  refine .ofLamp p (s.feedStep_outsideNotices p) (fun h => h.fed _) fun hl => .inl ?_
  have hfeed : (s.arc p).feed.state = (s.arc p).state := by
    unfold Arc.feed
    split
    · rfl
    · rfl
  unfold Lamp.fed at hl
  dsimp only at hl
  split at hl
  · cases hl
  · exact hfeed ▸ hl

theorem Arc.inPhase_striking {a : Arc} {k : StrikePhase} (h : a.inPhase k = true) : a.state = .striking := by
  simpa using (Bool.and_eq_true_iff.mp h).1

theorem Arc.inPhase_lit {a : Arc} {k : StrikePhase} (h : a.inPhase k = true) : a.state.lit = true := by
  rw [Arc.inPhase_striking h]
  rfl

theorem State.touchExpiry_keepsLamps (s : State) (p : ProjNo) : KeepsLamps s (s.touchExpiry p) := by
  unfold State.touchExpiry
  split
  next h =>
    split
    · exact State.establish_keepsLamps (Arc.inPhase_lit h)
    · exact .ofArc p rfl rfl .inl
  · exact .refl s

theorem State.proofExpiry_keepsLamps (s : State) (p : ProjNo) : KeepsLamps s (s.proofExpiry p) := by
  unfold State.proofExpiry
  split
  · split
    · exact .ofArc p rfl rfl .inl
    · exact .ofArc p (s.strikeFails_outsideNotices p) rfl nofun
  · exact .refl s

theorem State.pauseExpiry_keepsLamps (s : State) (p : ProjNo) : KeepsLamps s (s.pauseExpiry p) := by
  unfold State.pauseExpiry
  split
  · exact .ofArc p rfl rfl .inl
  · exact .refl s

theorem State.arcReported_keepsLamps (s : State) (p : ProjNo) : KeepsLamps s (s.arcReported p) := by
  unfold State.arcReported
  split
  next h => exact State.establish_keepsLamps (Arc.inPhase_lit h)
  · split
    · exact .ofArc p rfl rfl .inl
    · exact .refl s

theorem State.arcCeased_keepsLamps (s : State) (p : ProjNo) : KeepsLamps s (s.arcCeased p) := by
  unfold State.arcCeased
  split
  · exact .ofArc p rfl rfl .inl
  · exact .refl s

theorem State.lossExpiry_keepsLamps (s : State) (p : ProjNo) : KeepsLamps s (s.lossExpiry p) := by
  unfold State.lossExpiry
  split
  next h =>
    have hb : (s.arc p).state = .burning := by simpa using (Bool.and_eq_true_iff.mp h).1
    exact .ofArc p (s.arcLost_outsideNotices p) (Arc.endSpan_low _ _) fun _ => .inl (by rw [hb]; rfl)
  · exact .refl s

theorem State.craterChange_keepsLamps (s : State) (p : ProjNo) : KeepsLamps s (s.craterChange p) := by
  unfold State.craterChange
  split
  · exact s.readCrater_keepsLamps p
  · exact .refl s

theorem State.highEnd_keepsLamps (s : State) (p : ProjNo) : KeepsLamps s (s.highEnd p) := by
  unfold State.highEnd
  split
  next h l _ _ =>
    have hlow : KeepsLamps s (s.setArc p { s.arc p with train := .low h l l }) := .ofArc p rfl rfl .inl
    exact hlow.trans (State.feedStep_keepsLamps _ p)
  · exact .refl s

theorem State.lowEnd_keepsLamps (s : State) (p : ProjNo) : KeepsLamps s (s.lowEnd p) := by
  unfold State.lowEnd
  split
  · split
    · exact .ofArc p rfl rfl .inl
    · exact .ofArc p rfl rfl .inl
  · exact .refl s

theorem strike_keepsLamps (p : ProjNo) (s : State) : KeepsLamps s (strike p s).1 := by
  unfold strike
  split
  · exact .refl s
  · split
    · exact .refl s
    next hf =>
      split
      · exact .refl s
      · exact .ofArc p (State.arcNotice_outsideNotices _ p) rfl fun _ => .inr (by simpa using hf)

theorem extinguish_keepsLamps (p : ProjNo) (s : State) : KeepsLamps s (extinguish p s).1 := by
  unfold extinguish
  split
  · exact .refl s
  · exact .refl s
  · exact s.putOut_keepsLamps p

end Sys2Proof.Machine
end

section
/-! The shutter unit and what halts, empties or counts (R32 to R48, R110 to R123): each keeps the lamps and the shutters
sound. A trigger adds its cause and then abides; fire takes every shutter down and puts out every arc (R92, R113). -/

namespace Sys2Proof.Machine

variable {s t u : State} {p q : ProjNo} {n m : ScreenNo} {i : ShutterNo}

/-! ## Re-trim and settings (R99, R100) -/

theorem State.settleLow_setLamp (s : State) (p : ProjNo) (l : Lamp) :
    ((s.setLamp p l).settleLow p).outsideNotices = (s.setLamp p l.judged).outsideNotices := by
  rw [State.settleLow_outsideNotices, State.lamp_setLamp, if_pos rfl]
  exact congrArg State.outsideNotices (State.setArc_setArc _ p _ _)

/-- A lamp with a fresh account (R99). -/
def Lamp.retrimmed (l : Lamp) (trim : Nat) : Lamp :=
  Lamp.judged ⟨{ l.arc with state := .off }, { l.store with remaining := trim, trimLength := trim, stepsSinceTrim := 0 }⟩

/-- A re-trim that is taken (R99). -/
theorem retrimDone_taken {trim : Half} (hl : (s.arc p).state.lit = false) (h1 : trim.toNat ≤ 60000)
    (h2 : (s.arcStore p).reserve < trim.toNat) : ∃ u, retrimDone trim p s = (u, .ok []) ∧
      u.outsideNotices = (s.setLamp p ((s.lamp p).retrimmed trim.toNat)).outsideNotices := by
  have hlow := s.settleLow_setLamp p
    ⟨{ s.arc p with state := .off }, { s.arcStore p with
      remaining := trim.toNat, trimLength := trim.toNat, stepsSinceTrim := 0 }⟩
  have hrange : ((inRange 1 60000 trim.toNat).isNone || decide (trim.toNat ≤ (s.arcStore p).reserve)) = false := by
    rw [inRange_some (Nat.lt_of_le_of_lt (Nat.zero_le _) h2) h1]
    simpa using h2
  unfold retrimDone
  dsimp only
  rw [if_neg (by simp [hl]), if_neg (by rw [hrange]; exact Bool.false_ne_true)]
  refine ⟨_, rfl, (State.retrimNotice_outsideNotices _ p).trans ?_⟩
  split
  · exact hlow
  · exact (State.arcNotice_outsideNotices _ p).trans hlow

theorem retrimDone_lit (trim : Half) (h : (s.arc p).state.lit = true) :
    retrimDone trim p s = refuse .state s := if_pos h

theorem retrimDone_range {trim : Half} (hl : (s.arc p).state.lit = false)
    (h : trim = 0 ∨ 60000 < trim.toNat ∨ trim.toNat ≤ (s.arcStore p).reserve) : retrimDone trim p s = refuse .range s := by
  unfold retrimDone
  dsimp only
  rw [if_neg (by simp [hl])]
  refine if_pos ?_
  rcases h with rfl | h | h
  · exact Bool.or_eq_true_iff.mpr (.inl rfl)
  · rw [inRange_none (.inr h)]
    rfl
  · exact Bool.or_eq_true_iff.mpr (.inr (decide_eq_true h))

theorem retrimDone_keepsLamps (trim : Half) (p : ProjNo) (s : State) : KeepsLamps s (retrimDone trim p s).1 := by
  cases hl : (s.arc p).state.lit with
  | true =>
    rw [retrimDone_lit trim hl]
    exact .refl s
  | false =>
    by_cases hr : 60000 < trim.toNat ∨ trim.toNat ≤ (s.arcStore p).reserve
    · rw [retrimDone_range hl (.inr hr)]
      exact .refl s
    · simp only [not_or, not_lt, not_le] at hr
      obtain ⟨u, hbody, hout⟩ := retrimDone_taken hl hr.1 hr.2
      rw [hbody]
      exact .ofLamp p hout (fun h => h.retrimmed hr.1 _) nofun

/-- A lamp with new settings (R100). -/
def Lamp.withSettings (l : Lamp) (reserve rate high low : Nat) : Lamp :=
  Lamp.judged ⟨l.arc, { l.store with reserve := reserve, defaultRate := rate, highWidth := high, lowWidth := low }⟩

theorem arcSettingsOk_iff {reserve rate : Half} {high low : Byte} : arcSettingsOk reserve rate high low = true ↔
    reserve.toNat ≤ 6000 ∧ 1 ≤ rate.toNat ∧ rate.toNat ≤ 500 ∧ 5 ≤ high.toNat ∧ high.toNat ≤ 250 ∧ 5 ≤ low.toNat ∧
      low.toNat ≤ 250 := by
  have hin : ∀ a b n, (inRange a b n).isSome = true ↔ a ≤ n ∧ n ≤ b := fun a b n => by
    unfold inRange
    split
    next h => simpa using h
    next h => simpa using h
  simp only [arcSettingsOk, Bool.and_eq_true, hin]
  omega

/-- Settings that are taken (R100). -/
theorem setArcSettings_taken {reserve rate : Half} {high low : Byte} (h : arcSettingsOk reserve rate high low = true) :
    ∃ u, setArcSettings reserve rate high low p s = (u, .ok []) ∧ u.outsideNotices =
      (s.setLamp p ((s.lamp p).withSettings reserve.toNat rate.toNat high.toNat low.toNat)).outsideNotices := by
  have hlow := s.settleLow_setLamp p
    ⟨s.arc p, { s.arcStore p with
      reserve := reserve.toNat, defaultRate := rate.toNat, highWidth := high.toNat, lowWidth := low.toNat }⟩
  have hself : ∀ k, s.setLamp p ⟨s.arc p, k⟩ = s.setArcStore p k := fun k => State.setArc_self (s.setArcStore p k) p
  unfold setArcSettings
  rw [if_pos h]
  refine ⟨_, rfl, (State.retrimNotice_outsideNotices _ p).trans ?_⟩
  rwa [hself] at hlow

theorem setArcSettings_range {reserve rate : Half} {high low : Byte} (h : ¬ arcSettingsOk reserve rate high low = true) :
    setArcSettings reserve rate high low p s = refuse .range s := if_neg h

theorem setArcSettings_keepsLamps (reserve rate : Half) (high low : Byte) (p : ProjNo) (s : State) :
    KeepsLamps s (setArcSettings reserve rate high low p s).1 := by
  by_cases h : arcSettingsOk reserve rate high low = true
  · obtain ⟨hres, hrate⟩ := arcSettingsOk_iff.mp h
    obtain ⟨u, hbody, hout⟩ := setArcSettings_taken (s := s) (p := p) h
    rw [hbody]
    exact .ofLamp p hout
      (fun hs => Lamp.sound_judged hs.account ⟨hs.ranges.1, hres, hrate⟩ hs.rates) .inl
  · rw [setArcSettings_range h]
    exact .refl s

/-! ## Changes of the shutters -/

/-- A change of the shutters and the button alone. -/
theorem KeepsLamps.ofShutters (hp : t.powered = s.powered) (hl : ∀ p, t.lamp p = s.lamp p)
    (hf : t.shutterUnit.fireActive = s.shutterUnit.fireActive) (hs : ∀ i, (s.shutter i).Sound → (t.shutter i).Sound)
    (hd : ∀ i, (s.shutter i).FireDown → (t.shutter i).FireDown) : KeepsLamps s t := by
  refine ⟨hp, fun p h => by rwa [hl], fun h hfire => ⟨fun i => hs i (h i), ?_⟩⟩
  rw [State.fireSound_iff] at hfire ⊢
  rw [hf]
  intro hon
  obtain ⟨hout, hdown⟩ := hfire hon
  refine ⟨fun p => ?_, fun i => hd i (hdown i)⟩
  rw [← State.lamp_arc, hl]
  exact hout p

theorem KeepsLamps.clearCause (s : State) {k : DropCause} (hk : k ≠ .fire) : KeepsLamps s (s.clearCause k) := by
  have hshut : ∀ i, (s.clearCause k).shutter i = { s.shutter i with causes := (s.shutter i).causes.put k false } :=
    fun i => ByShutter.get_map _ _ _
  refine .ofShutters rfl (fun _ => rfl) rfl (fun i h => ?_) fun i h => ?_
  · rw [hshut]
    exact h.clearCause k
  · rw [hshut]
    exact ⟨h.1, (CauseSet.put_fire _ hk false).trans h.2⟩

theorem KeepsLamps.addCauses (s : State) (k : TriggerKey) : KeepsLamps s (s.addCauses k) := by
  refine .ofShutters rfl (fun _ => rfl) rfl (fun i h => ?_) fun i h => ?_
  · rw [State.shutter_addCauses]
    split
    · exact h.addCause _
    · exact h
  · rw [State.shutter_addCauses]
    split
    · exact Shutter.addCause_fireDown h _
    · exact h

theorem KeepsLamps.setShutter (s : State) (i : ShutterNo) {r : Shutter} (hs : (s.shutter i).Sound → r.Sound)
    (hd : (s.shutter i).FireDown → r.FireDown) : KeepsLamps s (s.setShutter i r) := by
  refine .ofShutters rfl (fun _ => rfl) rfl (fun j h => ?_) fun j h => ?_
  · rw [State.shutter_setShutter]
    split
    next hj => exact hs (hj ▸ h)
    · exact h
  · rw [State.shutter_setShutter]
    split
    next hj => exact hd (hj ▸ h)
    · exact h

/-! ## Triggers (R110) -/

theorem LampsAbide.haltPorts (h : LampsAbide s t) (l : List ProjNo) (c : HaltCause) : LampsAbide s (t.haltPorts l c) :=
  LampsAbide.foldl (fun _ q hv => hv.haltCore q c) l h

theorem LampsAbide.takeHalts (h : LampsAbide s t) (l : List ProjNo) (m : ScreenNo) :
    LampsAbide s (State.takeHalts l t m) := by
  have hall := fun (ps : List ProjNo) (v : State) (hv : LampsAbide s v) =>
    LampsAbide.foldl (fun w q hw => LampsAbide.onHalt hw q) ps hv
  unfold State.takeHalts
  dsimp only
  split
  · exact hall _ _ (h.same rfl)
  · exact hall _ _ h

/-- After the causes of a trigger come halts, orders and notices. -/
theorem State.triggerAfter_abides (s : State) (k : TriggerKey) (first : Option ProjNo) :
    LampsAbide (s.addCauses k) (s.triggerAfter k first) := by
  have hfirst := LampsAbide.foldl (fun v q (hv : LampsAbide _ v) => hv.onHalt q) first.toList
    ((LampsAbide.refl (s.addCauses k)).haltPorts (portsOf (s.droppedBy k)) k.cause.halt)
  have htaken := LampsAbide.foldl (fun v m (hv : LampsAbide _ v) => hv.takeHalts
    ((portsOf (s.droppedBy k)).filter fun p => (s.projector p).runState.motor) m) allScreens hfirst
  have hleft := LampsAbide.foldl (fun v q (hv : LampsAbide _ v) => (hv.noteArmIfStandby q).noteRetest q.screen)
    (portsOf (s.droppedBy k)) htaken
  have hdropped := LampsAbide.foldl (fun v i (hv : LampsAbide _ v) => hv.tellDuty (.dropped i)) (s.droppedBy k) hleft
  unfold State.triggerAfter
  dsimp only
  split
  · exact hdropped
  · exact hdropped.post _ _

theorem State.trigger_abides (s : State) (k : TriggerKey) : LampsAbide (s.addCauses k) (s.trigger k) :=
  s.triggerAfter_abides k none

theorem State.triggerAfter_keepsLamps (s : State) (k : TriggerKey) (first : Option ProjNo) :
    KeepsLamps s (s.triggerAfter k first) := (KeepsLamps.addCauses s k).trans (s.triggerAfter_abides k first).keepsLamps

theorem State.trigger_keepsLamps (s : State) (k : TriggerKey) : KeepsLamps s (s.trigger k) :=
  s.triggerAfter_keepsLamps k none

theorem State.breakHalt_keepsLamps (s : State) (p : ProjNo) : KeepsLamps s (s.breakHalt p) := by
  unfold State.breakHalt
  split
  · exact ((LampsAbide.refl s).haltCore p _).keepsLamps.trans (State.triggerAfter_keepsLamps _ _ _)
  · exact .refl s

/-! ## Arcs that are put out -/

/-- A state with its arc put out, were it lit (R92, R93). -/
def ArcState.putOut (x : ArcState) : ArcState := if x.lit then .off else x

theorem ArcState.lit_putOut (x : ArcState) : x.putOut.lit = false := by cases x <;> rfl

theorem ArcState.putOut_putOut (x : ArcState) : x.putOut.putOut = x.putOut := by cases x <;> rfl

theorem State.putOut_arc (s : State) (p q : ProjNo) :
    (s.putOut p).arc q = if q = p then (s.arc p).out (s.tracker p).counter else s.arc q :=
  (State.arc_of_outsideNotices (s.putOut_outsideNotices p) q).trans (State.arc_setArc _ _ _ _)

theorem State.fireOut_state (s : State) (p q : ProjNo) :
    ((s.fireOut p).arc q).state = if q = p then (s.arc q).state.putOut else (s.arc q).state := by
  unfold State.fireOut ArcState.putOut
  by_cases hq : q = p
  · subst hq
    rw [if_pos rfl]
    split
    · rw [State.putOut_arc, if_pos rfl]
      rfl
    · rfl
  · rw [if_neg hq]
    split
    · rw [State.putOut_arc, if_neg hq]
    · rfl

theorem State.linkOut_state (s : State) (i : ShutterNo) (p q : ProjNo) :
    ((s.linkOut i p).arc q).state = if q = p then (s.arc q).state.putOut else (s.arc q).state := by
  rw [← State.fireOut_state]
  unfold State.linkOut State.fireOut
  split
  · rfl
  · rfl

/-- An operation that puts out one arc, applied to several projectors, puts out theirs. -/
theorem State.foldl_putOut {f : State → ProjNo → State}
    (hf : ∀ v p q, ((f v p).arc q).state = if q = p then (v.arc q).state.putOut else (v.arc q).state)
    (l : List ProjNo) (s : State) (q : ProjNo) :
    ((l.foldl f s).arc q).state = if q ∈ l then (s.arc q).state.putOut else (s.arc q).state := by
  induction l generalizing s with
  | nil => rfl
  | cons p l ih =>
    rw [List.foldl_cons, ih, hf]
    by_cases hp : q = p
    · by_cases hl : q ∈ l
      · rw [if_pos hl, if_pos hp, ArcState.putOut_putOut, if_pos (List.mem_cons_of_mem p hl)]
      · rw [if_neg hl, if_pos hp, if_pos (List.mem_cons.mpr (.inl hp))]
    · simp [hp]

theorem State.fireOut_keepsLamps (s : State) (p : ProjNo) : KeepsLamps s (s.fireOut p) := by
  unfold State.fireOut
  split
  · exact s.putOut_keepsLamps p
  · exact .refl s

theorem State.linkOut_keepsLamps (s : State) (i : ShutterNo) (p : ProjNo) : KeepsLamps s (s.linkOut i p) := by
  unfold State.linkOut
  split
  · exact (s.putOut_keepsLamps p).same rfl
  · exact .refl s

theorem KeepsLamps.foldl {ι : Type} {f : State → ι → State} (hf : ∀ v x, KeepsLamps v (f v x)) (l : List ι) (v : State) :
    KeepsLamps v (l.foldl f v) := by
  induction l generalizing v with
  | nil => exact .refl v
  | cons x l ih => exact (hf v x).trans (ih _)

/-! ## Fire (R113, R114) -/

theorem mem_allProjectors (p : ProjNo) : p ∈ allProjectors := by
  obtain ⟨n, d⟩ := p
  cases n <;> cases d <;> decide

theorem State.noteFire_outsideNotices (s : State) : s.noteFire.outsideNotices = s.outsideNotices :=
  foldl_keeps State.outsideNotices State.noteRunState State.noteRunState_outsideNotices _ s

/-- The causes of the FIRE trigger, with the fire flag set. -/
def State.inFire (s : State) : State := (s.setFire true).addCauses .fire

theorem State.inFire_shutter (s : State) (i : ShutterNo) : s.inFire.shutter i = (s.shutter i).addCause .fire :=
  (State.shutter_addCauses _ .fire i).trans (if_pos (ByShutter.get_const true i))

/-- As the loop becomes active every arc goes out, after the trigger. -/
theorem State.fireOn_part (s : State) :
    s.fireOn.lampPart = (allProjectors.foldl State.fireOut ((s.setFire true).trigger .fire)).lampPart := by
  refine State.lampPart_of_outsideNotices ?_
  unfold State.fireOn
  rw [State.post_outsideNotices, State.fireStanding_outsideNotices, State.noteFire_outsideNotices]

theorem State.fireOn_shutterUnit (s : State) : s.fireOn.shutterUnit = s.inFire.shutterUnit := by
  have hout : (allProjectors.foldl State.fireOut ((s.setFire true).trigger .fire)).calm =
      ((s.setFire true).trigger .fire).calm := foldl_keeps State.calm State.fireOut (fun v p => v.fireOut_calm p) _ _
  have hpart : s.fireOn.shutterUnit = _ := congrArg LampPart.shutterUnit s.fireOn_part
  exact hpart.trans ((State.shutterUnit_of_calm hout).trans (State.shutterUnit_of_calm (State.trigger_calm _ .fire)))

theorem State.fireOn_state (s : State) (p : ProjNo) : (s.fireOn.arc p).state = (s.arc p).state.putOut := by
  have hpart : s.fireOn.arc p = _ := congrArg Lamp.arc (State.lamp_congr s.fireOn_part p)
  have htrigger : (((s.setFire true).trigger .fire).arc p).state = (s.arc p).state :=
    (((s.setFire true).trigger_abides .fire).lamps p).state
  rw [hpart, State.lamp_arc, State.foldl_putOut State.fireOut_state, if_pos (mem_allProjectors p), htrigger]

theorem State.fireOn_keepsLamps (s : State) : KeepsLamps s s.fireOn := by
  have hout := KeepsLamps.foldl State.fireOut_keepsLamps allProjectors ((s.setFire true).trigger .fire)
  have hpart := KeepsLamps.of_part s.fireOn_part
  have hsteps := (((s.setFire true).trigger_abides .fire).keepsLamps.trans hout).trans hpart
  have hshut : ∀ i, s.fireOn.shutter i = (s.shutter i).addCause .fire := fun i => by
    rw [State.shutter, s.fireOn_shutterUnit, ← State.shutter, State.inFire_shutter]
  refine ⟨hsteps.powered, fun p hp => hsteps.lamps p hp, fun hs _ => ⟨fun i => ?_, ?_⟩⟩
  · rw [hshut]
    exact (hs i).addCause _
  · rw [State.fireSound_iff]
    refine fun _ => ⟨fun p => ?_, fun i => ?_⟩
    · rw [s.fireOn_state]
      exact ArcState.lit_putOut _
    · rw [hshut]
      exact Shutter.addCause_fire _

theorem State.loopActive_keepsLamps (s : State) : KeepsLamps s s.loopActive := by
  unfold State.loopActive
  split
  · exact .refl s
  · exact s.fireOn_keepsLamps

theorem State.fireOff_keepsLamps (s : State) : KeepsLamps s s.fireOff := by
  have hpart : s.fireOff.lampPart = ((s.setFire false).clearCause .fire).lampPart := by
    refine State.lampPart_of_outsideNotices ?_
    unfold State.fireOff
    rw [State.post_outsideNotices, State.noteFire_outsideNotices]
  have hunit : s.fireOff.shutterUnit = ((s.setFire false).clearCause .fire).shutterUnit :=
    congrArg LampPart.shutterUnit hpart
  refine ⟨congrArg LampPart.powered hpart, fun p hp => by rwa [State.lamp_congr hpart], fun hs _ =>
    ⟨fun i => ?_, State.fireSound_of_inactive (by rw [hunit]; rfl)⟩⟩
  have hshut : s.fireOff.shutter i = { s.shutter i with causes := (s.shutter i).causes.put .fire false } := by
    rw [State.shutter, hunit]
    exact ByShutter.get_map _ _ _
  rw [hshut]
  exact (hs i).clearCause .fire

theorem State.loopInactive_keepsLamps (s : State) : KeepsLamps s s.loopInactive := by
  unfold State.loopInactive
  split
  · exact s.fireOff_keepsLamps
  · exact .refl s

/-! ## Lines, switches and arming (R115 to R123) -/

theorem State.setButton_keepsLamps (s : State) (v : Bool) : KeepsLamps s (s.setButton v) :=
  have hshut : ∀ i, (s.setButton v).shutter i = s.shutter i := fun _ => rfl
  .ofShutters rfl (fun _ => rfl) rfl (fun i h => (hshut i).symm ▸ h) fun i h => (hshut i).symm ▸ h

theorem State.buttonCloses_keepsLamps (s : State) : KeepsLamps s ((s.setButton true).trigger .manual) :=
  (s.setButton_keepsLamps true).trans (State.trigger_keepsLamps _ .manual)

theorem State.heatChange_keepsLamps (s : State) (p : ProjNo) (a : Bool) : KeepsLamps s (s.heatChange p a) := by
  unfold State.heatChange
  split
  · exact s.trigger_keepsLamps _
  · exact .clearCause s nofun

theorem State.linkFallen_keepsLamps (s : State) (i : ShutterNo) : KeepsLamps s (s.linkFallen i) :=
  (s.trigger_keepsLamps (.link i)).trans (KeepsLamps.foldl (fun v p => v.linkOut_keepsLamps i p) _ _)

theorem State.cameUp_lampPart (s : State) (i : ShutterNo) : (s.cameUp i).lampPart = s.lampPart := by
  refine State.lampPart_of_outsideNotices ?_
  unfold State.cameUp
  rw [State.post_outsideNotices, State.tellDuty_outsideNotices]
  split
  · rw [State.noteRetest_outsideNotices, (s.noteArmIfStandby_keeps _).1]
  · rfl

/-- A shutter that has been raised (R122). -/
theorem Shutter.Sound.raised {r : Shutter} (h : r.Sound) (ha : r.state = .arming) (closed : Bool) :
    Shutter.Sound { r with homeClosed := closed, state := .up, armingTimer := none } := by
  have hn : r.state ≠ .dropped := by
    rw [ha]
    exact nofun
  exact ⟨fun _ => h.causes hn, by simpa using h.solenoid.mpr hn, by simp⟩

theorem Shutter.FireDown.not_arming {r : Shutter} (h : r.FireDown) : r.state ≠ .arming := by
  rw [h.1]
  exact nofun

theorem State.homeChange_keepsLamps (s : State) (i : ShutterNo) (closed : Bool) :
    KeepsLamps s (s.homeChange i closed) := by
  have hlevel : KeepsLamps s (s.setShutter i { s.shutter i with homeClosed := closed }) :=
    .setShutter s i (fun h => ⟨h.causes, h.solenoid, h.timer⟩) id
  have hshut : (s.setShutter i { s.shutter i with homeClosed := closed }).shutter i =
      { s.shutter i with homeClosed := closed } := (State.shutter_setShutter _ _ _ _).trans (if_pos rfl)
  unfold State.homeChange
  dsimp only
  split
  · exact hlevel.trans (State.linkFallen_keepsLamps _ i)
  next _ ha =>
    refine (hlevel.trans (.setShutter _ i (fun h => ?_) fun h => ?_)).same (State.cameUp_lampPart _ i)
    · rw [hshut] at h ⊢
      exact h.raised ha true
    · rw [hshut] at h
      exact absurd ha h.not_arming
  · exact hlevel

theorem releaseManual_keepsLamps (x : Unit) (s : State) : KeepsLamps s (releaseManual x s).1 := by
  unfold releaseManual
  split
  · exact .refl s
  · exact .clearCause s nofun

theorem rearm_keepsLamps (i : ShutterNo) (s : State) : KeepsLamps s (rearm i s).1 := by
  unfold rearm
  dsimp only
  split
  · exact .refl s
  · split
    · exact .refl s
    next hp =>
      refine .setShutter s i (fun _ => ?_) fun h => ?_
      · exact ⟨fun _ => rfl, by simp [Shutter.arm], by simp [Shutter.arm]⟩
      · have hset : (s.shutter i).causes = { CauseSet.empty with power := (s.shutter i).causes.power } := by
          simpa [CauseSet.onlyPower] using hp
        have hfire := h.2
        rw [hset] at hfire
        cases hfire

theorem State.armingExpiry_keepsLamps (s : State) (i : ShutterNo) : KeepsLamps s (s.armingExpiry i) := by
  unfold State.armingExpiry
  dsimp only
  split
  next ha =>
    have hset : KeepsLamps s (s.setShutter i (s.shutter i).timedOut) := by
      refine .setShutter s i (fun _ => ?_) fun h => ?_
      · exact ⟨fun hn => absurd rfl hn, by simp [Shutter.timedOut], by simp [Shutter.timedOut]⟩
      · exact absurd (by simpa using (Bool.and_eq_true_iff.mp ha).1) h.not_arming
    exact hset.same rfl
  · exact .refl s

end Sys2Proof.Machine
end

section
/-! What the house, the banks, the settings, the links and the scheduler do to the lamps and the shutters: nothing. -/

namespace Sys2Proof.Machine

variable (s : State)

@[simp] theorem State.post_lampPart (b : Block) (c : AttnCause) : (s.post b c).lampPart = s.lampPart := rfl

@[simp] theorem State.tellDuty_lampPart (d : DutyNotice) : (s.tellDuty d).lampPart = s.lampPart := rfl

/-! ## House lights -/

theorem recallChannel_lampPart (lv : Levels) (f : Nat) (n : ScreenNo) (a : State × Nat) (k : ChannelPos) :
    (recallChannel lv f n a k).1.lampPart = a.1.lampPart := by
  unfold recallChannel
  split
  · rfl
  · split <;> rfl

@[simp] theorem recallScene_lampPart (scene : Byte) (fade : Half) (n : ScreenNo) :
    (recallScene scene fade n s).1.lampPart = s.lampPart := by
  unfold recallScene
  split
  · exact foldl_keeps (fun a : State × Nat => a.1.lampPart) _ (recallChannel_lampPart _ _ _) _ (s, 0)
  · rfl

@[simp] theorem setLevel_lampPart (level : Byte) (fade : Half) (c : ChannelNo) :
    (setLevel level fade c s).1.lampPart = s.lampPart := by
  unfold setLevel
  split
  · rfl
  · split <;> rfl

@[simp] theorem setScene_lampPart (scene : Byte) (v : Option Levels) (n : ScreenNo) :
    (setScene scene v n s).1.lampPart = s.lampPart := by
  unfold setScene
  split <;> rfl

@[simp] theorem moveCurtain_lampPart (action : Byte) (n : ScreenNo) :
    (moveCurtain action n s).1.lampPart = s.lampPart := by
  unfold moveCurtain
  split <;> rfl

@[simp] theorem State.travelExpiry_lampPart (n : ScreenNo) : (s.travelExpiry n).lampPart = s.lampPart := by
  unfold State.travelExpiry
  split <;> rfl

@[simp] theorem setCurtainTime_lampPart (seconds : Byte) (n : ScreenNo) :
    (setCurtainTime seconds n s).1.lampPart = s.lampPart := by
  unfold setCurtainTime
  split <;> rfl

@[simp] theorem setStanding_lampPart (e : Option StandingEntry) (k : StandingKey) :
    (setStanding e k s).1.lampPart = s.lampPart := by
  unfold setStanding
  split
  · rfl
  · split <;> rfl

@[simp] theorem releaseHold_lampPart (k : StandingKey) : (releaseHold k s).1.lampPart = s.lampPart := by
  unfold releaseHold
  split <;> rfl

/-! ## Banks and settings -/

theorem contentWrite_lampPart (write : Bank → Except Status (Bank × List Byte)) (x : ScreenNo × Role) :
    (contentWrite write x s).1.lampPart = s.lampPart := by
  unfold contentWrite
  dsimp only
  split
  · rfl
  · split
    · rfl
    · split
      · rfl
      · split <;> rfl

@[simp] theorem commit_lampPart (n : ScreenNo) : (commit n s).1.lampPart = s.lampPart := by
  unfold commit
  dsimp only
  split
  · rfl
  · split <;> rfl

@[simp] theorem reopen_lampPart (n : ScreenNo) : (reopen n s).1.lampPart = s.lampPart := by
  unfold reopen
  dsimp only
  split <;> rfl

@[simp] theorem setDropMap_lampPart (mask : Half) (k : TriggerKey) : (setDropMap mask k s).1.lampPart = s.lampPart := by
  unfold setDropMap
  split <;> rfl

@[simp] theorem setCuePolicy_lampPart (policy window : Byte) (n : ScreenNo) :
    (setCuePolicy policy window n s).1.lampPart = s.lampPart := by
  unfold setCuePolicy
  split <;> rfl

@[simp] theorem setMonitor_lampPart (sel : Byte) (u : Unit) : (setMonitor sel u s).1.lampPart = s.lampPart := by
  unfold setMonitor
  split <;> rfl

@[simp] theorem readItem_lampPart (sel i : Byte) (x : ScreenNo × Role) :
    (readItem sel i x s).1.lampPart = s.lampPart := by
  unfold readItem
  dsimp only
  (repeat' split) <;> rfl

@[simp] theorem readScene_lampPart (i : Byte) (n : ScreenNo) : (readScene i n s).1.lampPart = s.lampPart := by
  unfold readScene
  split <;> rfl

@[simp] theorem readDuty_lampPart (i : Byte) : (readDuty i s).1.lampPart = s.lampPart := by
  unfold readDuty
  split
  · rfl
  · split <;> rfl

/-! ## Links and attention -/

@[simp] theorem State.receive_lampPart (st : Station) (data : Byte) (bit : Bool) (stopBit : LineLevel) :
    (s.receive st data bit stopBit).lampPart = s.lampPart := by
  have hframe : ∀ (v : State) (c : Collection), (v.completeFrame st c).lampPart = v.lampPart := by
    intro v c
    unfold State.completeFrame
    dsimp only
    split <;> [skip; split] <;> rfl
  have hover : ∀ v : State, (v.overLength st).lampPart = v.lampPart := by
    intro v
    unfold State.overLength
    dsimp only
    split <;> rfl
  have hset : ∀ (v : State) (r : Link), (v.setLink st r).lampPart = v.lampPart := fun _ _ => rfl
  unfold State.receive
  dsimp only
  split
  · unfold State.hunt
    split <;> rfl
  · unfold State.collect
    dsimp only
    split <;> (try split) <;> simp [hframe, hover, hset]

@[simp] theorem State.character_lampPart (st : Station) (old : LineLevel) (data : Byte) (bit : Bool) (stopBit : LineLevel) :
    (s.character st old data bit stopBit).lampPart = s.lampPart := by
  unfold State.character
  dsimp only
  split
  · rfl
  · exact State.receive_lampPart _ _ _ _ _

@[simp] theorem State.gapExpiry_lampPart (st : Station) : (s.gapExpiry st).lampPart = s.lampPart := by
  unfold State.gapExpiry
  dsimp only
  split <;> rfl

@[simp] theorem State.lineBreak_lampPart (st : Station) : (s.lineBreak st).lampPart = s.lampPart := by
  unfold State.lineBreak
  split <;> rfl

@[simp] theorem setLine_lampPart (st : Station) (mode : Byte) (u : Unit) :
    (setLine st mode u s).1.lampPart = s.lampPart := by
  unfold setLine
  split <;> rfl

@[simp] theorem readStatus_lampPart (st : Station) (u : Unit) : (readStatus st u s).1.lampPart = s.lampPart := by
  unfold readStatus
  dsimp only
  split <;> rfl

@[simp] theorem armAttention_lampPart (st : Station) (classes : Half) (u : Unit) :
    (armAttention st classes u s).1.lampPart = s.lampPart := by
  unfold armAttention
  split <;> rfl

/-! ## The scheduler -/

@[simp] theorem State.schedulerRotation_lampPart (n : ScreenNo) : (s.schedulerRotation n).lampPart = s.lampPart :=
  State.lampPart_of_outsideShows (s.schedulerRotation_outsideShows n)

@[simp] theorem State.armNext_lampPart (n : ScreenNo) : (s.armNext n).lampPart = s.lampPart :=
  State.lampPart_of_outsideShows (s.armNext_outsideShows n)

@[simp] theorem State.callReached_lampPart (n : ScreenNo) : (s.callReached n).lampPart = s.lampPart := by
  unfold State.callReached
  split
  · split
    · exact State.lampPart_of_outsideShows (State.storeReadiness_outsideShows _ n)
    · rfl
  · rfl

@[simp] theorem State.holdReached_lampPart (n : ScreenNo) : (s.holdReached n).lampPart = s.lampPart := by
  unfold State.holdReached
  split
  · split
    · split
      · exact State.armNext_lampPart _ n
      · rfl
    · rfl
  · rfl

@[simp] theorem setClock_lampPart (time : Long) (u : Unit) : (setClock time u s).1.lampPart = s.lampPart := by
  have hnotice : ∀ v : State, v.clockNotice.lampPart = v.lampPart := fun _ => by
    simp only [State.clockNotice, allScreens, List.foldl_cons, List.foldl_nil, State.tellDuty_lampPart]
  unfold setClock
  split
  · rfl
  · dsimp only
    rw [hnotice, foldl_keeps State.lampPart State.armNext State.armNext_lampPart]
    rfl

@[simp] theorem setStarts_lampPart (times : List Half) (x : ScreenNo × Role) :
    (setStarts times x s).1.lampPart = s.lampPart := by
  have harm : ∀ v : State, (v.armAfterStarts x.1 x.2).lampPart = v.lampPart := by
    intro v
    unfold State.armAfterStarts
    split
    · exact v.armNext_lampPart _
    · rfl
  unfold setStarts
  dsimp only
  split
  · rfl
  · split
    · rfl
    · split
      · rfl
      · rw [harm]
        rfl


end Sys2Proof.Machine
end

section
/-! The projectors, the trackers, the rotations, the open confirmation, the clock and the supplies: each keeps the lamps
and the shutters sound. -/

namespace Sys2Proof.Machine

variable {s t u : State} {p q : ProjNo} {n m : ScreenNo}

/-! ## Threading, clearing and the loop -/

theorem KeepsLamps.becomeEmpty (h : KeepsLamps s t) (q : ProjNo) (a : Option Nat) : KeepsLamps s (t.becomeEmpty q a) :=
  h.same rfl

theorem clearProjector_keepsLamps (p : ProjNo) (s : State) : KeepsLamps s (clearProjector p s).1 := by
  have hempty := (KeepsLamps.refl s).becomeEmpty p (s.clearedReel p)
  unfold clearProjector
  split
  · exact hempty.same rfl
  · exact (hempty.trans (.clearCause _ (k := .filmBreak p) nofun)).same rfl
  · exact .refl s

theorem State.threadedClose_keepsLamps (s : State) (p : ProjNo) : KeepsLamps s (s.threadedClose p) := by
  unfold State.threadedClose
  split
  · exact .of_part rfl
  · have hset : KeepsLamps s (s.setProjector p { s.projector p with
        runState := .threaded, haltCause := none, midReel := decide (0 < (s.tracker p).counter) }) := .of_part rfl
    exact (hset.trans (.clearCause _ (k := .filmBreak p) nofun)).same rfl
  · exact .refl s

theorem State.loopLost_keepsLamps (s : State) (p : ProjNo) : KeepsLamps s (s.loopLost p) := by
  have hempty := (LampsAbide.refl s).emptyRun p
  unfold State.loopLost
  split
  · split
    · split
      · exact hempty.keepsLamps
      · exact (hempty.onHalt p).keepsLamps
    · exact s.breakHalt_keepsLamps p
  · exact .refl s

theorem State.reassign_lampPart (s : State) (p : ProjNo) : (s.reassign p).lampPart = s.lampPart := by
  unfold State.reassign
  split
  · rfl
  · rfl

theorem stopRequest_lampPart (n : ScreenNo) (s : State) : (stopRequest n s).1.lampPart = s.lampPart := by
  unfold stopRequest
  split
  · unfold State.stopShow
    rw [State.post_lampPart, State.tellDuty_lampPart, State.reassign_lampPart, State.reassign_lampPart,
      State.armNext_lampPart]
    rfl
  · rfl

/-! ## Rotations and show ends -/

theorem State.rotateProjector_keepsLamps (s : State) (p : ProjNo) : KeepsLamps s (s.rotateProjector p) := by
  have hend : KeepsLamps s (s.endShowing p) := ((LampsAbide.refl s).endShowing p).keepsLamps
  unfold State.rotateProjector
  dsimp only
  split
  · exact ((hend.trans (.clearCause _ (k := .filmBreak p) nofun)).becomeEmpty p _).same rfl
  · exact (hend.becomeEmpty p _).same rfl

theorem State.rotation_keepsLamps (s : State) (n : ScreenNo) : KeepsLamps s (s.rotation n) := by
  have hbanks : KeepsLamps s (s.rotateBanks n) := .of_part rfl
  have hemptied := (hbanks.trans (State.rotateProjector_keepsLamps _ ⟨n, .a⟩)).trans
    (State.rotateProjector_keepsLamps _ ⟨n, .b⟩)
  refine hemptied.same ?_
  unfold State.rotation
  rw [State.post_lampPart, State.tellDuty_lampPart, State.schedulerRotation_lampPart]

theorem rotateRequest_keepsLamps (n : ScreenNo) (s : State) : KeepsLamps s (rotateRequest n s).1 := by
  unfold rotateRequest
  dsimp only
  split
  · exact .refl s
  · split
    · exact .refl s
    · split
      · exact .refl s
      · exact s.rotation_keepsLamps n

theorem State.deferredRotation_keepsLamps (s : State) (n : ScreenNo) : KeepsLamps s (s.deferredRotation n) := by
  unfold State.deferredRotation
  split
  · split
    · exact s.rotation_keepsLamps n
    · exact .of_part rfl
  · exact .refl s

theorem State.clearExpiry_keepsLamps (s : State) : KeepsLamps s s.clearExpiry := by
  unfold State.clearExpiry
  split
  next x rest _ _ =>
    rw [State.endClear_eq]
    have hclear : KeepsLamps s (s.cleared x rest) := .of_part rfl
    exact (hclear.trans (State.deferredRotation_keepsLamps _ _)).same rfl
  · exact .refl s

theorem State.bankShowEnd_keepsLamps (s : State) (n : ScreenNo) : KeepsLamps s (s.bankShowEnd n) := by
  unfold State.bankShowEnd
  split
  · exact s.rotation_keepsLamps n
  · split
    · exact .of_part rfl
    · exact .refl s

theorem KeepsLamps.ite (c : Bool) (h : KeepsLamps s t) (k : KeepsLamps s u) : KeepsLamps s (if c then t else u) := by
  cases c with
  | true => exact h
  | false => exact k

theorem State.showEndNotices_keepsLamps (s : State) (n : ScreenNo) : KeepsLamps s (s.showEndNotices n) := by
  have hsched : ∀ v : State, KeepsLamps v (v.schedulerShowEnd n) := fun v =>
    .of_part (State.lampPart_of_outsideShows (v.schedulerShowEnd_outsideShows n))
  have hhouse : ∀ v : State, KeepsLamps v (v.houseShowEnd n) := fun v => .of_part (v.fireWhere_lampPart n _)
  have hbit : KeepsLamps s s.takeBit.2.takeBit.2 := .of_part rfl
  have htell : ∀ v : State, KeepsLamps v (v.tellDuty (.screen n)) := fun _ => .of_part rfl
  unfold State.showEndNotices
  refine KeepsLamps.trans ?_ (htell _)
  split
  · exact ((((hbit.trans (.ite _ (hsched _) (.refl _))).trans (.ite _ (hhouse _) (.refl _))).trans
      (State.bankShowEnd_keepsLamps _ n)).trans (.ite _ (.refl _) (hsched _))).trans (.ite _ (.refl _) (hhouse _))
  · exact ((hsched s).trans (hhouse _)).trans (State.bankShowEnd_keepsLamps _ n)

theorem State.onPictureEnd_keepsLamps (s : State) (p : ProjNo) : KeepsLamps s (s.onPictureEnd p) := by
  have hclose := (LampsAbide.refl s).closeOrder p
  unfold State.onPictureEnd
  dsimp only
  split
  · split
    · split
      · exact (hclose.interrupt _).keepsLamps
      · exact ((LampsAbide.refl s).swapStart _ _ _ _).keepsLamps
    · exact (hclose.interrupt _).keepsLamps
    · exact (hclose.interrupt _).keepsLamps
    · exact (((hclose.modScreen _ _).clearLate _).setScreenState _ _).keepsLamps.trans
        (State.showEndNotices_keepsLamps _ _)
    · exact .refl s
  · exact .refl s

/-! ## Cues and pulses -/

theorem LampsAbide.setTracker (h : LampsAbide s t) (q : ProjNo) (r : Tracker) : LampsAbide s (t.setTracker q r) :=
  h.same rfl

theorem LampsAbide.cueNotice (h : LampsAbide s t) (p : ProjNo) (k : CueKind) (v : CueStatus) :
    LampsAbide s (t.cueNotice p k v) := by
  unfold State.cueNotice
  split
  · split
    · exact h.onMotorCue p
    · exact h.onChangeoverCue p
    · exact h
  · exact h

theorem LampsAbide.settleCue (h : LampsAbide s t) (p : ProjNo) (x : CueContext) (k : CueKind) (v : CueStatus) :
    LampsAbide s (t.settleCue p x k v) := (h.setTracker p _).cueNotice p k v

theorem LampsAbide.cueCheck (h : LampsAbide s t) (p : ProjNo) (c : Nat) (k : CueKind) :
    LampsAbide s (t.cueCheck p c k) := by
  unfold State.cueCheck
  split
  · split
    · split
      · split
        · exact (h.post _ _).settleCue _ _ _ _
        · exact h
      · split
        · exact h.settleCue _ _ _ _
        · exact h
    · exact h
  · exact h

theorem LampsAbide.fallbackCue (h : LampsAbide s t) (p : ProjNo) (r : Reel) (k : CueKind) :
    LampsAbide s (t.fallbackCue p r k) := by
  unfold State.fallbackCue
  split
  · split
    · exact h.settleCue _ _ _ _
    · exact h
  · exact h

theorem LampsAbide.cueMark (h : LampsAbide s t) (p : ProjNo) : LampsAbide s (t.cueMark p) := by
  unfold State.cueMark
  split
  · split
    · split
      · exact h.settleCue _ _ _ _
      · exact h
      · unfold State.stray
        split
        · exact h.setTracker p _
        · exact (((h.setTracker p _).fallbackCue _ _ _).fallbackCue _ _ _).post _ _
    · exact h
  · exact h

theorem LampsAbide.startFailure (h : LampsAbide s t) (p : ProjNo) : LampsAbide s (t.startFailure p) := by
  unfold State.startFailure
  split
  · dsimp only
    split
    · exact (h.setTracker p _).haltEvent p _
    · exact h.setTracker p _
  · exact h

theorem LampsAbide.stallExpiry (h : LampsAbide s t) (p : ProjNo) : LampsAbide s (t.stallExpiry p) := by
  unfold State.stallExpiry
  split
  · exact (h.setTracker p _).haltEvent p _
  · exact h

theorem LampsAbide.atSpeedNotice (h : LampsAbide s t) (p : ProjNo) : LampsAbide s (t.atSpeedNotice p) := by
  have hrun : LampsAbide s (t.setProjector p { t.projector p with runState := .running }) := h.same rfl
  unfold State.atSpeedNotice
  split
  · exact (hrun.onSpeed p).noteArm _
  · exact h.onSpeed p

theorem LampsAbide.leadInCheck (h : LampsAbide s t) (p : ProjNo) (c : Nat) : LampsAbide s (t.leadInCheck p c) := by
  unfold State.leadInCheck
  split
  · exact h.onLeadIn p
  · exact h

theorem LampsAbide.anchorCheck (h : LampsAbide s t) (p : ProjNo) (c : Nat) : LampsAbide s (t.anchorCheck p c) := by
  unfold State.anchorCheck
  split
  · exact h.fireWhere _ _
  · exact h

theorem State.endCheck_keepsLamps (s : State) (p : ProjNo) (c : Nat) : KeepsLamps s (s.endCheck p c) := by
  unfold State.endCheck
  split
  · split
    · exact s.onPictureEnd_keepsLamps p
    · exact .refl s
  · exact .refl s

theorem LampsAbide.limitCheck (h : LampsAbide s t) (p : ProjNo) (c : Nat) : LampsAbide s (t.limitCheck p c) := by
  unfold State.limitCheck
  split
  · split
    · exact h.emptyRun p
    · exact h
  · exact h

theorem State.frameChecks_keepsLamps (s : State) (p : ProjNo) (c : Nat) : KeepsLamps s (s.frameChecks p c) :=
  (KeepsLamps.trans ((((LampsAbide.refl s).leadInCheck p c).cueCheck p c _).cueCheck p c _ |>.anchorCheck p c).keepsLamps
    (State.endCheck_keepsLamps _ p c)).trans ((LampsAbide.refl _).limitCheck p c).keepsLamps

theorem State.sprocket_keepsLamps (s : State) (p : ProjNo) (interval : Nat) : KeepsLamps s (s.sprocket p interval) := by
  have hcounted : LampsAbide s (s.counted p interval) := (LampsAbide.refl s).same rfl
  cases hm : (s.projector p).runState.motor with
  | false =>
    rw [State.sprocket_still hm]
    exact .refl s
  | true =>
    rw [State.sprocket_motor hm]
    refine KeepsLamps.trans ?_ (State.frameChecks_keepsLamps _ p _)
    exact .ite _ (hcounted.atSpeedNotice p).keepsLamps hcounted.keepsLamps

/-! ## The open confirmation (R29) -/

theorem LampsAbide.entered (h : LampsAbide s t) (p : ProjNo) : LampsAbide s (t.entered p) := by
  have hover : LampsAbide s (t.handOver p) := by
    unfold State.handOver
    split
    · exact h.enterRunout _
    · exact h
  have hset : LampsAbide s ((t.handOver p).setProjector p { (t.handOver p).projector p with runState := .showing }) :=
    hover.same rfl
  exact hset.arcShowing p

theorem LampsAbide.entryCues (h : LampsAbide s t) (p : ProjNo) : LampsAbide s (t.entryCues p) := by
  unfold State.entryCues
  split
  · exact h
  · dsimp only
    split
    · exact (h.fireWhere _ _).fireWhere _ _
    · exact h.fireWhere _ _

theorem State.entryEnd_keepsLamps (s : State) (p : ProjNo) : KeepsLamps s (s.entryEnd p) := by
  unfold State.entryEnd
  split
  · exact s.onPictureEnd_keepsLamps p
  · exact .refl s

theorem State.openDone_keepsLamps (s : State) (n : ScreenNo) (p : ProjNo) : KeepsLamps s (s.openDone n p) := by
  have hshow := (LampsAbide.refl s).beginShowing n p
  have hend : ∀ v, KeepsLamps s v → KeepsLamps s (if v.atPictureEnd p then v.onPictureEnd p else v) := fun v hv =>
    .ite _ (hv.trans (v.onPictureEnd_keepsLamps p)) hv
  unfold State.openDone
  dsimp only
  refine hend _ ?_
  split
  · exact hshow.keepsLamps
  · exact (hshow.takeOldCues p).keepsLamps

theorem State.onShowing_keepsLamps (s : State) (p : ProjNo) : KeepsLamps s (s.onShowing p) := by
  unfold State.onShowing
  dsimp only
  split
  · split
    · split
      · exact s.openDone_keepsLamps _ p
      · exact .refl s
    · split
      · exact ((LampsAbide.refl s).swapDone _ p).keepsLamps
      · exact .refl s
    · exact .refl s
  · exact .refl s

theorem State.douserOpens_keepsLamps (s : State) (p : ProjNo) : KeepsLamps s (s.douserOpens p) := by
  unfold State.douserOpens
  split
  · split
    · rw [State.confirmOpen_eq]
      exact ((((LampsAbide.refl s).entered p).entryCues p).keepsLamps.trans (State.onShowing_keepsLamps _ p)).trans
        (State.entryEnd_keepsLamps _ p)
    · exact ((LampsAbide.refl s).haltEvent p _).keepsLamps
  · exact .refl s

/-- A confirmed closing ends its watch, and nothing of the lamps. -/
theorem State.douserCloses_lampPart (s : State) (p : ProjNo) : (s.douserCloses p).lampPart = s.lampPart := by
  unfold State.douserCloses
  split
  · rfl
  · rfl

theorem State.watchExpiry_lampPart (s : State) (n : ScreenNo) : (s.watchExpiry n).lampPart = s.lampPart := by
  unfold State.watchExpiry
  split
  · rfl
  · rfl

/-! ## The clock, the supplies and the tick -/

theorem State.markOverdue_lampPart (s : State) : s.markOverdue.lampPart = s.lampPart := by
  unfold State.markOverdue
  dsimp only
  rw [foldl_keeps State.lampPart (fun (t : State) (e : DutyEntry) => t.post .dutyUnit (.overdue e.key)) fun _ _ => rfl]
  rfl

theorem State.oneSecond_keepsLamps (s : State) : KeepsLamps s s.oneSecond := by
  have hcheck : ∀ (v : State) (n : ScreenNo), KeepsLamps v (v.checkInstants n) := fun v n =>
    ((KeepsLamps.of_part (v.callReached_lampPart n)).trans ((LampsAbide.refl _).startReached n).keepsLamps).same
      (State.holdReached_lampPart _ n)
  have hclock : KeepsLamps s (State.markOverdue { s with clock := s.clock.second }) :=
    .of_part (State.markOverdue_lampPart _)
  exact hclock.trans (KeepsLamps.foldl hcheck _ _)

theorem State.mainsPulse_keepsLamps (s : State) : KeepsLamps s s.mainsPulse := by
  unfold State.mainsPulse
  split
  · exact s.oneSecond_keepsLamps
  · exact .of_part rfl

/-- A millisecond counts timers down. -/
theorem State.tick_keepsLamps (s : State) : KeepsLamps s s.tick := by
  unfold State.tick
  split
  · have harc : ∀ p, (s.arcs.map Arc.tick).get p = (s.arc p).tick := fun p => ByProj.get_map _ _ _
    have hshut : ∀ i, (s.shutterUnit.shutters.map Shutter.tick).get i = (s.shutter i).tick := fun i =>
      ByShutter.get_map _ _ _
    have hsound : ∀ r : Shutter, r.Sound → r.tick.Sound := fun r h => ⟨h.causes, h.solenoid, by
      simpa [Shutter.tick, countDown] using h.timer⟩
    refine ⟨rfl, fun p h => ?_, fun hs hf => ⟨fun i => ?_, ?_⟩⟩
    · simp only [State.lamp, State.arc, harc]
      exact h.setArc rfl
    · simp only [State.shutter, hshut]
      exact hsound _ (hs i)
    · rw [State.fireSound_iff] at hf ⊢
      simp only [State.arc, State.shutter, harc, hshut]
      exact hf
  · exact .refl s

theorem State.CarbonSound.congr (hs : s.CarbonSound) (h : t.lampPart = s.lampPart) : t.CarbonSound :=
  (KeepsLamps.of_part h).carbon hs

theorem State.standbyLost_lampPart (s : State) : s.standbyLost.lampPart = s.lampPart := by
  unfold State.standbyLost
  split
  · rfl
  · rfl

theorem State.CarbonSound.powerLost (h : s.CarbonSound) : s.powerLost.CarbonSound :=
  ⟨h.account, h.ranges, h.history, nofun⟩

/-- The store that a power-on reset finds is sound, or the default store. -/
theorem State.powerOn_arcStore (s : State) (p : ProjNo) :
    s.powerOn.arcStore p = if s.retained.markerValid then s.arcStore p else .default := by
  rw [State.arcStore, s.powerOn_retained]
  cases hm : s.retained.markerValid with
  | true =>
    rw [State.setupStore_valid hm]
    rfl
  | false =>
    rw [State.setupStore_invalid hm]
    exact ByProj.get_const _ p

theorem State.CarbonSound.powerOn (h : s.CarbonSound) : s.powerOn.CarbonSound := by
  rw [State.carbonSound_iff] at h ⊢
  intro p
  have hstore := s.powerOn_arcStore p
  have hlow : (s.powerOn.arc p).low = true ↔ (s.powerOn.arcStore p).remaining ≤ (s.powerOn.arcStore p).reserve := by
    rw [s.powerOn_arc]
    exact decide_eq_true_iff
  cases hm : s.retained.markerValid with
  | true =>
    rw [hm, if_pos rfl] at hstore
    refine ⟨?_, ?_, ?_, fun _ => hlow⟩ <;> rw [State.lamp_store, hstore]
    · exact (h p).account
    · exact (h p).ranges
    · exact (h p).rates
  | false =>
    rw [hm, if_neg Bool.false_ne_true] at hstore
    refine ⟨?_, ?_, ?_, fun _ => hlow⟩ <;> rw [State.lamp_store, hstore]
    · rfl
    · decide
    · exact ⟨Nat.zero_le _, nofun⟩

/-- Every shutter comes up DROPPED, with FIRE while the loop is active, and every arc out (R104, R124). -/
theorem State.powerOn_down (s : State) : s.powerOn.ShuttersSound ∧ s.powerOn.FireSound := by
  have hshut := s.powerOn_shutter
  have hfire : s.powerOn.shutterUnit.fireActive = s.pins.fireLoop := by rw [s.powerOn_eq]; rfl
  refine ⟨State.shuttersSound_iff.mpr fun i => ?_, State.fireSound_iff.mpr fun hf => ⟨fun p => ?_, fun i => ?_⟩⟩
  · rw [hshut]
    exact ⟨fun hn => absurd rfl hn, by simp [Shutter.powerOn], by simp [Shutter.powerOn]⟩
  · rw [s.powerOn_arc]
    unfold Arc.ofStore
    dsimp only
    split
    · rfl
    · rfl
  · rw [hshut]
    exact ⟨rfl, hfire.symm.trans hf⟩

theorem State.powerLost_down (s : State) : s.powerLost.ShuttersSound ∧ s.powerLost.FireSound := by
  have hshut : ∀ i, s.powerLost.shutter i = .powerOn false := fun i => ByShutter.get_const _ i
  refine ⟨State.shuttersSound_iff.mpr fun i => ?_, State.fireSound_of_inactive rfl⟩
  rw [hshut]
  exact ⟨fun hn => absurd rfl hn, by simp [Shutter.powerOn], by simp [Shutter.powerOn]⟩

end Sys2Proof.Machine
end

section
/-! Every step keeps the lamps sound (R84, R96, R97, R99, R100, R102), and the shutters with fire (R92, R105, R106,
R113). -/

namespace Sys2Proof.Machine

variable {s t : State}

/-! ## The shapes of a command -/

/-- The end of a step leaves the lamps and the shutters. -/
theorem State.settle_lampPart (s : State) : s.settle.lampPart = s.lampPart := by
  have hp : s.settle.powered = s.powered := State.powered_congr s.settle_fixed
  rw [State.lampPart, hp, State.settle_arcs, State.settle_retained, State.settle_shutterUnit, ← State.lampPart]

theorem event_keepsLamps {body : State → State} (h : event body s = .next t) (hb : ∀ v, KeepsLamps v (body v)) :
    KeepsLamps s t := by
  have hbegin : KeepsLamps s s.begin := .of_part rfl
  unfold event at h
  cases h
  split
  · exact (hbegin.trans (hb _)).same (State.settle_lampPart _)
  · exact .refl s

theorem pinEvent_keepsLamps {level : Pins → Pins} {body : State → State} (h : pinEvent level body s = .next t)
    (hb : ∀ v, KeepsLamps v (body v)) : KeepsLamps s t := by
  have hbegin : KeepsLamps s (s.begin.setPins (level s.pins)) := .of_part rfl
  unfold pinEvent at h
  cases h
  split
  · exact (hbegin.trans (hb _)).same (State.settle_lampPart _)
  · exact .of_part rfl

theorem serve_keepsLamps {c : Instr} {body : State → State × Answer} (h : serve c body s = .next t)
    (hb : ∀ v, KeepsLamps v (body v).1) : KeepsLamps s t := by
  unfold serve at h
  split at h
  next x _ =>
    refine event_keepsLamps h fun v => ?_
    have ht : KeepsLamps v (v.take x.1 x.2 body) := (hb v).same rfl
    unfold State.serveRequest
    dsimp only
    split
    · exact ht
    · split
      · exact .refl v
      · split
        · exact .of_part rfl
        · unfold State.arrive
          split
          · exact .of_part rfl
          · split
            · exact .of_part rfl
            · exact ht
  · cases h
    exact .refl s

/-- A request with a target byte. -/
theorem request_keepsLamps {α : Type} {c : Instr} {name : Option α} {body : α → State → State × Answer}
    (h : serve c (withTarget name body) s = .next t) (hb : ∀ x v, KeepsLamps v (body x v).1) : KeepsLamps s t := by
  refine serve_keepsLamps h fun v => ?_
  unfold withTarget
  split
  · exact .refl v
  · exact hb _ v

/-! ## Every step -/

/-- Every command keeps the lamps and the shutters sound, but for the two of the main supply, which set them up anew. -/
theorem exec_keepsLamps {c : Instr} (h : exec c s = .next t) (hon : c ≠ .powerOnReset) (hoff : c ≠ .mainPowerLoss) :
    KeepsLamps s t := by
  cases c with
  | readBanks => exact request_keepsLamps (show execReadBanks _ _ s = _ from h) (fun _ _ => .of_part rfl)
  | readProjector => exact request_keepsLamps (show execReadProjector _ _ s = _ from h) (fun _ _ => .of_part rfl)
  | readTracker => exact request_keepsLamps (show execReadTracker _ _ s = _ from h) (fun _ _ => .of_part rfl)
  | readScreen => exact request_keepsLamps (show execReadScreen _ _ s = _ from h) (fun _ _ => .of_part rfl)
  | readArc => exact request_keepsLamps (show execReadArc _ _ s = _ from h) (fun _ _ => .of_part rfl)
  | readShutter => exact request_keepsLamps (show execReadShutter _ _ s = _ from h) (fun _ _ => .of_part rfl)
  | readDropMap => exact request_keepsLamps (show execReadDropMap _ _ s = _ from h) (fun _ _ => .of_part rfl)
  | readHouse => exact request_keepsLamps (show execReadHouse _ _ s = _ from h) (fun _ _ => .of_part rfl)
  | readStanding => exact request_keepsLamps (show execReadStanding _ _ s = _ from h) (fun _ _ => .of_part rfl)
  | readShow => exact request_keepsLamps (show execReadShow _ _ s = _ from h) (fun _ _ => .of_part rfl)
  | readAttention => exact request_keepsLamps (show execReadAttention _ _ s = _ from h) (fun _ _ => .of_part rfl)
  | deleteStanding => exact request_keepsLamps (show execDeleteStanding _ _ s = _ from h) (fun _ _ => .of_part rfl)
  | silence => exact request_keepsLamps (show execSilence _ _ s = _ from h) (fun _ _ => .of_part rfl)
  | writeHeader =>
      exact request_keepsLamps (show execWriteHeader _ _ _ _ _ s = _ from h)
        (fun x v => .of_part (contentWrite_lampPart v _ x))
  | writeReel =>
      exact request_keepsLamps (show execWriteReel _ _ _ _ _ _ _ _ _ s = _ from h)
        (fun x v => .of_part (contentWrite_lampPart v _ x))
  | writeCue =>
      exact request_keepsLamps (show execWriteCue _ _ _ _ _ _ _ _ s = _ from h)
        (fun x v => .of_part (contentWrite_lampPart v _ x))
  | deleteCue =>
      exact request_keepsLamps (show execDeleteCue _ _ _ s = _ from h)
        (fun x v => .of_part (contentWrite_lampPart v _ x))
  | readBankItem =>
      exact request_keepsLamps (show execReadBankItem _ _ _ _ s = _ from h)
        (fun x v => .of_part (readItem_lampPart v _ _ x))
  | readScene =>
      exact request_keepsLamps (show execReadScene _ _ _ s = _ from h) (fun n v => .of_part (readScene_lampPart v _ n))
  | readDuty => exact serve_keepsLamps (show execReadDuty _ _ s = _ from h) (fun v => .of_part (readDuty_lampPart v _))
  | readStatus =>
      exact request_keepsLamps (show execReadStatus _ _ s = _ from h) (fun x v => .of_part (readStatus_lampPart v _ x))
  | commitBank =>
      exact request_keepsLamps (show execCommitBank _ _ s = _ from h) (fun n v => .of_part (commit_lampPart v n))
  | reopenBank =>
      exact request_keepsLamps (show execReopenBank _ _ s = _ from h) (fun n v => .of_part (reopen_lampPart v n))
  | rotate => exact request_keepsLamps (show execRotate _ _ s = _ from h) rotateRequest_keepsLamps
  | clearComplete => exact event_keepsLamps (show execClearComplete s = _ from h) State.clearExpiry_keepsLamps
  | clearProjector => exact request_keepsLamps (show execClearProjector _ _ s = _ from h) clearProjector_keepsLamps
  | stopProjector =>
      exact request_keepsLamps (show execStopProjector _ _ s = _ from h)
        (fun p v => ((LampsAbide.refl v).haltEvent p .stop).keepsLamps)
  | threadedSwitchClose p =>
      exact event_keepsLamps (show execThreadedSwitchClose _ s = _ from h) (fun v => v.threadedClose_keepsLamps p)
  | loopLost p => exact event_keepsLamps (show execLoopLost _ s = _ from h) (fun v => v.loopLost_keepsLamps p)
  | douserOpenSwitchClose p =>
      exact event_keepsLamps (show execDouserOpenSwitchClose _ s = _ from h)
        (fun v => v.douserOpens_keepsLamps p)
  | douserClosedSwitchClose p =>
      exact event_keepsLamps (show execDouserClosedSwitchClose _ s = _ from h)
        (fun v => .of_part (v.douserCloses_lampPart p))
  | sprocketPulse p i =>
      exact event_keepsLamps (show execSprocketPulse _ _ s = _ from h) (fun v => v.sprocket_keepsLamps p i)
  | cueMarkPulse p =>
      exact event_keepsLamps (show execCueMarkPulse _ s = _ from h)
        (fun v => ((LampsAbide.refl v).cueMark p).keepsLamps)
  | startFailureTimerExpiry p =>
      exact event_keepsLamps (show execStartFailureTimerExpiry _ s = _ from h)
        (fun v => ((LampsAbide.refl v).startFailure p).keepsLamps)
  | stallTimerExpiry p =>
      exact event_keepsLamps (show execStallTimerExpiry _ s = _ from h)
        (fun v => ((LampsAbide.refl v).stallExpiry p).keepsLamps)
  | setCuePolicy =>
      exact request_keepsLamps (show execSetCuePolicy _ _ _ _ s = _ from h)
        (fun n v => .of_part (setCuePolicy_lampPart v _ _ n))
  | confirmationTimerExpiry n =>
      exact event_keepsLamps (show execConfirmationTimerExpiry _ s = _ from h)
        (fun v => ((LampsAbide.refl v).confirmExpiry n).keepsLamps)
  | closeWatchExpiry n =>
      exact event_keepsLamps (show execCloseWatchExpiry _ s = _ from h) (fun v => .of_part (v.watchExpiry_lampPart n))
  | changeNow =>
      exact request_keepsLamps (show execChangeNow _ _ s = _ from h)
        (fun n v => ((LampsAbide.refl v).changeNow n).keepsLamps)
  | setMonitor =>
      exact request_keepsLamps (show execSetMonitor _ _ _ s = _ from h)
        (fun x v => .of_part (setMonitor_lampPart v _ x))
  | bellCadence => exact event_keepsLamps (show execBellCadence s = _ from h) (fun _ => .of_part rfl)
  | strike => exact request_keepsLamps (show execStrike _ _ s = _ from h) strike_keepsLamps
  | touchTimerExpiry p =>
      exact event_keepsLamps (show execTouchTimerExpiry _ s = _ from h) (fun v => v.touchExpiry_keepsLamps p)
  | proofTimerExpiry p =>
      exact event_keepsLamps (show execProofTimerExpiry _ s = _ from h) (fun v => v.proofExpiry_keepsLamps p)
  | pauseTimerExpiry p =>
      exact event_keepsLamps (show execPauseTimerExpiry _ s = _ from h) (fun v => v.pauseExpiry_keepsLamps p)
  | arcPresentReport p =>
      exact pinEvent_keepsLamps (show execArcPresentReport _ s = _ from h) (fun v => v.arcReported_keepsLamps p)
  | arcReportCeases p =>
      exact pinEvent_keepsLamps (show execArcReportCeases _ s = _ from h) (fun v => v.arcCeased_keepsLamps p)
  | lossTimerExpiry p =>
      exact event_keepsLamps (show execLossTimerExpiry _ s = _ from h) (fun v => v.lossExpiry_keepsLamps p)
  | extinguish =>
      exact request_keepsLamps (show execExtinguish _ _ s = _ from h) extinguish_keepsLamps
  | craterContactChange p =>
      exact pinEvent_keepsLamps (show execCraterContactChange _ _ _ s = _ from h)
        (fun v => v.craterChange_keepsLamps p)
  | feedHighPhaseEnd p =>
      exact event_keepsLamps (show execFeedHighPhaseEnd _ s = _ from h) (fun v => v.highEnd_keepsLamps p)
  | feedLowPhaseEnd p =>
      exact event_keepsLamps (show execFeedLowPhaseEnd _ s = _ from h) (fun v => v.lowEnd_keepsLamps p)
  | retrimDone =>
      exact request_keepsLamps (show execRetrimDone _ _ _ s = _ from h) (retrimDone_keepsLamps _)
  | setArc =>
      exact request_keepsLamps (show execSetArc _ _ _ _ _ _ s = _ from h)
        (setArcSettings_keepsLamps _ _ _ _)
  | setDropMap =>
      exact request_keepsLamps (show execSetDropMap _ _ _ s = _ from h)
        (fun k v => .of_part (setDropMap_lampPart v _ k))
  | fireLoopActive => exact pinEvent_keepsLamps (show execFireLoopActive s = _ from h) State.loopActive_keepsLamps
  | fireLoopInactive => exact pinEvent_keepsLamps (show execFireLoopInactive s = _ from h) State.loopInactive_keepsLamps
  | dropButtonClose => exact pinEvent_keepsLamps (show execDropButtonClose s = _ from h) State.buttonCloses_keepsLamps
  | dropButtonOpen =>
      exact pinEvent_keepsLamps (show execDropButtonOpen s = _ from h)
        (fun v => v.setButton_keepsLamps false)
  | dropAll => exact request_keepsLamps (show execDropAll _ _ s = _ from h) (fun _ v => v.trigger_keepsLamps .manual)
  | releaseManual => exact request_keepsLamps (show execReleaseManual _ _ s = _ from h) releaseManual_keepsLamps
  | gateHeatChange p active =>
    refine pinEvent_keepsLamps (show execGateHeatChange _ _ s = _ from h) (fun v => ?_)
    split
    · exact .refl v
    · exact v.heatChange_keepsLamps p active
  | homeSwitchChange i closed =>
    refine pinEvent_keepsLamps (show execHomeSwitchChange _ _ s = _ from h) (fun v => ?_)
    split
    · exact .refl v
    · exact v.homeChange_keepsLamps i closed
  | clearLink =>
      exact request_keepsLamps (show execClearLink _ _ s = _ from h) (fun i v => .clearCause v (k := .link i) nofun)
  | rearm => exact request_keepsLamps (show execRearm _ _ s = _ from h) rearm_keepsLamps
  | armingTimerExpiry i =>
      exact event_keepsLamps (show execArmingTimerExpiry _ s = _ from h) (fun v => v.armingExpiry_keepsLamps i)
  | setLevel =>
      exact request_keepsLamps (show execSetLevel _ _ _ _ s = _ from h)
        (fun c v => .of_part (setLevel_lampPart v _ _ c))
  | fadeAdvance c => exact event_keepsLamps (show execFadeAdvance _ s = _ from h) (fun _ => .of_part rfl)
  | setScene =>
      exact request_keepsLamps (show execSetScene _ _ _ _ _ _ _ s = _ from h)
        (fun n v => .of_part (setScene_lampPart v _ _ n))
  | recallScene =>
      exact request_keepsLamps (show execRecallScene _ _ _ _ s = _ from h)
        (fun n v => .of_part (recallScene_lampPart v _ _ n))
  | curtain =>
      exact request_keepsLamps (show execCurtain _ _ _ s = _ from h) (fun n v => .of_part (moveCurtain_lampPart v _ n))
  | limitSwitchChange n limit closed =>
    refine pinEvent_keepsLamps (show execLimitSwitchChange _ _ _ s = _ from h) (fun v => ?_)
    split
    · exact .refl v
    · exact .of_part rfl
  | travelTimerExpiry n =>
      exact event_keepsLamps (show execTravelTimerExpiry _ s = _ from h) (fun v => .of_part (v.travelExpiry_lampPart n))
  | setCurtainTime =>
      exact request_keepsLamps (show execSetCurtainTime _ _ _ s = _ from h)
        (fun n v => .of_part (setCurtainTime_lampPart v _ n))
  | setStanding =>
      exact request_keepsLamps (show execSetStanding _ _ _ _ _ _ _ _ s = _ from h)
        (fun k v => .of_part (setStanding_lampPart v _ k))
  | releaseHold =>
      exact request_keepsLamps (show execReleaseHold _ _ s = _ from h) (fun k v => .of_part (releaseHold_lampPart v k))
  | mainsPulse => exact event_keepsLamps (show execMainsPulse s = _ from h) State.mainsPulse_keepsLamps
  | oneSecondEvent => exact event_keepsLamps (show execOneSecondEvent s = _ from h) State.oneSecond_keepsLamps
  | setClock =>
      exact request_keepsLamps (show execSetClock _ _ _ s = _ from h) (fun x v => .of_part (setClock_lampPart v _ x))
  | setStarts =>
      exact request_keepsLamps (show execSetStarts _ _ _ s = _ from h) (fun x v => .of_part (setStarts_lampPart v _ x))
  | callInstant n =>
      exact event_keepsLamps (show execCallInstant _ s = _ from h) (fun v => .of_part (v.callReached_lampPart n))
  | startInstant n =>
      exact event_keepsLamps (show execStartInstant _ s = _ from h)
        (fun v => ((LampsAbide.refl v).startReached n).keepsLamps)
  | holdLimit n =>
      exact event_keepsLamps (show execHoldLimit _ s = _ from h) (fun v => .of_part (v.holdReached_lampPart n))
  | startShow =>
      exact request_keepsLamps (show execStartShow _ _ s = _ from h)
        (fun n v => ((LampsAbide.refl v).startRequest n).keepsLamps)
  | stopShow =>
      exact request_keepsLamps (show execStopShow _ _ s = _ from h)
        (fun n v => .of_part (stopRequest_lampPart n v))
  | receiveCharacter =>
      exact pinEvent_keepsLamps (show execReceiveCharacter _ _ _ _ s = _ from h)
        (fun v => .of_part (v.character_lampPart _ _ _ _ _))
  | gapTimerExpiry st =>
      exact event_keepsLamps (show execGapTimerExpiry _ s = _ from h) (fun v => .of_part (v.gapExpiry_lampPart st))
  | replyComplete => exact event_keepsLamps (show execReplyComplete _ s = _ from h) (fun _ => .of_part rfl)
  | lineBreakReset st =>
      exact event_keepsLamps (show execLineBreakReset _ s = _ from h) (fun v => .of_part (v.lineBreak_lampPart st))
  | setLine =>
      exact request_keepsLamps (show execSetLine _ _ _ s = _ from h) (fun x v => .of_part (setLine_lampPart v _ _ x))
  | armAttention =>
      exact request_keepsLamps (show execArmAttention _ _ _ s = _ from h)
        (fun x v => .of_part (armAttention_lampPart v _ _ x))
  | rxdLevelChange => exact pinEvent_keepsLamps (show execRxdLevelChange _ _ s = _ from h) (fun _ => .of_part rfl)
  | powerOnReset => exact absurd rfl hon
  | mainPowerLoss => exact absurd rfl hoff
  | standbySupplyLoss => cases h; exact .of_part s.standbyLost_lampPart

/-- A step keeps the lamps and the shutters sound, unless it sets them up anew. -/
theorem step_keepsLamps (h : step s = .next t) :
    ∃ v : State, v.lampPart = s.lampPart ∧ (KeepsLamps v t ∨ t = v.powerOn ∨ t = v.powerLost) := by
  unfold step at h
  split at h
  · cases h
    exact ⟨s, rfl, .inl s.tick_keepsLamps⟩
  next c rest _ =>
    refine ⟨{ s with pending := rest }, rfl, ?_⟩
    by_cases hon : c = .powerOnReset
    · subst hon
      cases h
      exact .inr (.inl rfl)
    · by_cases hoff : c = .mainPowerLoss
      · subst hoff
        cases h
        exact .inr (.inr rfl)
      · exact .inl (exec_keepsLamps h hon hoff)

/-- Settles O39: a step keeps every lamp sound, and the two of the main supply leave sound accounts. -/
theorem stepsKeepCarbonSound : Obligations.StepsKeepCarbonSound := by
  intro s t hs h
  obtain ⟨v, hv, hkeeps | rfl | rfl⟩ := step_keepsLamps h
  · exact hkeeps.carbon (hs.congr hv)
  · exact (hs.congr hv).powerOn
  · exact (hs.congr hv).powerLost

/-- Settles O44: a step keeps the shutters sound with fire, and the two of the main supply leave every shutter DROPPED
and no arc lit. -/
theorem stepsKeepShuttersSound : Obligations.StepsKeepShuttersSound := by
  intro s t hs hf h
  obtain ⟨v, hv, hkeeps | rfl | rfl⟩ := step_keepsLamps h
  · obtain ⟨hs', hf'⟩ := (KeepsLamps.of_part hv).down hs hf
    exact hkeeps.down hs' hf'
  · exact v.powerOn_down
  · exact v.powerLost_down

end Sys2Proof.Machine
end

section
/-! A trigger drops the shutters of its entry (R110), whatever raises it (R113, R115, R118, R119). The cause FIRE
reaches every record in the step that takes the loop active: it is the only cause of its class that the step posts
(R112, R185). -/

namespace Sys2Proof.Machine

variable {s t : State} {p : ProjNo} {i : ShutterNo}

/-! ## The causes of class FIRE -/

theorem State.insertDuty_alarms (s : State) (e : DutyEntry) : (s.insertDuty e).alarms = s.alarms := by
  unfold State.insertDuty
  dsimp only
  split
  · rfl
  · exact State.post_alarms _ _ (by simp [AttnCause.cls])

theorem State.derive_alarms (s : State) (ps : List ProjNo) : (s.derive ps).alarms = s.alarms := by
  unfold State.derive
  exact foldl_keeps State.alarms _ (fun t _ => t.insertDuty_alarms _) _ _

theorem State.restoreRearm_alarms (s : State) (i : ShutterNo) : (s.restoreRearm i).alarms = s.alarms := by
  unfold State.restoreRearm
  split
  · exact s.insertDuty_alarms _
  · rfl

theorem State.takeDuty_alarms (s : State) (d : DutyNotice) : (s.takeDuty d).alarms = s.alarms := by
  cases d with
  | projector q => exact s.derive_alarms _
  | screen m =>
    unfold State.takeDuty State.deriveScreen
    exact (foldl_keeps State.alarms State.restoreRearm State.restoreRearm_alarms _ _).trans (s.derive_alarms _)
  | retrim q =>
    refine (State.derive_alarms _ _).trans ?_
    split
    · rfl
    · rfl
  | low q | carbonShort q | dropped i => exact State.insertDuty_alarms _ _
  | lowCleared q | up i => rfl

/-- The duty unit posts no cause of class FIRE (R162). -/
theorem State.settleDuty_alarms (s : State) : s.settleDuty.alarms = s.alarms := by
  have hshuffle : ∀ (t : State) (q : ProjNo), (t.shuffleRetrim q).alarms = t.alarms := by
    intro t q
    unfold State.shuffleRetrim
    dsimp only
    split
    · split
      · rfl
      · rfl
    · rfl
  unfold State.settleDuty
  dsimp only
  rw [foldl_keeps State.alarms State.takeDuty State.takeDuty_alarms, foldl_keeps State.alarms State.shuffleRetrim hshuffle]

/-- One cause of class FIRE that a step has posted is the last in every record when the step ends (R184, R185). -/
theorem State.settle_alarm {b : Block} {c : AttnCause} (h : t.alarms = [(b, c)]) (st : Station) :
    ∃ e, (t.settle.attn st).pending.get .fire = some e ∧ e.last = c := by
  have halarms : t.settleArming.settleTests.settleDuty.alarms = [(b, c)] := by
    rw [State.settleDuty_alarms, (LampsAbide.refl t).settleArming.settleTests.alarms, h]
  rw [State.settle, State.attn_begin]
  generalize t.settleArming.settleTests.settleDuty = w at halarms
  have hc : c.cls = .fire := by
    have hmem : (b, c) ∈ w.alarms := by
      rw [halarms]
      exact List.mem_singleton.mpr rfl
    simpa using (List.mem_filter.mp hmem).2
  have hsingle : w.offerClass .fire = { w with attention := w.offered c } := by
    have he : [b].eraseDups = [b] := by simp [List.eraseDups_cons]
    have hl : w.work.posts.filter (fun x => decide (x.2.cls = .fire)) = [(b, c)] := halarms
    simp [State.offerClass, hl, mergePosts, blocksOf, he, State.offer, State.offered]
  have hoffered : ({ w with attention := w.offered c } : State).attn st = (w.attn st).offer c := ByStation.get_map _ _ _
  obtain ⟨hafter, -, -⟩ := (w.offerClass .fire).offerClasses_other (k := .fire) st
    [.filmBreak, .shutter, .arc, .change, .shows, .house, .duty, .link] (by decide)
  have hsplit : allClasses = .fire :: [.filmBreak, .shutter, .arc, .change, .shows, .house, .duty, .link] := rfl
  have hpending : (w.settlePosts.attn st).pending.get .fire = ((w.attn st).offer c).pending.get .fire := by
    rw [State.settlePosts, hsplit, List.foldl_cons, hafter, hsingle, hoffered]
  have hlast : ∀ x : Option AttnEntry, (recorded x c).last = c := fun x => by cases x <;> rfl
  refine ⟨recorded ((w.attn st).pending.get c.cls) c, ?_, hlast _⟩
  rw [hpending]
  unfold Attention.offer
  rw [hc]
  simp [AttnClass.urgent]

/-! ## Triggers -/

/-- What a trigger leaves at the end of its step. -/
theorem State.trigger_shutterUnit (s : State) (k : TriggerKey) :
    (s.trigger k).shutterUnit = { s.shutterUnit with shutters := s.triggered k } :=
  State.shutterUnit_of_calm (State.trigger_calm s k)

theorem State.trigger_bankView (s : State) (k : TriggerKey) : (s.trigger k).bankView = s.bankView :=
  (State.bankPart_iff.mp (s.trigger_bankPart k)).1

theorem passes_dropAll : Passes (.dropAll .console 0) .console ⟨0x52#8, 0, []⟩ := ⟨rfl, rfl, Nat.zero_le _⟩

/-- An arc that was lit is OFF once it has been put out. -/
theorem ArcState.putOut_of_lit {x : ArcState} (h : x.lit = true) : x.putOut = .off := if_pos h

/-! ## A fallen link (R93, R119) -/

theorem State.linkFallen_shutterUnit (s : State) (i : ShutterNo) :
    (s.linkFallen i).shutterUnit = { s.shutterUnit with shutters := s.triggered (.link i) } := by
  have hout : (s.linkFallen i).calm = (s.trigger (.link i)).calm :=
    foldl_keeps State.calm _ (fun t p => State.linkOut_calm t p i) _ _
  exact (State.shutterUnit_of_calm hout).trans (s.trigger_shutterUnit _)

theorem State.linkFallen_state (s : State) (h : p.screen = i.screen) :
    ((s.linkFallen i).arc p).state = (s.arc p).state.putOut := by
  have hmem : p ∈ projectorsOf i.screen := by
    obtain ⟨n, d⟩ := p
    obtain rfl : n = i.screen := h
    cases d <;> simp [projectorsOf]
  have htrigger : ((s.trigger (.link i)).arc p).state = (s.arc p).state := ((s.trigger_abides (.link i)).lamps p).state
  have hout := State.foldl_putOut (fun v q x => v.linkOut_state i q x) (projectorsOf i.screen) (s.trigger (.link i)) p
  rw [if_pos hmem, htrigger] at hout
  exact hout

/-- The home switch of an UP shutter opens: the link falls. -/
theorem State.homeChange_opens (h : (s.shutter i).state = .up) :
    s.homeChange i false = (s.setShutter i { s.shutter i with homeClosed := false }).linkFallen i := by
  unfold State.homeChange
  rw [h]

/-! ## The fire loop (R92, R113) -/

theorem LampsAbide.noteFire (h : LampsAbide s t) : LampsAbide s t.noteFire :=
  LampsAbide.foldl (fun _ m hv => hv.noteRunState m) _ h

/-- The step posts FIRE(ACTIVE) once. -/
theorem State.fireOn_alarms (h : s.work = .empty) : s.fireOn.alarms = [(.shutterUnit, .fireActive)] := by
  have htrigger : ((s.setFire true).trigger .fire).alarms = s.alarms := ((s.setFire true).trigger_abides .fire).alarms
  have hout : ∀ (v : State) (q : ProjNo), (v.fireOut q).alarms = v.alarms := by
    intro v q
    unfold State.fireOut
    split
    · exact State.arcNotice_alarms _ q
    · rfl
  have hrest : ((allProjectors.foldl State.fireOut ((s.setFire true).trigger .fire)).noteFire.fireStanding .fire).alarms =
      s.alarms := by
    rw [(LampsAbide.fireStanding (LampsAbide.noteFire (LampsAbide.refl _)) .fire).alarms,
      foldl_keeps State.alarms State.fireOut hout, htrigger]
  have hnone : s.alarms = [] := by rw [State.alarms, h]; rfl
  rw [hnone] at hrest
  unfold State.fireOn
  dsimp only
  generalize (allProjectors.foldl State.fireOut ((s.setFire true).trigger .fire)).noteFire.fireStanding .fire = w at hrest
  have hpost : (w.post .shutterUnit .fireActive).alarms = w.alarms ++ [(.shutterUnit, .fireActive)] := by
    simp [State.alarms, AttnCause.cls]
  exact hpost.trans (by rw [hrest, List.nil_append])

/-! ## The events -/

theorem dropButtonClose_drops (h : s.Awake) : Leads .dropButtonClose s fun t =>
    t.shutterUnit = ⟨s.triggered .manual, s.shutterUnit.fireActive, true⟩ ∧ t.bankView = s.bankView := by
  refine ⟨_, pinEvent_of_awake h (fun q => { q with dropButton := true }) fun s => (s.setButton true).trigger .manual,
    ?_, ?_⟩
  · rw [State.settle_shutterUnit, State.trigger_shutterUnit]
    rfl
  · rw [State.settle_bankView, State.trigger_bankView]
    rfl

theorem dropAll_drops (h : s.Ready .console) : Leads (.dropAll .console 0) s fun t =>
    t.Sends (.dropAll .console 0) (.ok []) ∧
    t.shutterUnit = { s.shutterUnit with shutters := s.triggered .manual } ∧ t.bankView = s.bankView := by
  refine passes_dropAll.leads (body := fun _ s => (s.trigger .manual, .ok [])) h (noTarget_zero rfl) rfl rfl ⟨?_, ?_⟩
  · exact (State.settle_shutterUnit _).trans (s.trigger_shutterUnit .manual)
  · exact (State.settle_bankView _).trans (s.trigger_bankView .manual)

theorem gateHeat_drops (h : s.Awake) (hp : s.pins.gateHeat.get p = false) : Leads (.gateHeatChange p true) s fun t =>
    t.shutterUnit = { s.shutterUnit with shutters := s.triggered (.heat p) } ∧ t.bankView = s.bankView := by
  have hbody : ∀ v : State, (if s.pins.gateHeat.get p = true then v else v.heatChange p true) = v.trigger (.heat p) := by
    intro v
    rw [hp, if_neg Bool.false_ne_true, State.heatChange, if_pos rfl]
  have hexec := pinEvent_of_awake h (fun q => { q with gateHeat := q.gateHeat.set p true })
    fun t => if s.pins.gateHeat.get p = true then t else t.heatChange p true
  rw [hbody (s.setPins _)] at hexec
  refine ⟨_, hexec, ?_, ?_⟩
  · rw [State.settle_shutterUnit, State.trigger_shutterUnit]
    rfl
  · rw [State.settle_bankView, State.trigger_bankView]
    rfl

theorem homeSwitch_drops (h : s.Awake) (hi : (s.shutter i).state = .up) (hc : (s.shutter i).homeClosed = true) :
    Leads (.homeSwitchChange i false) s fun t =>
      t.shutterUnit = { s.shutterUnit with
        shutters := (s.setShutter i { s.shutter i with homeClosed := false }).triggered (.link i) } ∧
      ∀ p, p.screen = i.screen → (s.arc p).state.lit = true → (t.arc p).state = .off := by
  have hexec := pinEvent_of_awake h (fun q => { q with home := q.home.set i false })
    fun t => if (t.shutter i).homeClosed = false then t else t.homeChange i false
  generalize hv : s.setPins { s.pins with home := s.pins.home.set i false } = v at hexec
  have hshut : v.shutter i = s.shutter i := by rw [← hv]; rfl
  have hunit : v.shutterUnit = s.shutterUnit := by rw [← hv]; rfl
  have harc : ∀ p, v.arc p = s.arc p := fun p => by rw [← hv]; rfl
  have hmap : v.retained = s.retained := by rw [← hv]; rfl
  rw [hshut, hc, if_neg (by simp), State.homeChange_opens (by rw [hshut, hi]), hshut] at hexec
  refine ⟨_, hexec, ?_, fun p hp hl => ?_⟩
  · rw [State.settle_shutterUnit, State.linkFallen_shutterUnit]
    simp only [State.triggered, State.shutter, State.setShutter, hunit, hmap]
    rfl
  · have harcs : ∀ r, ((v.setShutter i r).linkFallen i).settle.arc p = ((v.setShutter i r).linkFallen i).arc p := fun r =>
      congrArg (ByProj.get · p) (State.settle_arcs _)
    have hset : ∀ r, (v.setShutter i r).arc p = s.arc p := fun _ => harc p
    rw [harcs, State.linkFallen_state _ hp, hset]
    exact ArcState.putOut_of_lit hl

/-- The loop that becomes active, on a part without fire. -/
theorem exec_fireLoopActive (h : s.Awake) (hf : s.shutterUnit.fireActive = false) :
    exec .fireLoopActive s = .next (s.setPins { s.pins with fireLoop := true }).fireOn.settle := by
  have hexec := pinEvent_of_awake h (fun q => { q with fireLoop := true }) State.loopActive
  rwa [State.loopActive, if_neg (by rw [State.setPins_shutterUnit, hf]; exact Bool.false_ne_true)] at hexec

theorem fireLoopActive_drops (h : s.Awake) (hf : s.shutterUnit.fireActive = false) : Leads .fireLoopActive s fun t =>
    t.shutterUnit = ⟨s.triggered .fire, true, s.shutterUnit.buttonClosed⟩ ∧
    (∀ p, (s.arc p).state.lit = true → (t.arc p).state = .off) ∧
    ∀ st, ∃ e, (t.attn st).pending.get .fire = some e ∧ e.last = .fireActive := by
  refine ⟨_, exec_fireLoopActive h hf, ?_⟩
  generalize hv : s.setPins { s.pins with fireLoop := true } = v
  have hwork : v.work = .empty := by rw [← hv]; exact h.work
  refine ⟨?_, fun p hl => ?_, State.settle_alarm (State.fireOn_alarms hwork)⟩
  · rw [State.settle_shutterUnit, State.fireOn_shutterUnit, ← hv]
    rfl
  · have harc : v.fireOn.settle.arc p = v.fireOn.arc p := congrArg (ByProj.get · p) (State.settle_arcs _)
    have hset : v.arc p = s.arc p := by rw [← hv]; rfl
    rw [harc, State.fireOn_state, hset]
    exact ArcState.putOut_of_lit hl

/-- A loop that is active already (DESIGN CHOICE, log entry 16). -/
theorem exec_fireLoopActive_again (h : s.Awake) (hf : s.shutterUnit.fireActive = true) :
    exec .fireLoopActive s = .next (s.setPins { s.pins with fireLoop := true }) := by
  have hquiet : (s.setPins { s.pins with fireLoop := true }).loopActive = s.setPins { s.pins with fireLoop := true } :=
    if_pos hf
  have hexec := pinEvent_of_quiet h (fun q => { q with fireLoop := true }) State.loopActive
    (by rw [hquiet]; exact h.work)
  rwa [hquiet] at hexec

/-- Settles O40: each event raises the trigger that it names. -/
theorem triggersDropTheirShutters : Obligations.TriggersDropTheirShutters :=
  ⟨fun _ _ => ⟨fun hd => if_pos hd, fun hd => if_neg hd⟩, fun _ h =>
    ⟨dropButtonClose_drops h, dropAll_drops, fun _ => gateHeat_drops h, fun _ => homeSwitch_drops h,
      fireLoopActive_drops h, exec_fireLoopActive_again h⟩⟩

end Sys2Proof.Machine
end

section
/-! The statements about one lamp (R87 to R100): what a strike, a loss, a feed step, a re-trim and new settings do to
the arc and the account of their projector, and that they leave every other lamp. -/

namespace Sys2Proof.Machine

variable {s t u v : State} {p q : ProjNo} {a : Arc}

/-! ## Commands by what their block leaves -/

/-- A step that has nothing to settle. -/
theorem leaves_of_settles {r : Result} (hr : r = .next u.settle) (hu : u = t) (hw : t.work = .empty) : r = .next t := by
  rw [hr, hu, State.settle_of_empty t hw]

theorem exec_touchTimerExpiry (h : s.Awake) (p : ProjNo) :
    exec (.touchTimerExpiry p) s = .next (s.touchExpiry p).settle := event_of_awake h fun s => s.touchExpiry p

theorem exec_proofTimerExpiry (h : s.Awake) (p : ProjNo) :
    exec (.proofTimerExpiry p) s = .next (s.proofExpiry p).settle := event_of_awake h fun s => s.proofExpiry p

theorem exec_pauseTimerExpiry (h : s.Awake) (p : ProjNo) :
    exec (.pauseTimerExpiry p) s = .next (s.pauseExpiry p).settle := event_of_awake h fun s => s.pauseExpiry p

theorem exec_lossTimerExpiry (h : s.Awake) (p : ProjNo) :
    exec (.lossTimerExpiry p) s = .next (s.lossExpiry p).settle := event_of_awake h fun s => s.lossExpiry p

theorem exec_feedHighPhaseEnd (h : s.Awake) (p : ProjNo) :
    exec (.feedHighPhaseEnd p) s = .next (s.highEnd p).settle := event_of_awake h fun s => s.highEnd p

theorem exec_feedLowPhaseEnd (h : s.Awake) (p : ProjNo) :
    exec (.feedLowPhaseEnd p) s = .next (s.lowEnd p).settle := event_of_awake h fun s => s.lowEnd p

theorem exec_arcPresentReport (h : s.Awake) (p : ProjNo) : exec (.arcPresentReport p) s =
    .next ((s.setPins { s.pins with arcPresent := s.pins.arcPresent.set p true }).arcReported p).settle :=
  pinEvent_of_awake h (fun q => { q with arcPresent := q.arcPresent.set p true }) fun s => s.arcReported p

theorem exec_arcReportCeases (h : s.Awake) (p : ProjNo) : exec (.arcReportCeases p) s =
    .next ((s.setPins { s.pins with arcPresent := s.pins.arcPresent.set p false }).arcCeased p).settle :=
  pinEvent_of_awake h (fun q => { q with arcPresent := q.arcPresent.set p false }) fun s => s.arcCeased p

theorem exec_craterContactChange (h : s.Awake) (p : ProjNo) (k : CraterContact) (closed : Bool) :
    exec (.craterContactChange p k closed) s =
      .next ((s.setPins (s.pins.crater p k closed)).craterChange p).settle :=
  pinEvent_of_awake h (fun q => q.crater p k closed) fun s => s.craterChange p

/-! ## The end of a step -/

/-- What is left of the arcs, the retained store and the shutters when one arc has changed. -/
theorem State.of_setArc (h : t.outsideNotices = (s.setArc p a).outsideNotices) :
    t.arcs = s.arcs.set p a ∧ t.retained = s.retained ∧ t.shutterUnit = s.shutterUnit := by
  simp only [State.outsideNotices, State.mk.injEq] at h
  simp only [h, State.setArc_arcs, State.setArc_retained, State.setArc_shutterUnit, and_self]

theorem State.settle_of_setArc (h : t.outsideNotices = (s.setArc p a).outsideNotices) :
    t.settle.arcs = s.arcs.set p a ∧ t.settle.retained = s.retained ∧ t.settle.shutterUnit = s.shutterUnit := by
  rw [State.settle_arcs, State.settle_retained, State.settle_shutterUnit]
  exact State.of_setArc h

/-- The same for a request, whose reply begins in the step (R179). -/
theorem State.reply_of_setArc (h : t.outsideNotices = (s.setArc p a).outsideNotices) (st : Station) (r : Request)
    (x : Answer) : (t.reply st r x).settle.arcs = s.arcs.set p a ∧ (t.reply st r x).settle.retained = s.retained ∧
      (t.reply st r x).settle.shutterUnit = s.shutterUnit := by
  rw [State.settle_arcs, State.settle_retained, State.settle_shutterUnit]
  exact State.of_setArc (t := t) h

/-- The arcs of a step that has changed one. -/
theorem State.settle_arc (h : t.outsideNotices = (s.setArc p a).outsideNotices) (q : ProjNo) :
    t.settle.arc q = if q = p then a else s.arc q := by
  rw [State.arc, (State.settle_of_setArc h).1, ByProj.get_set, ← State.arc]

/-- The lamps of a step that has changed one. -/
theorem State.settle_lamp {l : Lamp} (h : t.outsideNotices = (s.setLamp p l).outsideNotices) (q : ProjNo) :
    t.settle.lamp q = if q = p then l else s.lamp q := by
  rw [State.lamp_congr t.settle_lampPart, State.lamp_congr (State.lampPart_of_outsideNotices h), State.lamp_setLamp]

theorem Arc.endSpan_mark (a : Arc) (c : Nat) : (a.endSpan c).mark = none := by rw [a.endSpan_eq]

/-! ## STRIKE and EXTINGUISH (R87, R91) -/

theorem passes_strike (t : Byte) : Passes (.strike .console t) .console ⟨0x41#8, t, []⟩ := ⟨rfl, rfl, Nat.zero_le _⟩

theorem passes_extinguish (t : Byte) : Passes (.extinguish .console t) .console ⟨0x42#8, t, []⟩ :=
  ⟨rfl, rfl, Nat.zero_le _⟩

theorem strike_state (h : (s.arc p).state ≠ .off) : strike p s = refuse .state s := if_pos h

theorem strike_fire (h : (s.arc p).state = .off) (hf : s.shutterUnit.fireActive = true) :
    strike p s = refuse .fire s := by
  rw [strike, if_neg (not_not_intro h), if_pos hf]

section Permitted

variable (h : (s.arc p).state = .off) (hf : s.shutterUnit.fireActive = false)
include h hf

theorem strike_short (hc : (s.arcStore p).remaining ≤ (s.arcStore p).reserve) :
    strike p s = refuse .carbonShort s := by
  rw [strike, if_neg (not_not_intro h), hf, if_neg Bool.false_ne_true, if_pos hc]

theorem strike_taken (hc : (s.arcStore p).reserve < (s.arcStore p).remaining) : strike p s =
    ((s.setArc p { s.arc p with state := .striking, attempts := 3, phase := some ⟨.touch, 400⟩ }).arcNotice p, .ok []) := by
  rw [strike, if_neg (not_not_intro h), hf, if_neg Bool.false_ne_true, if_neg (Nat.not_le.mpr hc)]

end Permitted

theorem extinguish_taken (h : (s.arc p).state = .striking ∨ (s.arc p).state = .burning ∨ (s.arc p).state = .fault) :
    extinguish p s = (s.putOut p, .ok []) := by
  unfold extinguish
  rcases h with h | h | h
  all_goals rw [h]

theorem extinguish_idle (h : (s.arc p).state = .off ∨ (s.arc p).state = .spent) : extinguish p s = (s, .ok []) := by
  unfold extinguish
  rcases h with h | h
  all_goals rw [h]

/-- An arc that goes out, its measuring span with it (R91, R101). -/
theorem Arc.out_eq (a : Arc) (c : Nat) : a.out c =
    { a with
      state := .off, phase := none, attempts := 0, lossTimer := none, train := .idle, mark := none
      frames := match a.mark with
        | none => a.frames
        | some m => min 65535 (a.frames + (c - m)) } := by
  unfold Arc.out Arc.endSpan
  cases hm : a.mark with
  | none => simp [hm]
  | some m => rfl

/-- Settles O34: STRIKE by its checks, EXTINGUISH by the state that it finds. -/
theorem strikeAndExtinguish : Obligations.StrikeAndExtinguish := by
  intro s t p h hp
  have hstrike : ∀ {e}, strike p s = refuse e s → Refuses (.strike .console t) s e := fun hb =>
    (passes_strike t).refuses h rfl (by rw [hp, withTarget_some, hb])
  refine ⟨fun hn => hstrike (strike_state hn), fun ho hf => hstrike (strike_fire ho hf), fun ho hf =>
    ⟨fun hc => hstrike (strike_short ho hf hc), fun hc => ?_⟩, fun hl => ?_, fun hi => ?_⟩
  · exact (passes_strike t).leads h hp rfl (strike_taken ho hf hc)
      (State.reply_of_setArc (State.arcNotice_outsideNotices _ p) _ _ _)
  · have hout := s.putOut_outsideNotices p
    rw [Arc.out_eq] at hout
    exact (passes_extinguish t).leads h hp rfl (extinguish_taken hl) (State.reply_of_setArc hout _ _ _)
  · exact (passes_extinguish t).answers h rfl (by rw [hp, withTarget_some, extinguish_idle hi]) h.work

/-! ## The phases of a strike (R88, R89) -/

theorem Arc.inPhase_eq {j : StrikePhase} {left : Nat} (hs : a.state = .striking) (hp : a.phase = some ⟨j, left⟩)
    (k : StrikePhase) : a.inPhase k = decide (j = k) := by
  simp [Arc.inPhase, hs, hp]

theorem Arc.inPhase_of_state (h : a.state ≠ .striking) (k : StrikePhase) : a.inPhase k = false := by
  simp [Arc.inPhase, h]

/-- An arc that has been established, with its crater contacts read (R88, R94, R95). -/
theorem Arc.read_established (a : Arc) (k : ArcStore) (c : Nat) (long short : Bool) :
    ((a.established c).read k long short).sensorReported = (long && short) ∧
    ((a.established c).read k long short).train =
      if long && !short then .high k.highWidth k.lowWidth k.highWidth else .idle := by
  refine ⟨rfl, ?_⟩
  cases long <;> cases short <;> rfl

theorem State.touchExpiry_present (h : (s.arc p).inPhase .touch = true) (hp : s.pins.arcPresent.get p = true) :
    s.touchExpiry p = s.establish p := by
  rw [State.touchExpiry, if_pos h, if_pos hp]

theorem State.touchExpiry_absent (h : (s.arc p).inPhase .touch = true) (hp : s.pins.arcPresent.get p = false) :
    s.touchExpiry p = s.setArc p { s.arc p with phase := some ⟨.proof, 2000⟩ } := by
  rw [State.touchExpiry, if_pos h, hp, if_neg Bool.false_ne_true]

theorem State.touchExpiry_outside (h : (s.arc p).inPhase .touch = false) : s.touchExpiry p = s := by
  rw [State.touchExpiry, h, if_neg Bool.false_ne_true]

theorem State.proofExpiry_outside (h : (s.arc p).inPhase .proof = false) : s.proofExpiry p = s := by
  rw [State.proofExpiry, h, if_neg Bool.false_ne_true]

theorem State.proofExpiry_again (h : (s.arc p).inPhase .proof = true) (ha : 1 < (s.arc p).attempts) :
    s.proofExpiry p =
      s.setArc p { s.arc p with attempts := (s.arc p).attempts - 1, phase := some ⟨.pause, 3000⟩ } := by
  rw [State.proofExpiry, if_pos h, if_pos ha]

theorem State.proofExpiry_last (h : (s.arc p).inPhase .proof = true) (ha : (s.arc p).attempts ≤ 1) :
    s.proofExpiry p = s.strikeFails p := by
  rw [State.proofExpiry, if_pos h, if_neg (Nat.not_lt.mpr ha)]

theorem State.pauseExpiry_inside (h : (s.arc p).inPhase .pause = true) :
    s.pauseExpiry p = s.setArc p { s.arc p with phase := some ⟨.touch, 400⟩ } := if_pos h

theorem State.pauseExpiry_outside (h : (s.arc p).inPhase .pause = false) : s.pauseExpiry p = s := by
  rw [State.pauseExpiry, h, if_neg Bool.false_ne_true]

theorem State.arcReported_proof (h : (s.arc p).inPhase .proof = true) (pins : Pins) :
    (s.setPins pins).arcReported p = (s.setPins pins).establish p := if_pos h

theorem State.arcReported_burning (h : (s.arc p).state = .burning) :
    s.arcReported p = s.setArc p { s.arc p with lossTimer := none } := by
  rw [State.arcReported, Arc.inPhase_of_state (by simp [h]), if_neg Bool.false_ne_true, if_pos h]

/-- An arc is established, whatever level the arc-present sensor has. -/
theorem State.establish_settles (s : State) (p : ProjNo) {pins : Pins} (hl : pins.craterLong = s.pins.craterLong)
    (hs : pins.craterShort = s.pins.craterShort) :
    (((s.setPins pins).establish p).settle.arc p = ((s.arc p).established (s.tracker p).counter).read (s.arcStore p)
      (s.pins.craterLong.get p) (s.pins.craterShort.get p)) ∧
    (∀ q, q ≠ p → ((s.setPins pins).establish p).settle.arc q = s.arc q) ∧
    ((s.setPins pins).establish p).settle.retained = s.retained := by
  have hout := (s.setPins pins).establish_outsideNotices p
  refine ⟨?_, fun q hq => ?_, (State.settle_of_setArc hout).2.1⟩
  · rw [State.settle_arc hout, if_pos rfl, State.setPins_pins, hl, hs]
    rfl
  · rw [State.settle_arc hout, if_neg hq]
    rfl

/-- Settles O35: each expiry and the report by the phase that they find. -/
theorem strikePhasesFollow : Obligations.StrikePhasesFollow := by
  intro s p left h hs lit
  have hlit : ∀ {pins : Pins}, pins.craterLong = s.pins.craterLong → pins.craterShort = s.pins.craterShort →
      lit ((s.setPins pins).establish p).settle := by
    intro pins hl hr
    obtain ⟨harc, hothers, hret⟩ := s.establish_settles p hl hr
    obtain ⟨hsensor, htrain⟩ := (s.arc p).read_established (s.arcStore p) (s.tracker p).counter
      (s.pins.craterLong.get p) (s.pins.craterShort.get p)
    refine ⟨?_, ?_, ?_, ?_, ?_, ?_, ?_, hothers, hret⟩ <;> rw [harc]
    · rfl
    · rfl
    · rfl
    · rfl
    · rfl
    · exact hsensor
    · exact htrain
  have htouch := fun hn : (s.arc p).inPhase .touch = false =>
    leaves_of_settles (exec_touchTimerExpiry h p) (State.touchExpiry_outside hn) h.work
  have hproof := fun hn : (s.arc p).inPhase .proof = false =>
    leaves_of_settles (exec_proofTimerExpiry h p) (State.proofExpiry_outside hn) h.work
  have hpause := fun hn : (s.arc p).inPhase .pause = false =>
    leaves_of_settles (exec_pauseTimerExpiry h p) (State.pauseExpiry_outside hn) h.work
  refine ⟨fun hph => ?_, fun hph => ?_, fun hph => ?_⟩
  · have hin := Arc.inPhase_eq hs hph
    refine ⟨fun hp => ⟨_, exec_touchTimerExpiry h p, ?_⟩, fun hp => ?_, hproof (hin _), hpause (hin _)⟩
    · rw [State.touchExpiry_present (hin _) hp]
      exact hlit (pins := s.pins) rfl rfl
    · exact leaves_of_settles (exec_touchTimerExpiry h p) (State.touchExpiry_absent (hin _) hp) h.work
  · have hin := Arc.inPhase_eq hs hph
    refine ⟨⟨_, exec_arcPresentReport h p, ?_⟩, fun ha => ?_, fun ha => ⟨_, exec_proofTimerExpiry h p, ?_⟩,
      htouch (hin _), hpause (hin _)⟩
    · rw [State.arcReported_proof (hin _)]
      exact hlit rfl rfl
    · exact leaves_of_settles (exec_proofTimerExpiry h p) (State.proofExpiry_again (hin _) ha) h.work
    · obtain ⟨harcs, hret, -⟩ := State.settle_of_setArc (s.strikeFails_outsideNotices p)
      rw [State.proofExpiry_last (hin _) ha]
      exact ⟨harcs, hret⟩
  · have hin := Arc.inPhase_eq hs hph
    exact ⟨leaves_of_settles (exec_pauseTimerExpiry h p) (State.pauseExpiry_inside (hin _)) h.work,
      htouch (hin _), hproof (hin _)⟩

/-! ## A lost arc (R90) -/

theorem State.arcCeased_starts (h : (s.arc p).state = .burning) (hl : (s.arc p).lossTimer = none) :
    s.arcCeased p = s.setArc p { s.arc p with lossTimer := some 500 } := by
  rw [State.arcCeased, if_pos (by simp [h, hl])]

theorem State.arcCeased_running (hl : (s.arc p).lossTimer ≠ none) : s.arcCeased p = s := by
  rw [State.arcCeased, if_neg (by simp [hl])]

theorem State.lossExpiry_burning (h : (s.arc p).state = .burning) (hl : (s.arc p).lossTimer ≠ none) :
    s.lossExpiry p = s.arcLost p := by
  rw [State.lossExpiry, if_pos (by simp [h, Option.isSome_iff_ne_none, hl])]

theorem State.lossExpiry_outside (h : (s.arc p).state ≠ .burning ∨ (s.arc p).lossTimer = none) :
    s.lossExpiry p = s := by
  rw [State.lossExpiry, if_neg]
  rcases h with h | h
  · simp [h]
  · simp [h]

/-- Settles O36: the report ceasing and returning, and the expiry by the state and the timer that it finds. -/
theorem lostArcsRestrikeOnce : Obligations.LostArcsRestrikeOnce := by
  intro s p h
  refine ⟨fun hb => ⟨fun hl => ⟨?_, ?_⟩, fun hl => ⟨?_, _, exec_lossTimerExpiry h p, ?_⟩, ?_⟩, fun hn => ?_⟩
  · exact leaves_of_settles (exec_arcReportCeases h p) (State.arcCeased_starts (s := s.setPins _) hb hl) h.work
  · exact leaves_of_settles (exec_lossTimerExpiry h p) (State.lossExpiry_outside (.inr hl)) h.work
  · exact leaves_of_settles (exec_arcReportCeases h p) (State.arcCeased_running (s := s.setPins _) hl) h.work
  · have harc := State.settle_arc (s.arcLost_outsideNotices p)
    rw [State.lossExpiry_burning hb hl]
    refine ⟨?_, ?_, ?_, ?_, ?_, ?_, fun q hq => (harc q).trans (if_neg hq),
      (State.settle_of_setArc (s.arcLost_outsideNotices p)).2.1⟩ <;> rw [harc, if_pos rfl]
    · rfl
    · rfl
    · rfl
    · rfl
    · rfl
    · exact Arc.endSpan_mark _ _
  · exact leaves_of_settles (exec_arcPresentReport h p) (State.arcReported_burning (s := s.setPins _) hb) h.work
  · exact leaves_of_settles (exec_lossTimerExpiry h p) (State.lossExpiry_outside (.inl hn)) h.work

/-! ## Carbon feed (R94 to R97) -/

theorem State.highEnd_of_low {h l left : Nat} (ht : (s.arc p).train = .low h l left) : s.highEnd p = s := by
  rw [State.highEnd, ht]

theorem State.lowEnd_of_high {h l left : Nat} (ht : (s.arc p).train = .high h l left) : s.lowEnd p = s := by
  rw [State.lowEnd, ht]

theorem State.lowEnd_of_low {h l left : Nat} (ht : (s.arc p).train = .low h l left) : s.lowEnd p = s.setArc p
    { s.arc p with train := if s.pins.craterLong.get p && !s.pins.craterShort.get p then .high h l h else .idle } := by
  rw [State.lowEnd, ht]
  dsimp only
  split
  · rfl
  · rfl

/-- A HIGH phase that ends is a feed step (R95, R96). -/
theorem State.highEnd_lamp {h l left : Nat} (ht : (s.arc p).train = .high h l left) : (s.highEnd p).settle.lamp p =
    Lamp.fed ⟨{ s.arc p with train := .low h l l }, s.arcStore p⟩ (s.tracker p).counter := by
  have hend : s.highEnd p = (s.setArc p { s.arc p with train := .low h l l }).feedStep p := by rw [State.highEnd, ht]
  rw [hend, State.settle_lamp (State.feedStep_outsideNotices _ p), if_pos rfl, State.setArc_lamp, if_pos rfl]
  rfl

theorem ArcStore.feed_carbon {k : ArcStore} (h : k.remaining ≠ 0) :
    k.feed = { k with remaining := k.remaining - 1, stepsSinceTrim := k.stepsSinceTrim + 1 } := if_neg h

/-- A feed step that leaves carbon (R96, R97). -/
theorem Lamp.fed_left {l : Lamp} (h : 2 ≤ l.store.remaining) (c : Nat) :
    l.fed c = Lamp.judged ⟨l.arc.feed, { l.store with
      remaining := l.store.remaining - 1, stepsSinceTrim := l.store.stepsSinceTrim + 1 }⟩ := by
  rw [Lamp.fed, ArcStore.feed_carbon (by omega)]
  exact if_neg (Nat.sub_ne_zero_of_lt h)

/-- The last feed step (R96, R97). -/
theorem Lamp.fed_last {l : Lamp} (h : l.store.remaining = 1) (c : Nat) :
    (l.fed c).store.remaining = 0 ∧ (l.fed c).arc = Arc.spent { l.arc.feed with low := true } c := by
  rw [Lamp.fed, ArcStore.feed_carbon (by omega)]
  simp [Lamp.judged, h]

theorem Arc.feed_eq (a : Arc) :
    a.feed = { a with steps := if a.mark.isSome then min 60000 (a.steps + 1) else a.steps } := by
  unfold Arc.feed
  split
  · rfl
  · rfl

/-! ### The crater contacts -/

theorem State.craterChange_dark (h : (s.arc p).state ≠ .burning) : s.craterChange p = s := if_neg h

theorem State.craterChange_not_long (hl : s.pins.craterLong.get p = false) : s.craterChange p = s := by
  unfold State.craterChange State.readCrater
  rw [hl]
  split
  · rfl
  · rfl

section Burning

variable (hb : (s.arc p).state = .burning) (hl : s.pins.craterLong.get p = true)
include hb hl

theorem State.craterChange_idle (hs : s.pins.craterShort.get p = false) (ht : (s.arc p).train = .idle) :
    s.craterChange p = s.setArc p { s.arc p with
      train := .high (s.arcStore p).highWidth (s.arcStore p).lowWidth (s.arcStore p).highWidth } := by
  unfold State.craterChange State.readCrater
  rw [if_pos hb, hl, hs]
  exact if_pos ht

theorem State.craterChange_feeding (hs : s.pins.craterShort.get p = false) (ht : (s.arc p).train ≠ .idle) :
    s.craterChange p = s := by
  unfold State.craterChange State.readCrater
  rw [if_pos hb, hl, hs]
  exact if_neg ht

theorem State.craterChange_both (hs : s.pins.craterShort.get p = true) (hr : (s.arc p).sensorReported = false) :
    s.craterChange p = (s.setArc p { s.arc p with sensorReported := true }).post (.arc p) (.sensor p) := by
  unfold State.craterChange State.readCrater
  rw [if_pos hb, hl, hs, hr]
  rfl

theorem State.craterChange_reported (hs : s.pins.craterShort.get p = true) (hr : (s.arc p).sensorReported = true) :
    s.craterChange p = s := by
  unfold State.craterChange State.readCrater
  rw [if_pos hb, hl, hs, hr]
  rfl

end Burning

/-- Settles O37: the ends of the phases by the train that they find, and a reading by the contacts. -/
theorem carbonIsFedByPulses : Obligations.CarbonIsFedByPulses := by
  intro s p h
  refine ⟨fun hi l left ht => ⟨fun hc => ?_, fun hc => ?_, ?_⟩, fun hi l left ht => ⟨?_, ?_⟩, fun k closed q hq => ?_⟩
  · have hlamp := (State.highEnd_lamp ht).trans (Lamp.fed_left (l := ⟨_, s.arcStore p⟩) hc _)
    have harc : (s.highEnd p).settle.arc p = _ := congrArg Lamp.arc hlamp
    have hstore : (s.highEnd p).settle.arcStore p = _ := congrArg Lamp.store hlamp
    refine ⟨_, exec_feedHighPhaseEnd h p, hstore, ?_, ?_, fun hm hs => ?_, ?_⟩ <;> rw [harc, Arc.feed_eq]
    · rfl
    · rfl
    · have hsome : (s.arc p).mark.isSome = true := Option.isSome_iff_ne_none.mpr hm
      simp only [Lamp.judged, hsome, if_true]
      omega
    · rfl
  · have hlamp := State.highEnd_lamp ht
    obtain ⟨hzero, hspent⟩ := Lamp.fed_last (l := ⟨{ s.arc p with train := .low hi l l }, s.arcStore p⟩) hc
      (s.tracker p).counter
    have harc : (s.highEnd p).settle.arc p = _ := (congrArg Lamp.arc hlamp).trans hspent
    have hstore : (s.highEnd p).settle.arcStore p = _ := congrArg Lamp.store hlamp
    refine ⟨_, exec_feedHighPhaseEnd h p, by rw [hstore, hzero], ?_, ?_, ?_, ?_, ?_⟩ <;> rw [harc]
    · rfl
    · rfl
    · rfl
    · exact Arc.endSpan_mark _ _
    · exact Arc.endSpan_low _ _
  · exact leaves_of_settles (exec_feedLowPhaseEnd h p) (State.lowEnd_of_high ht) h.work
  · exact leaves_of_settles (exec_feedLowPhaseEnd h p) (State.lowEnd_of_low ht) h.work
  · exact leaves_of_settles (exec_feedHighPhaseEnd h p) (State.highEnd_of_low ht) h.work
  · subst hq
    have hexec := exec_craterContactChange h p k closed
    generalize s.pins.crater p k closed = pins at hexec
    have hwork : (s.setPins pins).work = .empty := h.work
    refine ⟨fun hn => leaves_of_settles hexec (State.craterChange_dark (s := s.setPins pins) hn) hwork, fun hb =>
      ⟨fun hl hs ht => ?_, fun hl => ?_, fun hl hs hr => ?_, fun hl hs hr => ?_, fun hl hs ht => ?_⟩⟩
    · exact leaves_of_settles hexec (State.craterChange_idle (s := s.setPins pins) hb hl hs ht) h.work
    · exact leaves_of_settles hexec (State.craterChange_not_long (s := s.setPins pins) hl) hwork
    · rw [hexec, State.craterChange_both (s := s.setPins pins) hb hl hs hr,
        State.settle_post_of_quiet (w := (s.setPins pins).setArc p _) h.work, ← h.work]
      rfl
    · exact leaves_of_settles hexec (State.craterChange_reported (s := s.setPins pins) hb hl hs hr) hwork
    · exact leaves_of_settles hexec (State.craterChange_feeding (s := s.setPins pins) hb hl hs ht) hwork

/-! ## RETRIM_DONE and SET_ARC (R99, R100) -/

theorem passes_retrimDone (t : Byte) (trim : Half) :
    Passes (.retrimDone .console t trim) .console ⟨0x43#8, t, trim.bytes⟩ := ⟨rfl, rfl, Nat.le_of_ble_eq_true rfl⟩

theorem passes_setArc (t : Byte) (reserve rate : Half) (high low : Byte) :
    Passes (.setArc .console t reserve rate high low) .console
      ⟨0x44#8, t, reserve.bytes ++ rate.bytes ++ [high, low]⟩ := ⟨rfl, rfl, Nat.le_of_ble_eq_true rfl⟩

/-- A request that has changed one lamp leaves every other. -/
theorem State.reply_of_setLamp {l : Lamp} (h : t.outsideNotices = (s.setLamp p l).outsideNotices) (st : Station)
    (r : Request) (x : Answer) : (t.reply st r x).settle.arcStore p = l.store ∧ (t.reply st r x).settle.arc p = l.arc ∧
      ∀ q, q ≠ p → (t.reply st r x).settle.arcStore q = s.arcStore q ∧ (t.reply st r x).settle.arc q = s.arc q := by
  have hlamp : ∀ q, (t.reply st r x).settle.lamp q = if q = p then l else s.lamp q := fun q => by
    rw [State.lamp_congr (State.settle_lampPart _), ← State.settle_lamp h q, State.lamp_congr t.settle_lampPart]
    rfl
  have hp := (hlamp p).trans (if_pos rfl)
  exact ⟨congrArg Lamp.store hp, congrArg Lamp.arc hp, fun q hq =>
    have hother := (hlamp q).trans (if_neg hq)
    ⟨congrArg Lamp.store hother, congrArg Lamp.arc hother⟩⟩

theorem ArcState.unlit_of {x : ArcState} (h : x = .off ∨ x = .fault ∨ x = .spent) : x.lit = false := by
  rcases h with rfl | rfl | rfl
  all_goals rfl

/-- Settles O38: each request by its checks, and the lamp that it writes. -/
theorem trimAndArcSettings : Obligations.TrimAndArcSettings := by
  intro s t p h hp
  refine ⟨fun trim => ⟨fun hl => ?_, fun hl => ⟨fun hbad => ?_, fun h1 h2 => ?_⟩⟩, fun reserve rate high low =>
    ⟨fun h1 h2 h3 h4 h5 h6 h7 => ?_, fun hbad => ?_⟩⟩
  · have hlit : (s.arc p).state.lit = true := by
      rcases hl with hl | hl
      · rw [hl]; rfl
      · rw [hl]; rfl
    exact (passes_retrimDone t trim).refuses h rfl (by rw [hp, withTarget_some, retrimDone_lit trim hlit])
  · exact (passes_retrimDone t trim).refuses h rfl
      (by rw [hp, withTarget_some, retrimDone_range (ArcState.unlit_of hl) hbad])
  · obtain ⟨u, hbody, hout⟩ := retrimDone_taken (ArcState.unlit_of hl) h1 h2
    have hlow : decide (trim.toNat ≤ (s.arcStore p).reserve) = false := decide_eq_false (Nat.not_le.mpr h2)
    obtain ⟨hstore, harc, hothers⟩ := State.reply_of_setLamp hout .console ⟨0x43#8, t, trim.bytes⟩ (.ok [])
    exact (passes_retrimDone t trim).leads h hp rfl hbody ⟨hstore, harc.trans (by rw [← hlow]; rfl), hothers⟩
  · obtain ⟨u, hbody, hout⟩ := setArcSettings_taken (s := s) (p := p)
      (arcSettingsOk_iff.mpr ⟨h1, h2, h3, h4, h5, h6, h7⟩)
    exact (passes_setArc t reserve rate high low).leads h hp rfl hbody (State.reply_of_setLamp hout _ _ _)
  · have hrate : rate = 0 → rate.toNat = 0 := fun hr => by rw [hr]; rfl
    have hno : ¬ arcSettingsOk reserve rate high low = true := by
      have hout := hbad.imp_right (Or.imp_left hrate)
      rw [arcSettingsOk_iff]
      omega
    exact (passes_setArc t reserve rate high low).refuses h rfl
      (by rw [hp, withTarget_some, setArcSettings_range hno])

end Sys2Proof.Machine
end
